-- ==== Sys2Proof/Word.lean ====
section
/-! DEFINITION. The words of the part: bytes and multi-byte fields as the line carries them (chapter 11), and frame numbers (R32). -/

namespace Sys2Proof

/-- One byte of a payload. -/
abbrev Byte := BitVec 8

/-- A two-byte field of a payload, most significant byte first on the line (R172). -/
abbrev Half := BitVec 16

/-- A 24-bit field address (R2). -/
abbrev FieldAddress := BitVec 24

/-- A frame number: 16 bits, wrapping from 65535 to 0 (R32). -/
abbrev FrameNo := BitVec 16

end Sys2Proof
end

