-- ==== Sys2Proof/Syntax.lean ====
section
/-! DEFINITION. The commands: the requests of chapter 11 with their payload fields, and `Instr`, one constructor
for each row of spec/opcode_table.json. -/

namespace Sys2Proof

/-- One phase's values in a REPORT entry: V, I and the surge flag byte (section 11.2). -/
structure PhaseValue where
  v : Half
  i : Half
  surge : Byte
  deriving DecidableEq, Repr, Inhabited

/-- One REPORT entry (section 3.2 and 11.2). `values` stands in the order A, B, C for the phases carried. -/
structure ReportEntry where
  address : FieldAddress
  frame : Half
  quality : Byte
  carried : Byte
  values : List PhaseValue
  residual : Half
  deriving DecidableEq, Repr, Inhabited

/-- One SET_PARAMS pair (R106). -/
structure ParamPair where
  id : Byte
  value : Half
  deriving DecidableEq, Repr, Inhabited

/-- One CONFIG_TRIP_OUTPUTS entry (R143). -/
structure ChannelEntry where
  channel : Byte
  width : Half
  polarity : Byte
  drive : Byte
  deriving DecidableEq, Repr, Inhabited

/-- The request kinds assigned to no request (R168): 0, 30 and 31. -/
inductive UnassignedKind where
  | kind0
  | kind30
  | kind31
  deriving DecidableEq, Repr, Inhabited

/-- A good request as Host Link buffers it (R168): its kind with its payload fields (section 11.2), codes as raw
bytes. `malformed` is a payload of an assigned kind whose length or count fits no field layout; it carries the
offset that its BAD_FIELD reply gives (R170, R172; log 8). -/
inductive Request where
  | identify
  | getStatus
  | setMode (target : Byte)
  | restart
  | selfTest
  | setTimebase (period : Half) (enable presence : Byte) (next : Half)
  | setProfile (profile : Byte)
  | setParams (pairs : List ParamPair)
  | setInhibit (value : Byte)
  | defineSensor (slot : Byte) (address : FieldAddress) (phases latency : Byte)
  | retireSensor (slot : Byte)
  | querySensor (slot : Byte)
  | defineSegment (segment phases upstream : Byte) (budget : Half) (policy : Byte) (iSurge : Half) (down : List Byte)
  | removeSegment (segment : Byte)
  | querySegment (segment : Byte)
  | releaseSegment (segment : Byte)
  | restoreSegment (segment : Byte)
  | defineInterrupter (id kind channel slot : Byte) (confirm : Half)
  | removeInterrupter (id : Byte)
  | queryInterrupter (id : Byte)
  | setArm (id arming : Byte)
  | interrupterState (id position : Byte)
  | ackTrip (id : Byte)
  | configTripOutputs (entries : List ChannelEntry)
  | report (entries : List ReportEntry)
  | fetchNotices (number : Byte)
  | getCounts
  | clearCounts (token : Byte)
  | inject (target number size position : Byte)
  | unknownKind (kind : UnassignedKind)
  | malformed (kind : BitVec 6) (offset : Nat)
  deriving DecidableEq, Repr, Inhabited

/-- What the end of a self-test step found (R161). For step 4 the check of the test message is the operand of
LINK_LOOPBACK. -/
inductive StepFindings where
  /-- Step 6: bit k of `badBanks` when record bank k has a bad word; whether the interrupter bank has one. -/
  | pattern (badBanks : BitVec 8) (interrupterBankBad : Bool)
  /-- Step 5: the single error came back corrected and the double error was reported. -/
  | errorCheck (passed : Bool)
  /-- Step 4: its end, judged by what LINK_LOOPBACK found. -/
  | loopback
  /-- Step 3: bit k when channel k's pin did not read back its inactive level. -/
  | channels (bad : BitVec 4)
  /-- Step 2: the millisecond timebase agreed with the count of CLKIN. -/
  | timebase (passed : Bool)
  /-- Step 1: cannot fail. -/
  | tables
  deriving DecidableEq, Repr, Inhabited

/-- The two causes that LINK_FRAMING counts (R167). -/
inductive FramingCause where
  | lowStopBit
  | lengthAbove240
  deriving DecidableEq, Repr, Inhabited

/-- The commands, one constructor for each row of spec/opcode_table.json. A request row is the arrival on the line
of a good message with that request (log 3); every other row is an event on a pin, on the line or of time. -/
inductive Instr where
  | identify
  | getStatus
  | setMode (target : Byte)
  | restart
  | selfTest
  | setTimebase (period : Half) (enable presence : Byte) (next : Half)
  | setProfile (profile : Byte)
  | setParams (pairs : List ParamPair)
  | setInhibit (value : Byte)
  | defineSensor (slot : Byte) (address : FieldAddress) (phases latency : Byte)
  | retireSensor (slot : Byte)
  | querySensor (slot : Byte)
  | defineSegment (segment phases upstream : Byte) (budget : Half) (policy : Byte) (iSurge : Half) (down : List Byte)
  | removeSegment (segment : Byte)
  | querySegment (segment : Byte)
  | releaseSegment (segment : Byte)
  | restoreSegment (segment : Byte)
  | defineInterrupter (id kind channel slot : Byte) (confirm : Half)
  | removeInterrupter (id : Byte)
  | queryInterrupter (id : Byte)
  | setArm (id arming : Byte)
  | interrupterState (id position : Byte)
  | ackTrip (id : Byte)
  | configTripOutputs (entries : List ChannelEntry)
  | report (entries : List ReportEntry)
  | fetchNotices (number : Byte)
  | getCounts
  | clearCounts (token : Byte)
  | inject (target number size position : Byte)
  | unknownKind (kind : UnassignedKind)
  | hardReset (station baud : BitVec 2)
  | selfTestStepEnd (findings : StepFindings)
  | linkLoopback (messageGood : Bool)
  | messageReceived (address : Byte) (payload : List Byte) (check : Half)
  | linkAborted (address : Byte)
  | linkBreak
  | linkFraming (cause : FramingCause)
  | gapTimeout
  | replySendStart
  | replySent
  | syncEdge (time : Nat)
  | edgeHistoryTimeout
  | internalFrameStart
  | edgeWindowClose
  | passStage1
  | passStage2
  | passStage3
  | passStage4
  | passCompletion (requestsFirst : Fin 3)
  | deadlineExpiry (segment : Fin 40)
  | confirmTimerExpiry (id : Fin 16)
  | pulseTimerExpiry (channel : Fin 4)
  | inhibitInputChange (asserted : Bool)
  | addressCharacter (address : Byte)
  | resetNRelease
  deriving DecidableEq, Repr, Inhabited

end Sys2Proof
end

