-- ==== Sys2Proof/Machine/Records.lean ====
section
/-! DEFINITION. The data the blocks hold: records of the feeder model (chapter 1), frames (chapter 3), the pass
(chapter 5), channels (chapter 7), notices and counts (chapter 8), parameters (section 5.10). -/

namespace Sys2Proof.Machine

/-- A table keyed by number: (number, value) pairs with numbers strictly rising; an unlisted number holds nothing. -/
abbrev Table (α : Type) := List (Nat × α)

inductive Phase where
  | a
  | b
  | c
  deriving DecidableEq, Repr, Inhabited

/-- One item per phase. -/
structure PerPhase (α : Type) where
  a : α
  b : α
  c : α
  deriving DecidableEq, Repr, Inhabited

/-- A subset of the phases (1.7). -/
abbrev PhaseSet := PerPhase Bool

inductive Profile where
  | normal
  | elevated
  deriving DecidableEq, Repr, Inhabited

/-- The nine parameters of one detection profile (section 5.10). -/
structure ProfileParams where
  vLive : Nat
  vOpen : Nat
  unbalGap : Nat
  nOpen : Nat
  leakPickup : Nat
  arcPickup : Nat
  nContact : Nat
  iDead : Nat
  loadMin : Nat
  deriving DecidableEq, Repr, Inhabited

/-- The parameters set by SET_PARAMS (section 5.10). -/
structure Params where
  normal : ProfileParams
  elevated : ProfileParams
  minHold : Nat
  staleLimit : Nat
  baseShift : Nat
  settleFrames : Nat
  maintTail : Nat
  deriving DecidableEq, Repr, Inhabited

inductive ProfileParam where
  | vLive
  | vOpen
  | unbalGap
  | nOpen
  | leakPickup
  | arcPickup
  | nContact
  | iDead
  | loadMin
  deriving DecidableEq, Repr, Inhabited

/-- What a SET_PARAMS id names (R173), FRAME_PERIOD and SYNC_ENABLE apart, which R106 refuses. -/
inductive Param where
  | profile (which : Profile) (param : ProfileParam)
  | minHold
  | staleLimit
  | baseShift
  | settleFrames
  | maintTail
  deriving DecidableEq, Repr, Inhabited

/-! ### Sensors (section 1.3) -/

inductive SensorStatus where
  | active
  | stale
  deriving DecidableEq, Repr, Inhabited

/-- V and I of one phase as stored. -/
structure Reading where
  v : Nat
  i : Nat
  deriving DecidableEq, Repr, Inhabited

/-- The last values of a sensor (R58): V and I of each phase it carries, R and the frame number. -/
structure LastValues where
  readings : PerPhase (Option Reading)
  residual : Nat
  frame : FrameNo
  deriving DecidableEq, Repr, Inhabited

/-- A sensor record. `err` is the set of stored bits that stand inverted (R163), 0 for none. -/
structure SensorRec where
  address : FieldAddress
  phases : PhaseSet
  latency : Nat
  status : SensorStatus
  seen : Bool
  missingRun : Nat
  missingTotal : Nat
  last : Option LastValues
  residualBase : Nat
  currentBase : PerPhase Nat
  learn : Nat
  surge : PerPhase (Option FrameNo)
  err : BitVec 32
  deriving DecidableEq, Repr, Inhabited

/-- What a defined slot holds: a record, or a QUARANTINED record, whose fields are lost (R22). -/
inductive SensorPlace where
  | live (r : SensorRec)
  | quarantined
  deriving DecidableEq, Repr, Inhabited

/-! ### Segments (section 1.4) -/

inductive SegState where
  | normal
  | suspect
  | deenergized
  | settling
  | isolating
  | isolated
  | withheld
  | isolationFailed
  deriving DecidableEq, Repr, Inhabited

inductive Policy where
  | trip
  | hold
  deriving DecidableEq, Repr, Inhabited

inductive VerdictClass where
  | brokenConductor
  | downedConductor
  | brokenAndDown
  deriving DecidableEq, Repr, Inhabited

inductive ChainOutcome where
  | tripped
  | joined
  | skippedDisarmed
  | skippedFailed
  | skippedOpen
  | escalatedFrom
  | opened
  deriving DecidableEq, Repr, Inhabited

structure ChainEntry where
  id : Nat
  outcome : ChainOutcome
  deriving DecidableEq, Repr, Inhabited

/-- The four marks of a verdict. -/
structure Marks where
  deadline : Bool
  coarse : Bool
  backfed : Bool
  loadLoss : Bool
  deriving DecidableEq, Repr, Inhabited

/-- The verdict part of a segment (section 1.4, R89). -/
structure Verdict where
  verdictClass : VerdictClass
  phases : PhaseSet
  first : FrameNo
  confirm : FrameNo
  marks : Marks
  chain : List ChainEntry
  deriving DecidableEq, Repr, Inhabited

/-- The suspect details (R87). -/
structure SuspectDetails where
  first : FrameNo
  openPhases : PhaseSet
  backfed : Bool
  loadLoss : Bool
  coarse : Bool
  deriving DecidableEq, Repr, Inhabited

/-- A segment record. `deadline` is the moment (microseconds) at which the deadline timer expires. `excluded` is in
ascending order. -/
structure SegRec where
  phases : PhaseSet
  up : Nat
  down : List Nat
  budget : Nat
  policy : Policy
  iSurge : Nat
  state : SegState
  settle : Nat
  openCount : Nat
  contactCount : Nat
  deadline : Option Nat
  deadlinePassed : Bool
  operated : PhaseSet
  excluded : List Nat
  leakRing : List Nat
  transient : Nat
  verdict : Option Verdict
  suspect : Option SuspectDetails
  err : BitVec 32
  deriving DecidableEq, Repr, Inhabited

/-- What a defined segment number holds: a record, or a QUARANTINED record, whose fields are lost (R23). -/
inductive SegPlace where
  | live (r : SegRec)
  | quarantined
  deriving DecidableEq, Repr, Inhabited

/-! ### Interrupters (section 1.5) -/

inductive InterrupterKind where
  | loc (channel : Fin 4)
  | remote
  deriving DecidableEq, Repr, Inhabited

inductive IntState where
  | unknown
  | closed
  | tripping
  | opened
  | failed
  deriving DecidableEq, Repr, Inhabited

inductive FailReason where
  | noOpen
  | reported
  | tableError
  deriving DecidableEq, Repr, Inhabited

/-- An interrupter record. `confirm` is the moment (microseconds) at which the confirm timer expires. -/
structure IntRec where
  kind : InterrupterKind
  boundary : Nat
  confirmTime : Nat
  state : IntState
  reason : Option FailReason
  armed : Bool
  saved : Bool
  outstanding : Bool
  waiters : List Nat
  confirm : Option Nat
  pulseFrame : Option FrameNo
  err : BitVec 32
  deriving DecidableEq, Repr, Inhabited

/-- What a defined id holds: a record, or one FAILED with reason TABLE_ERROR, whose other fields are lost (R144). -/
inductive IntPlace where
  | live (r : IntRec)
  | tableError
  deriving DecidableEq, Repr, Inhabited

/-! ### Alignment Ring (section 3.3) -/

/-- One phase of a valid stored report (R43). -/
structure PhaseReport where
  v : Nat
  i : Nat
  surge : Bool
  deriving DecidableEq, Repr, Inhabited

/-- The values of a valid stored report: one entry per phase the sensor carries (R43). -/
structure ReportValues where
  phases : PerPhase (Option PhaseReport)
  residual : Nat
  deriving DecidableEq, Repr, Inhabited

inductive StoredReport where
  | valid (values : ReportValues)
  | invalid
  deriving DecidableEq, Repr, Inhabited

inductive FrameCond where
  | opened
  | closable
  | evaluating
  deriving DecidableEq, Repr, Inhabited

/-- A frame of the ring; `expected` is in ascending slot order, `reports` is keyed by slot. -/
structure Frame where
  number : FrameNo
  expected : List Nat
  reports : Table StoredReport
  cond : FrameCond
  deriving DecidableEq, Repr, Inhabited

/-! ### Notices (section 8.2) -/

inductive NoticeClass where
  | trip
  | state
  | maint
  deriving DecidableEq, Repr, Inhabited

inductive OpenSource where
  | measurement
  | report
  deriving DecidableEq, Repr, Inhabited

inductive TripCause where
  | verdict
  | escalation
  deriving DecidableEq, Repr, Inhabited

inductive TimebaseState where
  | internal
  | unlocked
  | locked
  | freewheel
  deriving DecidableEq, Repr, Inhabited

inductive TimebaseCause where
  | lockAcquired
  | syncLost
  | hostSet
  deriving DecidableEq, Repr, Inhabited

inductive TestOutcome where
  | pass
  | hard
  | fatal
  deriving DecidableEq, Repr, Inhabited

/-- The item types of 11.3. -/
inductive ItemType where
  | sensor
  | segment
  | interrupter
  | channel
  deriving DecidableEq, Repr, Inhabited

/-- The kinds of notice with their own fields, in the order their raising rule lists them (section 8.2; log 26). -/
inductive NoticeBody where
  | verdict (segment : Nat) (state : SegState) (verdictClass : VerdictClass) (phases : PhaseSet) (first confirm : FrameNo)
      (marks : Marks) (openCount contactCount : Nat) (arc : Option Nat)
  | tripStarted (id : Nat) (kind : InterrupterKind) (boundary confirmTime segment : Nat) (cause : TripCause)
  | escalated (id : Nat) (cause : FailReason) (segment : Option Nat) (state : Option SegState) (waitsOn : Option Nat)
  | interrupterOpened (id : Nat) (source : OpenSource) (isolated : Nat) (late : Bool)
  | isolationFailed (segment : Nat) (verdictClass : VerdictClass) (entries : Nat)
  | suspectBegin (segment : Nat) (openPresent contactPresent : Bool) (openPhases : PhaseSet)
  | suspectCleared (segment transient : Nat)
  | deadlinePassed (segment openCount contactCount : Nat) (first : FrameNo)
  | protectiveOperation (segment : Nat) (phase : Phase) (surge : FrameNo)
  | deenergized (segment : Nat) (left : SegState)
  | reenergized (segment settle : Nat)
  | sensorStale (slot run total : Nat)
  | sensorResumed (slot total : Nat) (segments : List Nat)
  | segmentDegraded (segment slot : Nat) (state : SegState) (blind degraded : Bool)
  | segmentBlind (segment slot : Nat) (state : SegState) (blind degraded : Bool)
  | quarantined (item : ItemType) (number : Nat)
  | timebase (old new : TimebaseState) (cause : TimebaseCause)
  | frameDropped (reports : Nat) (abandoned : Bool)
  | selfTestDone (outcome : TestOutcome) (bankMap : BitVec 8) (failedChannels : List Nat)
  | baselineReady (slot base : Nat)
  | eccCorrected (count bank : Nat)
  deriving DecidableEq, Repr, Inhabited

/-- A notice record. Its kind and class are fixed by its body. -/
structure Notice where
  seq : BitVec 16
  frame : FrameNo
  body : NoticeBody
  deriving DecidableEq, Repr, Inhabited

/-! ### Evaluation pass (R75) -/

inductive Stage where
  | one
  | two
  | three
  | four
  | completion
  deriving DecidableEq, Repr, Inhabited

inductive TestResult where
  | present
  | absent
  | notPerformed
  deriving DecidableEq, Repr, Inhabited

/-- A segment's stage 2 outcomes, working values of the pass (R57, R80, R87): `openPhases` are the phases PRESENT
after R84; `firstOpen` says that the open count was 0 before stage 2 and is 1 or more after it (R72). -/
structure SegWork where
  openResult : TestResult
  contactResult : TestResult
  openPhases : PhaseSet
  backfed : Bool
  coarse : Bool
  arc : Option Nat
  firstOpen : Bool
  deriving DecidableEq, Repr, Inhabited

/-- The pass in flight (R75) with the working values that outlive a stage. `stage` is the stage it takes next;
`shadowed` lists the boundary sensors whose interrupter was OPEN or TRIPPING when the pass began (R68). -/
structure Pass where
  frame : FrameNo
  stage : Stage
  shadowed : List Nat
  work : Table SegWork
  confirmed : Table VerdictClass
  sensorNotices : List NoticeBody
  segmentNotices : Table (List NoticeBody)
  seeded : List (Nat × Nat)
  deriving DecidableEq, Repr, Inhabited

/-! ### Trip channels (R141) -/

inductive Polarity where
  | high
  | low
  deriving DecidableEq, Repr, Inhabited

inductive Drive where
  | pushPull
  | openDrain
  deriving DecidableEq, Repr, Inhabited

/-- A trip channel; `pulse` is the moment (microseconds) at which the pulse timer expires. -/
structure Channel where
  width : Nat
  polarity : Polarity
  drive : Drive
  failed : Bool
  pulse : Option Nat
  deriving DecidableEq, Repr, Inhabited

/-- The four channels. -/
structure Channels where
  c0 : Channel
  c1 : Channel
  c2 : Channel
  c3 : Channel
  deriving DecidableEq, Repr, Inhabited

/-! ### Counts (R152) -/

inductive CountName where
  | linkCrc
  | linkFraming
  | linkGap
  | linkBreak
  | linkOverrun
  | linkAborted
  | reportLate
  | reportFuture
  | reportDuplicate
  | reportUnknown
  | reportClamped
  | frameDropped
  | syncMissed
  | eccCorrected
  | noticeDropped
  deriving DecidableEq, Repr, Inhabited

/-- The fifteen counts, in the order of the table in R152. -/
structure Counts where
  linkCrc : Nat
  linkFraming : Nat
  linkGap : Nat
  linkBreak : Nat
  linkOverrun : Nat
  linkAborted : Nat
  reportLate : Nat
  reportFuture : Nat
  reportDuplicate : Nat
  reportUnknown : Nat
  reportClamped : Nat
  frameDropped : Nat
  syncMissed : Nat
  eccCorrected : Nat
  noticeDropped : Nat
  deriving DecidableEq, Repr, Inhabited

inductive CondName where
  | rxOverrunSeen
  | syncLostSeen
  | noticeOverflow
  | eccDoubleSeen
  deriving DecidableEq, Repr, Inhabited

/-- The four latched conditions, or their raised-since-snapshot marks. -/
structure Conds where
  rxOverrunSeen : Bool
  syncLostSeen : Bool
  noticeOverflow : Bool
  eccDoubleSeen : Bool
  deriving DecidableEq, Repr, Inhabited

/-- A snapshot (R153). -/
structure Snapshot where
  token : BitVec 8
  counts : Counts
  conds : Conds
  deriving DecidableEq, Repr, Inhabited

/-! ### Table Memory (R162) -/

/-- The three results of a record read. -/
inductive ReadResult where
  | clean
  | single
  | double
  deriving DecidableEq, Repr, Inhabited

/-! ### Replies (R170) -/

inductive ResultCode where
  | ok
  | okWarning
  | unknownKind
  | badField
  | wrongMode
  | notReady
  | noSlot
  | inUse
  | notFound
  | topology
  | stateConflict
  | armedLock
  | staleSnapshot
  deriving DecidableEq, Repr, Inhabited

/-- A reply in the reply buffer: its kind, its payload, whether its check goes out with the lowest bit inverted
(R163), and whether a hard reset follows its last character (R160). -/
structure Reply where
  kind : BitVec 6
  payload : List Byte
  badCheck : Bool
  resetAfter : Bool
  deriving DecidableEq, Repr, Inhabited

/-- A character on the line: its mark bit and its data byte (R165, R166). -/
structure LineCharacter where
  mark : Bool
  data : BitVec 8
  deriving DecidableEq, Repr, Inhabited

/-- What follows a reply once it is handed to Host Link: nothing, the RESTART effects (R159), or a hard reset once
it has left the line (R160). -/
inductive Follow where
  | nothing
  | restart
  | hardReset
  deriving DecidableEq, Repr, Inhabited

/-- What a taken request answers: the result, the offset byte, the fields after the header, and what follows. -/
structure Answer where
  result : ResultCode
  offset : Nat
  fields : List Byte
  follow : Follow
  deriving DecidableEq, Repr, Inhabited

end Sys2Proof.Machine
end

