-- ==== Sys2Proof/Machine/Operands.lean ====
section
/-! DEFINITION. The fields of a request: the codes of R173, the ranges, and the BAD_FIELD check of every request,
which reads the request alone (R170, R172). -/

namespace Sys2Proof.Machine

/-- The offset of the first entry that fails, for checks listed in payload order. -/
def firstBad : List (Nat × Bool) → Option Nat
  | [] => none
  | (offset, ok) :: rest => if ok then firstBad rest else some offset

/-- A value within an inclusive range (1.7). -/
def within (lo hi n : Nat) : Bool := lo ≤ n && n ≤ hi

/-- A yes / no, set / clear, on / off or presence byte: 0 or 1 (R172). -/
def flagByte (b : Byte) : Bool := within 0 1 b.toNat

/-- A phase-set byte has bits 3 to 7 clear (R172). -/
def phaseByte (b : Byte) : Bool := within 0 7 b.toNat

/-- A phase-set byte whose field requires a non-empty set (R172). -/
def phaseByteNonempty (b : Byte) : Bool := within 1 7 b.toNat

/-- How many phases a phase-set byte names. -/
def carriedCount (b : Byte) : Nat :=
  (b.getLsbD 0).toNat + (b.getLsbD 1).toNat + (b.getLsbD 2).toNat

/-- The profile parameter at offset 1 to 9 of its block of ids (R173). -/
def profileParamOf : Nat → Option ProfileParam
  | 1 => some .vLive
  | 2 => some .vOpen
  | 3 => some .unbalGap
  | 4 => some .nOpen
  | 5 => some .leakPickup
  | 6 => some .arcPickup
  | 7 => some .nContact
  | 8 => some .iDead
  | 9 => some .loadMin
  | _ => none

/-- The parameter a SET_PARAMS id names, less FRAME_PERIOD and SYNC_ENABLE (R106, R173). -/
def paramOf (id : Byte) : Option Param :=
  if id.toNat < 16 then (profileParamOf id.toNat).map (.profile .normal)
  else if id.toNat < 32 then (profileParamOf (id.toNat - 16)).map (.profile .elevated)
  else match id.toNat with
    | 32 => some .minHold
    | 33 => some .staleLimit
    | 34 => some .baseShift
    | 35 => some .settleFrames
    | 36 => some .maintTail
    | _ => none

/-- The values SET_PARAMS takes for a parameter (tables of section 5.10). -/
def paramRange : Param → Nat × Nat
  | .profile _ .vLive => (512, 1228)
  | .profile _ .vOpen => (0, 1227)
  | .profile _ .unbalGap => (51, 512)
  | .profile _ .nOpen => (1, 15)
  | .profile _ .leakPickup => (5, 65535)
  | .profile _ .arcPickup => (1, 65535)
  | .profile _ .nContact => (2, 63)
  | .profile _ .iDead => (0, 200)
  | .profile _ .loadMin => (1, 65535)
  | .minHold => (1, 7)
  | .staleLimit => (4, 255)
  | .baseShift => (3, 6)
  | .settleFrames => (0, 15)
  | .maintTail => (0, 255)

/-- The value is one SET_PARAMS takes for the id. -/
def paramValueOk (id : Byte) (value : Half) : Bool :=
  match paramOf id with
  | none => false
  | some p => within (paramRange p).1 (paramRange p).2 value.toNat

/-- The checks of R106 on the pairs from the one at `offset`, `seen` being the ids before it. -/
def pairChecks (offset : Nat) (seen : List Byte) : List ParamPair → List (Nat × Bool)
  | [] => []
  | p :: rest =>
    (offset, (paramOf p.id).isSome) :: (offset, !seen.contains p.id) :: (offset + 1, paramValueOk p.id p.value)
      :: pairChecks (offset + 3) (p.id :: seen) rest

/-- The slots of a downstream list: each 0 to 47 and none twice (R9 check 1). -/
def downChecks (offset : Nat) (seen : List Byte) : List Byte → List (Nat × Bool)
  | [] => []
  | d :: rest =>
    (offset, within 0 47 d.toNat && !seen.contains d) :: downChecks (offset + 1) (d :: seen) rest

/-- The fields of DEFINE_SEGMENT ahead of its downstream list (R9 check 1). -/
def segmentHeadChecks (segment phases upstream : Byte) (budget : Half) (policy : Byte) (iSurge : Half) :
    List (Nat × Bool) :=
  [(0, within 0 39 segment.toNat), (1, phaseByteNonempty phases), (2, within 0 47 upstream.toNat),
   (3, within 200 3000 budget.toNat), (5, within 0 1 policy.toNat), (6, within 100 65535 iSurge.toNat)]

/-- The entries of CONFIG_TRIP_OUTPUTS (R143 check 1). -/
def channelChecks (offset : Nat) (seen : List Byte) : List ChannelEntry → List (Nat × Bool)
  | [] => []
  | e :: rest =>
    (offset, within 0 3 e.channel.toNat && !seen.contains e.channel) :: (offset + 1, within 1 500 e.width.toNat)
      :: (offset + 3, within 0 1 e.polarity.toNat) :: (offset + 4, within 0 1 e.drive.toNat)
      :: channelChecks (offset + 5) (e.channel :: seen) rest

/-- The surge flag bytes of one REPORT entry's phases. -/
def surgeChecks (offset : Nat) : List PhaseValue → List (Nat × Bool)
  | [] => []
  | p :: rest => (offset + 4, flagByte p.surge) :: surgeChecks (offset + 5) rest

/-- The entries of REPORT (R37, R172). -/
def entryChecks (offset : Nat) : List ReportEntry → List (Nat × Bool)
  | [] => []
  | e :: rest =>
    (offset + 5, within 0 1 e.quality.toNat) :: (offset + 6, phaseByte e.carried)
      :: (surgeChecks (offset + 7) e.values ++ entryChecks (offset + 9 + 5 * e.values.length) rest)

/-- The highest number of the table an INJECT target names (R163). -/
def injectLimit (target : Byte) : Nat :=
  if target = 0 then 47 else if target = 1 then 39 else 15

/-- The BAD_FIELD check of a request: the offset of its first offending field, or none (R2, R5, R6, R9, R14, R16,
R17, R19, R20, R33, R37, R103, R105, R106, R118, R130, R138, R139, R140, R143, R149, R158, R163). -/
def fieldFault : Request → Option Nat
  | .identify | .getStatus | .restart | .selfTest | .getCounts | .unknownKind _ | .clearCounts _ => none
  | .setMode t => firstBad [(0, within 0 1 t.toNat)]
  | .setTimebase period enable presence _ =>
    firstBad [(0, within 20 250 period.toNat), (2, flagByte enable), (3, flagByte presence)]
  | .setProfile p => firstBad [(0, within 0 1 p.toNat)]
  | .setParams pairs => firstBad ((0, within 1 16 pairs.length) :: pairChecks 1 [] pairs)
  | .setInhibit v => firstBad [(0, flagByte v)]
  | .defineSensor slot address phases latency =>
    firstBad [(0, within 0 47 slot.toNat), (1, within 1 16777214 address.toNat), (4, phaseByteNonempty phases),
      (5, within 0 7 latency.toNat)]
  | .retireSensor slot | .querySensor slot => firstBad [(0, within 0 47 slot.toNat)]
  | .defineSegment segment phases upstream budget policy iSurge down =>
    firstBad (segmentHeadChecks segment phases upstream budget policy iSurge
      ++ (8, within 0 6 down.length) :: downChecks 9 [] down)
  | .removeSegment n | .querySegment n | .releaseSegment n | .restoreSegment n => firstBad [(0, within 0 39 n.toNat)]
  | .defineInterrupter id kind channel slot confirm =>
    if kind = 0 then
      firstBad [(0, within 0 15 id.toNat), (2, within 0 3 channel.toNat), (3, within 0 47 slot.toNat),
        (4, within 100 5000 confirm.toNat)]
    else if kind = 1 then
      firstBad [(0, within 0 15 id.toNat), (2, within 0 47 slot.toNat), (3, within 100 5000 confirm.toNat)]
    else firstBad [(0, within 0 15 id.toNat), (1, false)]
  | .removeInterrupter id | .queryInterrupter id | .ackTrip id => firstBad [(0, within 0 15 id.toNat)]
  | .setArm id arming => firstBad [(0, within 0 15 id.toNat), (1, flagByte arming)]
  | .interrupterState id position => firstBad [(0, within 0 15 id.toNat), (1, within 0 2 position.toNat)]
  | .configTripOutputs entries => firstBad ((0, within 1 4 entries.length) :: channelChecks 1 [] entries)
  | .report entries => firstBad ((0, within 1 6 entries.length) :: entryChecks 1 entries)
  | .fetchNotices n => firstBad [(0, within 1 8 n.toNat)]
  | .inject target number size position =>
    if target = 3 then none
    else firstBad [(0, within 0 3 target.toNat), (1, within 0 (injectLimit target) number.toNat),
      (2, within 0 1 size.toNat), (3, within 0 31 position.toNat)]
  | .malformed _ offset => some offset

/-- The message kind of a request (section 11.2). -/
def requestKind : Request → BitVec 6
  | .identify => 1
  | .getStatus => 2
  | .setMode _ => 3
  | .restart => 4
  | .selfTest => 5
  | .setTimebase .. => 6
  | .setProfile _ => 7
  | .setParams _ => 8
  | .setInhibit _ => 9
  | .defineSensor .. => 10
  | .retireSensor _ => 11
  | .querySensor _ => 12
  | .defineSegment .. => 13
  | .removeSegment _ => 14
  | .querySegment _ => 15
  | .releaseSegment _ => 16
  | .restoreSegment _ => 17
  | .defineInterrupter .. => 18
  | .removeInterrupter _ => 19
  | .queryInterrupter _ => 20
  | .setArm .. => 21
  | .interrupterState .. => 22
  | .ackTrip _ => 23
  | .configTripOutputs _ => 24
  | .report _ => 25
  | .fetchNotices _ => 26
  | .getCounts => 27
  | .clearCounts _ => 28
  | .inject .. => 29
  | .unknownKind .kind0 => 0
  | .unknownKind .kind30 => 30
  | .unknownKind .kind31 => 31
  | .malformed kind _ => kind

/-- The delayed kinds of R77: SET_MODE, RESTART, SET_PROFILE, SET_PARAMS, DEFINE_SENSOR, RETIRE_SENSOR,
DEFINE_SEGMENT, REMOVE_SEGMENT, RELEASE_SEGMENT, RESTORE_SEGMENT, DEFINE_INTERRUPTER, REMOVE_INTERRUPTER, INJECT. -/
def delayedKind (kind : BitVec 6) : Bool :=
  [3, 4, 7, 8, 10, 11, 13, 14, 16, 17, 18, 19, 29].contains kind.toNat

/-- A delayed request: one held while an evaluation pass is in flight (R77). -/
def isDelayed (r : Request) : Bool := delayedKind (requestKind r)

end Sys2Proof.Machine
end

