-- ==== Sys2Proof/Decode.lean ====
section
/-! DEFINITION. The layouts of chapter 11: a message's bytes to a request, a request to its payload, the check of R166.
No row of spec/opcode_table.json gives bits, so `decodeTableWord` spells no command (log 2). -/

namespace Sys2Proof

open Sys2Proof.Machine

/-- No row of the table gives bits (log 2). -/
def decodeTableWord (_nbits _w : Nat) : Option Instr := none

/-- Two bytes, most significant first (R172). -/
def joinHalf (hi lo : Byte) : Half := hi ++ lo

/-- Three bytes, most significant first (R172). -/
def joinAddress (hi mid lo : Byte) : FieldAddress := hi ++ mid ++ lo

/-- A two-byte field, most significant byte first (R172). -/
def halfBytes (v : Half) : List Byte := [v.extractLsb' 8 8, v.extractLsb' 0 8]

/-- A three-byte field, most significant byte first (R172). -/
def addressBytes (v : FieldAddress) : List Byte := [v.extractLsb' 16 8, v.extractLsb' 8 8, v.extractLsb' 0 8]

/-- SET_PARAMS pairs; none when the bytes do not make whole pairs. -/
def decodePairs : List Byte → Option (List ParamPair)
  | [] => some []
  | id :: hi :: lo :: rest => (decodePairs rest).map (⟨id, joinHalf hi lo⟩ :: ·)
  | _ => none

/-- CONFIG_TRIP_OUTPUTS entries; none when the bytes do not make whole entries. -/
def decodeChannels : List Byte → Option (List ChannelEntry)
  | [] => some []
  | ch :: hi :: lo :: pol :: drv :: rest => (decodeChannels rest).map (⟨ch, joinHalf hi lo, pol, drv⟩ :: ·)
  | _ => none

/-- The values of `n` carried phases, and the bytes after them. -/
def decodeValues : Nat → List Byte → Option (List PhaseValue × List Byte)
  | 0, bytes => some ([], bytes)
  | n + 1, vh :: vl :: ih :: il :: s :: rest =>
    (decodeValues n rest).map fun (vs, rest') => (⟨joinHalf vh vl, joinHalf ih il, s⟩ :: vs, rest')
  | _ + 1, _ => none

/-- `n` REPORT entries that use up the bytes exactly; the phases of an entry are those its carried byte names in
its low three bits (log 8). -/
def decodeEntries : Nat → List Byte → Option (List ReportEntry)
  | 0, [] => some []
  | 0, _ :: _ => none
  | n + 1, a2 :: a1 :: a0 :: fh :: fl :: q :: carried :: rest =>
    match decodeValues (carriedCount carried) rest with
    | some (vs, rh :: rl :: rest') =>
      (decodeEntries n rest').map (⟨joinAddress a2 a1 a0, joinHalf fh fl, q, carried, vs, joinHalf rh rl⟩ :: ·)
    | _ => none
  | _ + 1, _ => none

/-- The request of a kind with one one-byte field; any other length gives BAD_FIELD at 0 (R170). -/
def oneByte (kind : BitVec 6) (make : Byte → Request) : List Byte → Request
  | [b] => make b
  | _ => .malformed kind 0

/-- The request of a kind with two one-byte fields. -/
def twoBytes (kind : BitVec 6) (make : Byte → Byte → Request) : List Byte → Request
  | [b, c] => make b c
  | _ => .malformed kind 0

/-- The request of a kind with no fields (log 9). -/
def noBytes (kind : BitVec 6) (request : Request) : List Byte → Request
  | [] => request
  | _ => .malformed kind 0

/-- SET_TIMEBASE: 4 bytes, or 6 with the next frame number; a presence byte that is neither 0 nor 1 is judged as a
field (R172). -/
def decodeTimebase : List Byte → Request
  | [ph, pl, e, pres] => if pres = 1 then .malformed 6 0 else .setTimebase (joinHalf ph pl) e pres 0
  | [ph, pl, e, pres, nh, nl] =>
    if pres = 0 then .malformed 6 0
    else if pres = 1 then .setTimebase (joinHalf ph pl) e pres (joinHalf nh nl)
    else .setTimebase (joinHalf ph pl) e pres 0
  | _ => .malformed 6 0

/-- SET_PARAMS: the pair count must match the payload length (R106). -/
def decodeParams : List Byte → Request
  | n :: rest =>
    match decodePairs rest with
    | some pairs => if pairs.length = n.toNat then .setParams pairs else .malformed 8 0
    | none => .malformed 8 0
  | [] => .malformed 8 0

/-- DEFINE_SENSOR: 6 bytes. -/
def decodeSensor : List Byte → Request
  | [slot, a2, a1, a0, phases, latency] => .defineSensor slot (joinAddress a2 a1 a0) phases latency
  | _ => .malformed 10 0

/-- DEFINE_SEGMENT: 9 + n bytes; a count that does not match the length is the offending field at offset 8, unless
an earlier field offends (R9, R172; log 8). -/
def decodeSegment : List Byte → Request
  | seg :: phases :: up :: bh :: bl :: policy :: ih :: il :: n :: down =>
    if down.length = n.toNat then .defineSegment seg phases up (joinHalf bh bl) policy (joinHalf ih il) down
    else .malformed 13 ((firstBad (segmentHeadChecks seg phases up (joinHalf bh bl) policy (joinHalf ih il))).getD 8)
  | _ => .malformed 13 0

/-- DEFINE_INTERRUPTER: 6 bytes for LOCAL, 5 for REMOTE; with an unassigned kind byte the kind is judged as a field. -/
def decodeInterrupter : List Byte → Request
  | [id, kind, slot, th, tl] =>
    if kind = 0 then .malformed 18 0 else .defineInterrupter id kind 0 slot (joinHalf th tl)
  | [id, kind, channel, slot, th, tl] =>
    if kind = 1 then .malformed 18 0 else .defineInterrupter id kind channel slot (joinHalf th tl)
  | _ => .malformed 18 0

/-- CONFIG_TRIP_OUTPUTS: the entry count must match the payload length (R143). -/
def decodeConfig : List Byte → Request
  | n :: rest =>
    match decodeChannels rest with
    | some entries => if entries.length = n.toNat then .configTripOutputs entries else .malformed 24 0
    | none => .malformed 24 0
  | [] => .malformed 24 0

/-- REPORT: the payload length must match the entry count and the phases each entry carries (R37). -/
def decodeReport : List Byte → Request
  | n :: rest =>
    match decodeEntries n.toNat rest with
    | some entries => .report entries
    | none => .malformed 25 0
  | [] => .malformed 25 0

/-- INJECT: 1 byte for REPLY, 4 bytes for a record target (R163). -/
def decodeInject : List Byte → Request
  | [target] => if target = 3 then .inject 3 0 0 0 else .malformed 29 0
  | [target, number, size, position] =>
    if target = 3 then .malformed 29 0 else .inject target number size position
  | _ => .malformed 29 0

/-- The request that a kind and a payload spell (section 11.2); none for the reply kinds 32 to 63, which are never
taken as requests (R167). -/
def decodeRequest (kind : BitVec 6) (payload : List Byte) : Option Request :=
  match kind.toNat with
  | 0 => some (.unknownKind .kind0)
  | 1 => some (noBytes 1 .identify payload)
  | 2 => some (noBytes 2 .getStatus payload)
  | 3 => some (oneByte 3 .setMode payload)
  | 4 => some (noBytes 4 .restart payload)
  | 5 => some (noBytes 5 .selfTest payload)
  | 6 => some (decodeTimebase payload)
  | 7 => some (oneByte 7 .setProfile payload)
  | 8 => some (decodeParams payload)
  | 9 => some (oneByte 9 .setInhibit payload)
  | 10 => some (decodeSensor payload)
  | 11 => some (oneByte 11 .retireSensor payload)
  | 12 => some (oneByte 12 .querySensor payload)
  | 13 => some (decodeSegment payload)
  | 14 => some (oneByte 14 .removeSegment payload)
  | 15 => some (oneByte 15 .querySegment payload)
  | 16 => some (oneByte 16 .releaseSegment payload)
  | 17 => some (oneByte 17 .restoreSegment payload)
  | 18 => some (decodeInterrupter payload)
  | 19 => some (oneByte 19 .removeInterrupter payload)
  | 20 => some (oneByte 20 .queryInterrupter payload)
  | 21 => some (twoBytes 21 .setArm payload)
  | 22 => some (twoBytes 22 .interrupterState payload)
  | 23 => some (oneByte 23 .ackTrip payload)
  | 24 => some (decodeConfig payload)
  | 25 => some (decodeReport payload)
  | 26 => some (oneByte 26 .fetchNotices payload)
  | 27 => some (noBytes 27 .getCounts payload)
  | 28 => some (oneByte 28 .clearCounts payload)
  | 29 => some (decodeInject payload)
  | 30 => some (.unknownKind .kind30)
  | 31 => some (.unknownKind .kind31)
  | _ => none

/-! ### The encoder -/

/-- A count byte. -/
def countByte (n : Nat) : Byte := BitVec.ofNat 8 n

def encodePair (p : ParamPair) : List Byte := p.id :: halfBytes p.value

def encodeChannel (e : ChannelEntry) : List Byte := e.channel :: (halfBytes e.width ++ [e.polarity, e.drive])

def encodeValue (p : PhaseValue) : List Byte := halfBytes p.v ++ (halfBytes p.i ++ [p.surge])

def encodeEntry (e : ReportEntry) : List Byte :=
  addressBytes e.address ++ (halfBytes e.frame ++ (e.quality :: e.carried
    :: (e.values.flatMap encodeValue ++ halfBytes e.residual)))

/-- The payload of a request (section 11.2). A malformed request has no layout of its own. -/
def encodePayload : Request → List Byte
  | .identify | .getStatus | .restart | .selfTest | .getCounts | .unknownKind _ | .malformed .. => []
  | .setMode b | .setProfile b | .setInhibit b | .retireSensor b | .querySensor b | .removeSegment b | .querySegment b
  | .releaseSegment b | .restoreSegment b | .removeInterrupter b | .queryInterrupter b | .ackTrip b | .fetchNotices b
  | .clearCounts b => [b]
  | .setTimebase period enable presence next =>
    halfBytes period ++ (enable :: presence :: (if presence = 1 then halfBytes next else []))
  | .setParams pairs => countByte pairs.length :: pairs.flatMap encodePair
  | .defineSensor slot address phases latency => slot :: (addressBytes address ++ [phases, latency])
  | .defineSegment segment phases upstream budget policy iSurge down =>
    segment :: phases :: upstream :: (halfBytes budget ++ (policy :: (halfBytes iSurge ++ (countByte down.length :: down))))
  | .defineInterrupter id kind channel slot confirm =>
    id :: kind :: ((if kind = 1 then [] else [channel]) ++ (slot :: halfBytes confirm))
  | .setArm id b | .interrupterState id b => [id, b]
  | .configTripOutputs entries => countByte entries.length :: entries.flatMap encodeChannel
  | .report entries => countByte entries.length :: entries.flatMap encodeEntry
  | .inject target number size position => if target = 3 then [target] else [target, number, size, position]

/-! ### The check of a message (R166) -/

/-- One shift of the check register: the polynomial x^16 + x^12 + x^5 + 1, most significant bit first. -/
def crcShift (crc : Half) : Half :=
  if crc.getLsbD 15 then (crc <<< 1) ^^^ 0x1021#16 else crc <<< 1

/-- One byte into the check. -/
def crcByte (crc : Half) (b : Byte) : Half :=
  let c := crc ^^^ (b ++ (0 : Byte))
  crcShift (crcShift (crcShift (crcShift (crcShift (crcShift (crcShift (crcShift c)))))))

/-- The check of a message from its address character to its last payload character, started at 0xFFFF. -/
def crcOf (bytes : List Byte) : Half := bytes.foldl crcByte 0xFFFF#16

/-- The check a message of this address character and payload carries (R166). -/
def messageCheck (address : Byte) (payload : List Byte) : Half :=
  crcOf (address :: countByte payload.length :: payload)

/-- The station in an address character: its two most significant bits (R166). -/
def addressStation (address : Byte) : BitVec 2 := address.extractLsb' 6 2

/-- The kind in an address character: its six least significant bits (R166). -/
def addressKind (address : Byte) : BitVec 6 := address.extractLsb' 0 6

/-- The address character of a station and kind. -/
def addressOf (station : BitVec 2) (kind : BitVec 6) : Byte := station ++ kind

end Sys2Proof
end

