-- ==== Sys2Proof/Config.lean ====
section
/-! DEFINITION. What the manual leaves to the device or does not state: constants with no body. -/

namespace Sys2Proof.Config

open Sys2Proof.Machine

/-- The device revision that IDENTIFY returns, 0 to 255 (R164; log 28). -/
opaque deviceRevision : BitVec 8

/-- The station and baud straps as the n-th hard reset of a SELF_TEST reads them: they are inputs, and no command of the table
carries them at that moment (R160, R165; log 18). -/
opaque strapsAt : Nat → BitVec 2 × BitVec 2

/-- What a read of a record with three or more inverted bits finds. R162 states one and two (log 10). -/
opaque multiBitRead : BitVec 32 → ReadResult

/-- The sensor record a read delivers when three or more bits stand inverted and no double error is reported (log 10). -/
opaque misreadSensor : SensorRec → SensorRec

/-- As `misreadSensor`, for a segment record (log 10). -/
opaque misreadSegment : SegRec → SegRec

/-- As `misreadSensor`, for an interrupter record (log 10). -/
opaque misreadInterrupter : IntRec → IntRec

end Sys2Proof.Config
end

