-- ==== Sys2Proof/Machine/State.lean ====
section
/-! DEFINITION. The state of the part, block by block (1.4), its reset state, and the reasons a step may stop. -/

namespace Sys2Proof.Machine

/-- The receiver (R167). RECEIVING keeps the address character of the message in progress (log 29). -/
inductive RxState where
  | waitAddress
  | receiving (address : Byte)
  | skipping
  deriving DecidableEq, Repr, Inhabited

/-- Host Link (R165 to R171). -/
structure HostLink where
  station : BitVec 2
  baud : BitVec 2
  rx : RxState
  requests : List Request
  replies : List Reply
  sending : Bool
  overrun : Bool
  badCheckNext : Bool
  deriving DecidableEq, Repr, Inhabited

/-- Frame Timebase (R27). Times are in microseconds; `prevEdge` and `run` are the edge history. -/
structure Timebase where
  state : TimebaseState
  period : Nat
  syncEnable : Bool
  frame : FrameNo
  override : Option FrameNo
  expected : Option Nat
  lastInternal : Option Nat
  prevEdge : Option Nat
  run : Nat
  deriving DecidableEq, Repr, Inhabited

/-- Notice Queue (R146 to R148). -/
structure NoticeQueue where
  queue : List Notice
  seq : BitVec 16
  tail : Nat
  deriving DecidableEq, Repr, Inhabited

/-- Count Bank (R152 to R154). -/
structure CountBank where
  counts : Counts
  conds : Conds
  raised : Conds
  snapshot : Option Snapshot
  token : BitVec 8
  deriving DecidableEq, Repr, Inhabited

/-- Table Memory apart from the records (R161, R162): bit k of `bankMap` is set when record bank k is present. -/
structure TableMemory where
  bankMap : BitVec 8
  pendingCorrections : Nat
  firstBank : Option Nat
  deriving DecidableEq, Repr, Inhabited

inductive PartMode where
  | start
  | hold
  | run
  | failed
  deriving DecidableEq, Repr, Inhabited

/-- The steps of the self-test (R161), by their numbers. -/
inductive TestStep where
  | six
  | five
  | four
  | three
  | two
  | one
  deriving DecidableEq, Repr, Inhabited

/-- Where the self-test stands: RESET_N held, a step running, step 5 ended and step 4 not yet begun, or ended. -/
inductive SelfTestPhase where
  | held
  | running (step : TestStep)
  | awaitLoopback
  | ended
  deriving DecidableEq, Repr, Inhabited

/-- Mode Control (R105, R140, R156, R161). -/
structure ModeControl where
  mode : PartMode
  selfTest : SelfTestPhase
  hardSeen : Bool
  fatalStep : Option TestStep
  loopbackGood : Bool
  outcome : Option TestOutcome
  failingStep : Option TestStep
  runEntered : Bool
  profile : Profile
  inhibitFlag : Bool
  deriving DecidableEq, Repr, Inhabited

/-- The state. `pending` is the queue of waiting commands, `now` the microseconds since power-up (log 1), `strapReads` how many
free strap readings are spent (log 18); the rest is the part's, each field under the block that owns it. -/
structure State where
  pending : List Instr
  now : Nat
  inhibitPin : Bool
  stnPins : BitVec 2
  baudPins : BitVec 2
  strapReads : Nat
  hl : HostLink
  ft : Timebase
  sensors : Table SensorPlace
  index : Table Nat
  segments : Table SegPlace
  interrupters : Table IntPlace
  ring : List Frame
  pass : Option Pass
  channels : Channels
  nq : NoticeQueue
  cb : CountBank
  tm : TableMemory
  mc : ModeControl
  params : Params
  deriving DecidableEq, Repr, Inhabited

/-- The reasons a step may end in a fault. -/
inductive Fault where
  /-- Raised by no meaning: the part reports every error in a reply, a count, a condition, a quarantine or its mode
  and goes on (safe; log 31). -/
  | notRaised
  deriving DecidableEq, Repr

/-- The reasons a step may be refused. -/
inductive Refusal where
  /-- Raised by an arm of `exec` whose command has no meaning yet; safe. No arm raises it. -/
  | notModelled (mnemonic : String)
  deriving DecidableEq, Repr

/-- The defaults of the NORMAL profile (section 5.10). -/
def ProfileParams.normalDefaults : ProfileParams :=
  { vLive := 819, vOpen := 512, unbalGap := 205, nOpen := 3, leakPickup := 30, arcPickup := 400, nContact := 12,
    iDead := 5, loadMin := 20 }

/-- The defaults of the ELEVATED profile (section 5.10). -/
def ProfileParams.elevatedDefaults : ProfileParams :=
  { vLive := 819, vOpen := 614, unbalGap := 154, nOpen := 2, leakPickup := 15, arcPickup := 250, nContact := 6,
    iDead := 5, loadMin := 20 }

/-- The defaults of section 5.10, taken at a hard reset (R108). -/
def Params.defaults : Params :=
  { normal := .normalDefaults, elevated := .elevatedDefaults, minHold := 2, staleLimit := 40, baseShift := 4,
    settleFrames := 5, maintTail := 4 }

/-- A channel after a hard reset (R141, R145). -/
def Channel.default : Channel :=
  { width := 100, polarity := .high, drive := .pushPull, failed := false, pulse := none }

def Channels.defaults : Channels := ⟨.default, .default, .default, .default⟩

def Counts.zero : Counts := ⟨0, 0, 0, 0, 0, 0, 0, 0, 0, 0, 0, 0, 0, 0, 0⟩

def Conds.clear : Conds := ⟨false, false, false, false⟩

/-- Host Link after a hard reset, with the straps it reads (R165, R171). -/
def HostLink.reset (station baud : BitVec 2) : HostLink :=
  { station, baud, rx := .waitAddress, requests := [], replies := [], sending := false, overrun := false,
    badCheckNext := false }

/-- The timebase after a hard reset (R36). -/
def Timebase.reset : Timebase :=
  { state := .unlocked, period := 50, syncEnable := true, frame := 0, override := none, expected := none,
    lastInternal := none, prevEdge := none, run := 0 }

/-- The Notice Queue after a hard reset (R151). -/
def NoticeQueue.reset : NoticeQueue := { queue := [], seq := 0, tail := 0 }

/-- The Count Bank after a hard reset (R155). -/
def CountBank.reset : CountBank :=
  { counts := .zero, conds := .clear, raised := .clear, snapshot := none, token := 0 }

/-- Table Memory after a hard reset (R162); the bank map is judged by step 6 (log 17). -/
def TableMemory.reset : TableMemory := { bankMap := 0xFF, pendingCorrections := 0, firstBank := none }

/-- Mode Control after a hard reset (R108, R140, R156, R161). -/
def ModeControl.reset : ModeControl :=
  { mode := .start, selfTest := .held, hardSeen := false, fatalStep := none, loopbackGood := false, outcome := none,
    failingStep := none, runEntered := false, profile := .normal, inhibitFlag := false }

/-- The part right after a hard reset at power-up, RESET_N still held (R157), no command waiting. The input pins and
the clock take the values of log 15. -/
def State.reset : State :=
  { pending := [], now := 0, inhibitPin := false, stnPins := 0, baudPins := 0, strapReads := 0, hl := .reset 0 0, ft := .reset,
    sensors := [], index := [], segments := [], interrupters := [], ring := [], pass := none, channels := .defaults,
    nq := .reset, cb := .reset, tm := .reset, mc := .reset, params := .defaults }

end Sys2Proof.Machine
end

