-- ==== Sys2Proof/Machine/Ops.lean ====
section
/-! DEFINITION. The named operations on tables, phases, counts and notices that every meaning uses. -/

namespace Sys2Proof.Machine

/-! ### Tables -/

/-- The value at a number, or none. -/
def rowAt {α : Type} : Table α → Nat → Option α
  | [], _ => none
  | (j, v) :: rest, k => if j = k then some v else rowAt rest k

/-- Writes the value at a number, keeping the numbers strictly rising. -/
def setRow {α : Type} : Table α → Nat → α → Table α
  | [], k, v => [(k, v)]
  | (j, w) :: rest, k, v =>
    if j < k then (j, w) :: setRow rest k v
    else if j = k then (k, v) :: rest
    else (k, v) :: (j, w) :: rest

/-- Leaves a number holding nothing. -/
def dropRow {α : Type} (t : Table α) (k : Nat) : Table α := t.filter fun p => p.1 != k

/-- The numbers stand strictly rising. -/
def tableWf {α : Type} : Table α → Bool
  | [] => true
  | [_] => true
  | p :: q :: rest => decide (p.1 < q.1) && tableWf (q :: rest)

/-- The slots, segment numbers and interrupter ids in ascending order (1.3). -/
def allSlots : List Nat := List.range 48
def allSegments : List Nat := List.range 40
def allInterrupters : List Nat := List.range 16

/-- A number into an ascending list without duplicates: a set (1.7). -/
def insertAsc (n : Nat) : List Nat → List Nat
  | [] => [n]
  | m :: rest => if n < m then n :: m :: rest else if n = m then m :: rest else m :: insertAsc n rest

/-- The first result that a list of numbers gives. -/
def firstSome {α : Type} (f : Nat → Option α) : List Nat → Option α
  | [] => none
  | n :: rest => match f n with
    | some x => some x
    | none => firstSome f rest

/-- A count that stops at its limit. -/
def satSucc (limit n : Nat) : Nat := min (n + 1) limit

/-! ### Phases -/

def perPhase {α : Type} (x : PerPhase α) : Phase → α
  | .a => x.a
  | .b => x.b
  | .c => x.c

def mapPhases {α β : Type} (f : Phase → α → β) (x : PerPhase α) : PerPhase β := ⟨f .a x.a, f .b x.b, f .c x.c⟩

def ofPhases {α : Type} (f : Phase → α) : PerPhase α := ⟨f .a, f .b, f .c⟩

def allPhases : List Phase := [.a, .b, .c]

def noPhases : PhaseSet := ⟨false, false, false⟩

def threePhases : PhaseSet := ⟨true, true, true⟩

def phasesIn (x : PhaseSet) : List Phase := allPhases.filter (perPhase x)

def phaseUnion (x y : PhaseSet) : PhaseSet := ofPhases fun p => perPhase x p || perPhase y p

def phaseSubset (x y : PhaseSet) : Bool := allPhases.all fun p => !perPhase x p || perPhase y p

def phasesEmpty (x : PhaseSet) : Bool := x == noPhases

/-- A phase set from its byte: A in bit 0, B in bit 1, C in bit 2 (R172). -/
def phasesOfByte (b : Byte) : PhaseSet := ⟨b.getLsbD 0, b.getLsbD 1, b.getLsbD 2⟩

/-- The signed difference c − f of two frame numbers, from −32768 to +32767 (1.7, R32). -/
def frameDiff (c f : FrameNo) : Int := (c - f).toInt

/-! ### Counts and conditions (R152) -/

def Counts.get (c : Counts) : CountName → Nat
  | .linkCrc => c.linkCrc
  | .linkFraming => c.linkFraming
  | .linkGap => c.linkGap
  | .linkBreak => c.linkBreak
  | .linkOverrun => c.linkOverrun
  | .linkAborted => c.linkAborted
  | .reportLate => c.reportLate
  | .reportFuture => c.reportFuture
  | .reportDuplicate => c.reportDuplicate
  | .reportUnknown => c.reportUnknown
  | .reportClamped => c.reportClamped
  | .frameDropped => c.frameDropped
  | .syncMissed => c.syncMissed
  | .eccCorrected => c.eccCorrected
  | .noticeDropped => c.noticeDropped

/-- The counts whose value at each name is given, in the order of R152. -/
def countsOf (f : CountName → Nat) : Counts :=
  { linkCrc := f .linkCrc, linkFraming := f .linkFraming, linkGap := f .linkGap, linkBreak := f .linkBreak,
    linkOverrun := f .linkOverrun, linkAborted := f .linkAborted, reportLate := f .reportLate,
    reportFuture := f .reportFuture, reportDuplicate := f .reportDuplicate, reportUnknown := f .reportUnknown,
    reportClamped := f .reportClamped, frameDropped := f .frameDropped, syncMissed := f .syncMissed,
    eccCorrected := f .eccCorrected, noticeDropped := f .noticeDropped }

/-- The fifteen names in the order of the table in R152. -/
def allCounts : List CountName :=
  [.linkCrc, .linkFraming, .linkGap, .linkBreak, .linkOverrun, .linkAborted, .reportLate, .reportFuture,
   .reportDuplicate, .reportUnknown, .reportClamped, .frameDropped, .syncMissed, .eccCorrected, .noticeDropped]

def Conds.get (c : Conds) : CondName → Bool
  | .rxOverrunSeen => c.rxOverrunSeen
  | .syncLostSeen => c.syncLostSeen
  | .noticeOverflow => c.noticeOverflow
  | .eccDoubleSeen => c.eccDoubleSeen

def condsOf (f : CondName → Bool) : Conds :=
  { rxOverrunSeen := f .rxOverrunSeen, syncLostSeen := f .syncLostSeen, noticeOverflow := f .noticeOverflow,
    eccDoubleSeen := f .eccDoubleSeen }

/-- A count rises by 1 and saturates at 65535 (R152). -/
def bump (c : CountName) (s : State) : State :=
  { s with cb := { s.cb with
      counts := countsOf fun d => if d = c then satSucc 65535 (s.cb.counts.get d) else s.cb.counts.get d } }

/-- A condition is latched; its raised-since-snapshot mark is set while a snapshot is present (R152). -/
def latch (c : CondName) (s : State) : State :=
  { s with cb := { s.cb with
      conds := condsOf fun d => d == c || s.cb.conds.get d
      raised := condsOf fun d => (d == c && s.cb.snapshot.isSome) || s.cb.raised.get d } }

/-! ### Notices (R146, R147) -/

/-- The class of a notice, fixed by its kind (section 8.2). -/
def noticeClass : NoticeBody → NoticeClass
  | .verdict .. | .tripStarted .. | .escalated .. | .interrupterOpened .. | .isolationFailed .. => .trip
  | .baselineReady .. | .eccCorrected .. => .maint
  | _ => .state

def isMaint (n : Notice) : Bool := noticeClass n.body == .maint

def isState (n : Notice) : Bool := noticeClass n.body == .state

/-- The queue without its oldest notice that meets the test. -/
def removeFirst (test : Notice → Bool) : List Notice → List Notice
  | [] => []
  | n :: rest => if test n then rest else n :: removeFirst test rest

/-- A full queue makes room for a notice of a class: the notices kept, or none when the new one is discarded (R147). -/
def makeRoom (c : NoticeClass) (queue : List Notice) : Option (List Notice) :=
  match c with
  | .trip =>
    if queue.any isMaint then some (removeFirst isMaint queue)
    else if queue.any isState then some (removeFirst isState queue)
    else none
  | .state => if queue.any isMaint then some (removeFirst isMaint queue) else none
  | .maint => none

/-- A notice removed or discarded adds 1 to NOTICE_DROPPED and latches NOTICE_OVERFLOW (R147). -/
def noticeLost (s : State) : State := latch .noticeOverflow (bump .noticeDropped s)

/-- A created notice is appended, displaces a lower class, or is discarded (R147). -/
def enqueue (n : Notice) (s : State) : State :=
  if s.nq.queue.length < 32 then { s with nq := { s.nq with queue := s.nq.queue ++ [n] } }
  else match makeRoom (noticeClass n.body) s.nq.queue with
    | some kept => noticeLost { s with nq := { s.nq with queue := kept ++ [n] } }
    | none => noticeLost s

/-- A notice is created with the frame number given: it takes the sequence counter's value, the counter rises, and
the notice is handled by R147 (R146). -/
def raiseAt (frame : FrameNo) (body : NoticeBody) (s : State) : State :=
  enqueue ⟨s.nq.seq, frame, body⟩ { s with nq := { s.nq with seq := s.nq.seq + 1 } }

/-- A notice is created with the current frame number (section 8.2). -/
def raiseNow (body : NoticeBody) (s : State) : State := raiseAt s.ft.frame body s

/-- Notices created together, in the order given (R146). -/
def raiseAll (frame : FrameNo) (bodies : List NoticeBody) (s : State) : State :=
  bodies.foldl (fun s b => raiseAt frame b s) s

/-! ### Records -/

def sensorAt (s : State) (n : Nat) : Option SensorRec :=
  match rowAt s.sensors n with
  | some (.live r) => some r
  | _ => none

def segmentAt (s : State) (n : Nat) : Option SegRec :=
  match rowAt s.segments n with
  | some (.live r) => some r
  | _ => none

def interrupterAt (s : State) (n : Nat) : Option IntRec :=
  match rowAt s.interrupters n with
  | some (.live r) => some r
  | _ => none

/-- An owner writes the whole record with fresh check bits, which clears any error held in it (R162). -/
def writeSensor (n : Nat) (r : SensorRec) (s : State) : State :=
  { s with sensors := setRow s.sensors n (.live { r with err := 0 }) }

def writeSegment (n : Nat) (r : SegRec) (s : State) : State :=
  { s with segments := setRow s.segments n (.live { r with err := 0 }) }

def writeInterrupter (n : Nat) (r : IntRec) (s : State) : State :=
  { s with interrupters := setRow s.interrupters n (.live { r with err := 0 }) }

/-- Rewrites a record, where the place holds one. -/
def modifySensor (n : Nat) (f : SensorRec → SensorRec) (s : State) : State :=
  match sensorAt s n with
  | some r => writeSensor n (f r) s
  | none => s

def modifySegment (n : Nat) (f : SegRec → SegRec) (s : State) : State :=
  match segmentAt s n with
  | some r => writeSegment n (f r) s
  | none => s

def modifyInterrupter (n : Nat) (f : IntRec → IntRec) (s : State) : State :=
  match interrupterAt s n with
  | some r => writeInterrupter n (f r) s
  | none => s

/-- A list of numbers taken in order, each with its own effect. -/
def forEach (ns : List Nat) (f : Nat → State → State) (s : State) : State := ns.foldl (fun s n => f n s) s

/-! ### Channels and parameters -/

def Channels.get (c : Channels) : Fin 4 → Channel
  | 0 => c.c0
  | 1 => c.c1
  | 2 => c.c2
  | 3 => c.c3

/-- The channels whose value at each number is given. -/
def channelsOf (f : Fin 4 → Channel) : Channels := ⟨f 0, f 1, f 2, f 3⟩

/-- Changes one channel. -/
def modifyChannel (ch : Fin 4) (f : Channel → Channel) (s : State) : State :=
  { s with channels := channelsOf fun k => if k = ch then f (s.channels.get k) else s.channels.get k }

/-- The parameters of the profile selected (R105). -/
def selectedProfile (s : State) : ProfileParams :=
  match s.mc.profile with
  | .normal => s.params.normal
  | .elevated => s.params.elevated

/-- V_OPEN effective (R59). -/
def vOpenEffective (p : ProfileParams) : Nat := min p.vOpen (p.vLive - 1)

/-- The learn count at which a sensor is seeded, 2^BASE_SHIFT (R62). -/
def seedCount (s : State) : Nat := 2 ^ s.params.baseShift

/-- A sensor is seeded when its learn count equals 2^BASE_SHIFT (R62). -/
def isSeeded (s : State) (r : SensorRec) : Bool := r.learn == seedCount s

/-- A sensor made unseeded: learn count and every baseline 0 (R66). -/
def unseed (r : SensorRec) : SensorRec := { r with learn := 0, residualBase := 0, currentBase := ⟨0, 0, 0⟩ }

/-- One millisecond in the units of `State.now`. -/
def microsPerMs : Nat := 1000

/-- A running timer's remaining time in whole milliseconds, rounded up, at least 1 (R34). -/
def remainingMs (due now : Nat) : Nat := max 1 ((due - now + 999) / microsPerMs)

/-- The moment at which a timer started now with `ms` milliseconds expires (R34). -/
def dueIn (ms : Nat) (s : State) : Nat := s.now + ms * microsPerMs

/-- The arrival of a due moment: the clock stands there at the latest (log 4). -/
def arriveAt (due : Nat) (s : State) : State := { s with now := max s.now due }

end Sys2Proof.Machine
end

