-- ==== Sys2Proof/Machine/Flags.lean ====
section
/-! DEFINITION. The derived conditions and output pins: effective inhibit, urgency, ATTN, BLIND and DEGRADED, the STAT
code, the link status byte, the TRIP pin levels, TXEN. -/

namespace Sys2Proof.Machine

/-- The effective inhibit: the INHIBIT input asserted or the inhibit flag set (R140). -/
def effectiveInhibit (s : State) : Bool := s.inhibitPin || s.mc.inhibitFlag

/-- A walk may visit candidates: the part is in RUN and the effective inhibit is clear (R123). -/
def tripsAllowed (s : State) : Bool := s.mc.mode == .run && !effectiveInhibit s

/-! ### Urgency and ATTN (R148, R150) -/

/-- Segment n is SUSPECT or ISOLATING. -/
def segmentUrgent (s : State) (n : Nat) : Bool :=
  match segmentAt s n with
  | some r => r.state == .suspect || r.state == .isolating
  | none => false

/-- Interrupter n is TRIPPING. -/
def isTripping (s : State) (n : Nat) : Bool :=
  match interrupterAt s n with
  | some r => r.state == .tripping
  | none => false

/-- The urgency source: any segment SUSPECT or ISOLATING, or any interrupter TRIPPING (R148). In START the Notice Queue reads
none: urgency is clear after a hard reset (R151), though the tables stand until step 1 of self-test (R54; log 16). -/
def urgencySource (s : State) : Bool :=
  s.mc.mode != .start && (allSegments.any (segmentUrgent s) || allInterrupters.any (isTripping s))

/-- Urgency holds while its source holds or the tail count is above 0 (R148). -/
def urgency (s : State) : Bool := urgencySource s || decide (0 < s.nq.tail)

/-- A notice that FETCH_NOTICES would return: any but a MAINT notice held by urgency (R148). -/
def fetchable (held : Bool) (n : Notice) : Bool := !(held && isMaint n)

/-- ATTN is asserted exactly when the queue holds a fetchable notice (R150). -/
def attn (s : State) : Bool := s.nq.queue.any (fetchable (urgency s))

/-- The tail count after a step during which the source held as `before` says at its start (R148). -/
def settleUrgency (before : Bool) (s : State) : State :=
  if before && !urgencySource s then { s with nq := { s.nq with tail := s.params.maintTail } }
  else if !before && urgencySource s then { s with nq := { s.nq with tail := 0 } }
  else s

/-! ### BLIND and DEGRADED (R115) -/

/-- BLIND: the upstream sensor is a member of the excluded set. -/
def isBlind (r : SegRec) : Bool := r.excluded.contains r.up

/-- DEGRADED: a downstream sensor is a member of the excluded set. -/
def isDegraded (r : SegRec) : Bool := r.down.any r.excluded.contains

/-! ### STAT (R157) -/

def stepNumber : TestStep → Nat
  | .six => 6
  | .five => 5
  | .four => 4
  | .three => 3
  | .two => 2
  | .one => 1

/-- The STAT code. Between the end of step 5 and the beginning of step 4 it stays 5 (log 17). -/
def statCode (s : State) : Nat :=
  match s.mc.mode with
  | .start => match s.mc.selfTest with
    | .held => 0xF
    | .running step => stepNumber step
    | .awaitLoopback => 5
    | .ended => 0xF
  | .hold => 0x8
  | .run => if effectiveInhibit s then 0xA else 0x9
  | .failed => 0xE

/-- The code of the part mode (R173). -/
def modeCode : PartMode → Nat
  | .start => 0
  | .hold => 1
  | .run => 2
  | .failed => 3

/-- The link status byte (R170, 11.3). -/
def linkStatus (s : State) : Nat :=
  (attn s).toNat + 2 * s.hl.overrun.toNat + 4 * modeCode s.mc.mode + 16 * (effectiveInhibit s).toNat

/-! ### TRIP pins (R141) -/

/-- How a level is presented at a pin. -/
inductive PinLevel where
  | drivenHigh
  | drivenLow
  | released
  deriving DecidableEq, Repr

def activeLevel (p : Polarity) (d : Drive) : PinLevel :=
  match p, d with
  | .high, .pushPull => .drivenHigh
  | .low, .pushPull => .drivenLow
  | .high, .openDrain => .released
  | .low, .openDrain => .drivenLow

def inactiveLevel (p : Polarity) (d : Drive) : PinLevel :=
  match p, d with
  | .high, .pushPull => .drivenLow
  | .low, .pushPull => .drivenHigh
  | .high, .openDrain => .drivenLow
  | .low, .openDrain => .released

/-- The level at a TRIP pin: active while the pulse timer is present, inactive otherwise and always on a failed
channel (R141). -/
def tripPin (s : State) (ch : Fin 4) : PinLevel :=
  let c := s.channels.get ch
  if c.pulse.isSome && !c.failed then activeLevel c.polarity c.drive else inactiveLevel c.polarity c.drive

/-! ### The line (R161, R165, R169) -/

/-- Self-test step 4 is running: RXD is not read and TXEN is low (R161). -/
def inLoopback (s : State) : Bool := s.mc.mode == .start && s.mc.selfTest == .running .four

/-- TXEN is high while a reply is on the line (R165). -/
def txen (s : State) : Bool := s.hl.sending && !inLoopback s

/-- RXD is read: not while TXEN is high and not during self-test step 4 (R161, R165). -/
def lineRead (s : State) : Bool := !s.hl.sending && !inLoopback s

end Sys2Proof.Machine
end

