-- ==== Sys2Proof/Machine/Tree.lean ====
section
/-! DEFINITION. The feeder tree, derived from the sensor lists of the segments that are defined and not QUARANTINED
(R7, R8), and the detection delay estimate (R12). -/

namespace Sys2Proof.Machine

/-- The boundary sensors of a segment: its upstream sensor, then its downstream list in order (1.4). -/
def boundarySensors (r : SegRec) : List Nat := r.up :: r.down

/-- The segment names the sensor, as upstream sensor or in its downstream list. -/
def names (r : SegRec) (slot : Nat) : Bool := (boundarySensors r).contains slot

/-- Segment n is in the tree and meets the test. -/
def inTreeWith (s : State) (test : SegRec → Bool) (n : Nat) : Bool :=
  match segmentAt s n with
  | some r => test r
  | none => false

/-- The segments in the tree that name a sensor, in ascending segment number (R6). -/
def segmentsNaming (s : State) (slot : Nat) : List Nat := allSegments.filter (inTreeWith s fun r => names r slot)

/-- The segment whose downstream list holds a sensor (R7). -/
def segmentAbove (s : State) (slot : Nat) : Option Nat :=
  allSegments.find? (inTreeWith s fun r => r.down.contains slot)

/-- The segment whose upstream sensor is a given sensor (R7). -/
def segmentBelow (s : State) (slot : Nat) : Option Nat := allSegments.find? (inTreeWith s fun r => r.up == slot)

/-- The parent of a segment: the segment whose downstream list holds its upstream sensor (R7). -/
def parentOf (s : State) (r : SegRec) : Option Nat := segmentAbove s r.up

/-- The children of a segment, in the order of its downstream list (R7). -/
def childrenOf (s : State) (r : SegRec) : List Nat := r.down.filterMap (segmentBelow s)

/-- A leaf has an empty downstream list (R7). -/
def isLeaf (r : SegRec) : Bool := r.down.isEmpty

/-- The orphan boundaries of a segment: members of its downstream list that are no segment's upstream sensor (R7). -/
def orphanBoundaries (s : State) (r : SegRec) : List Nat := r.down.filter fun d => (segmentBelow s d).isNone

/-- The upstream sensors from segment n up to the root, over at most `fuel` segments. By R11 a path meets no segment
twice, so 40 are enough. -/
def boundariesUp (s : State) : Nat → Nat → List Nat
  | 0, _ => []
  | fuel + 1, n =>
    match segmentAt s n with
    | none => []
    | some r => r.up :: (match parentOf s r with
      | some p => boundariesUp s fuel p
      | none => [])

/-- The candidate boundaries of a segment, from its upstream sensor to the root's (R8). -/
def candidateBoundaries (s : State) (n : Nat) : List Nat := boundariesUp s 40 n

/-- The path above a sensor (R8). -/
def pathAbove (s : State) (d : Nat) : List Nat :=
  match segmentAbove s d with
  | some t => candidateBoundaries s t
  | none => []

/-- The interrupter whose boundary sensor is a given sensor; each holds at most one (R8). -/
def interrupterOn (s : State) (slot : Nat) : Option Nat :=
  allInterrupters.find? fun n => match interrupterAt s n with
    | some r => r.boundary == slot
    | none => false

/-- Sensor d sits under an interrupter with boundary sensor b (R8). -/
def sitsUnder (s : State) (d b : Nat) : Bool := d == b || (pathAbove s d).contains b

/-! ### Estimate (R12) -/

/-- A boundary sensor's latency class for the estimate; a quarantined sensor counts with 0 (R12, R22). -/
def latencyOf (s : State) (slot : Nat) : Nat :=
  match sensorAt s slot with
  | some r => r.latency
  | none => 0

/-- The largest of some latency classes. -/
def maxLatency (s : State) (slots : List Nat) : Nat := slots.foldl (fun m d => max m (latencyOf s d)) 0

/-- The detection delay estimate, in milliseconds (R12). -/
def estimate (s : State) (boundary : List Nat) : Nat :=
  (max s.params.minHold (maxLatency s boundary) + s.params.elevated.nOpen) * s.ft.period

/-- The phases a sensor carries; a quarantined sensor counts as carrying all three (R22). -/
def sensorPhases (s : State) (slot : Nat) : PhaseSet :=
  match sensorAt s slot with
  | some r => r.phases
  | none => threePhases

end Sys2Proof.Machine
end

