-- ==== Sys2Proof/Machine/TableMemory.lean ====
section
/-! DEFINITION. Table Memory: the record reads of R162 and the quarantine of sensor and segment records (R22, R23).
The interrupter record's read is in Isolation.lean, because its quarantine reaches into a trip (R144). -/

namespace Sys2Proof.Machine

/-- How many stored bits of a record stand inverted. -/
def invertedBits (err : BitVec 32) : Nat := (List.range 32).countP err.getLsbD

/-- The result of a read (R162); three or more inverted bits are beyond what R162 states (log 10). -/
def readResult (err : BitVec 32) : ReadResult :=
  match invertedBits err with
  | 0 => .clean
  | 1 => .single
  | 2 => .double
  | _ => Config.multiBitRead err

/-- The record bank of a slot and of a segment number (R1), and the number that stands for the interrupter bank in an
ECC_CORRECTED notice (log 14). -/
def sensorBank (slot : Nat) : Nat := slot / 6
def segmentBank (n : Nat) : Nat := n / 5
def interrupterBank : Nat := 8

/-- A record bank is present (R1). -/
def bankPresent (s : State) (k : Nat) : Bool := s.tm.bankMap.getLsbD k

/-- A corrected single error: ECC_CORRECTED and the pending correction count rise, and the bank is recorded when none
is held (R162). -/
def noteCorrection (bank : Nat) (s : State) : State :=
  let t := bump .eccCorrected s
  { t with tm := { t.tm with
      pendingCorrections := satSucc 65535 t.tm.pendingCorrections
      firstBank := match t.tm.firstBank with
        | some b => some b
        | none => some bank } }

/-! ### Segments (R23) -/

/-- A segment leaves every waiters list, the others keeping their order (R23, R121). -/
def leaveWaiters (n : Nat) (s : State) : State :=
  { s with interrupters := s.interrupters.map fun p => match p with
      | (k, .live r) => (k, .live { r with waiters := r.waiters.filter (· != n) })
      | (k, .tableError) => (k, .tableError) }

/-- The pass in flight discards a segment's working values (R73). -/
def forgetWork (n : Nat) (s : State) : State :=
  { s with pass := s.pass.map fun p => { p with work := dropRow p.work n } }

/-- Quarantine of a segment record (R23). -/
def quarantineSegment (n : Nat) (s : State) : State :=
  raiseNow (.quarantined .segment n)
    (forgetWork n (leaveWaiters n { s with segments := setRow s.segments n .quarantined }))

/-- A read of a segment record by its owner (R162). -/
def readSegment (n : Nat) (s : State) : State :=
  match segmentAt s n with
  | none => s
  | some r =>
    let delivered := if invertedBits r.err ≤ 1 then r else Config.misreadSegment r
    match readResult r.err with
    | .clean => if r.err = 0 then s else writeSegment n delivered s
    | .single => noteCorrection (segmentBank n) (writeSegment n delivered s)
    | .double => quarantineSegment n (latch .eccDoubleSeen s)

/-- A scan of the Segment Table reads every record, in ascending segment number (log 11). -/
def readSegments (s : State) : State := forEach allSegments readSegment s

/-! ### Sensors (R22) -/

/-- A sensor leaves the ring: its slot leaves each frame's expected set and its stored report is discarded (R53). -/
def leaveRing (slot : Nat) (s : State) : State :=
  { s with ring := s.ring.map fun f =>
      { f with expected := f.expected.filter (· != slot), reports := dropRow f.reports slot } }

/-- The sensor's address leaves the index (R4). -/
def leaveIndex (slot : Nat) (s : State) : State := { s with index := s.index.filter fun p => p.2 != slot }

/-- The notice of a sensor's joining a segment's excluded set: SEGMENT_BLIND for its upstream sensor, SEGMENT_DEGRADED
for a downstream one (R112). `r` is the record after the addition. -/
def exclusionNotice (n slot : Nat) (r : SegRec) : NoticeBody :=
  if r.up = slot then .segmentBlind n slot r.state (isBlind r) (isDegraded r)
  else .segmentDegraded n slot r.state (isBlind r) (isDegraded r)

/-- A segment record with a sensor added to its excluded set. -/
def withExcluded (slot : Nat) (r : SegRec) : SegRec := { r with excluded := insertAsc slot r.excluded }

/-- Segment n, if it names the sensor and does not exclude it yet, adds it; answers the notice (R112). -/
def excludeFrom (slot n : Nat) (s : State) : State × List NoticeBody :=
  match segmentAt s n with
  | some r =>
    if names r slot && !r.excluded.contains slot then
      (writeSegment n (withExcluded slot r) s, [exclusionNotice n slot (withExcluded slot r)])
    else (s, [])
  | none => (s, [])

/-- Every segment that names the sensor adds it, in ascending segment number, each record being read first; answers the
notices in that order (R112). -/
def excludeEverywhere (slot : Nat) (ns : List Nat) (s : State) : State × List NoticeBody :=
  match ns with
  | [] => (s, [])
  | n :: rest =>
    let (s1, first) := excludeFrom slot n (readSegment n s)
    let (s2, others) := excludeEverywhere slot rest s1
    (s2, first ++ others)

/-- Quarantine of a sensor record (R22, R53, R113). Its segment notices are raised together after the last of the segment reads, so a
segment record that one of those reads finds lost raises its QUARANTINED notice before all of them, those of lower-numbered segments
included (log 12). -/
def quarantineSensor (slot : Nat) (s : State) : State :=
  let lost := leaveRing slot (leaveIndex slot { s with sensors := setRow s.sensors slot .quarantined })
  let (t, bodies) := excludeEverywhere slot allSegments (raiseNow (.quarantined .sensor slot) lost)
  raiseAll t.ft.frame bodies t

/-- A read of a sensor record by its owner (R162). -/
def readSensor (slot : Nat) (s : State) : State :=
  match sensorAt s slot with
  | none => s
  | some r =>
    let delivered := if invertedBits r.err ≤ 1 then r else Config.misreadSensor r
    match readResult r.err with
    | .clean => if r.err = 0 then s else writeSensor slot delivered s
    | .single => noteCorrection (sensorBank slot) (writeSensor slot delivered s)
    | .double => quarantineSensor slot (latch .eccDoubleSeen s)

/-- Reads of several sensor records in the order given. -/
def readSensors (slots : List Nat) (s : State) : State := forEach slots readSensor s

end Sys2Proof.Machine
end

