-- ==== Sys2Proof/Machine/Isolation.lean ====
section
/-! DEFINITION. Isolation: chain walks, trips, proofs of opening, failure and escalation, the quarantine of an
interrupter record (chapter 7). -/

namespace Sys2Proof.Machine

/-- Appends a chain entry; a chain of 16 loses its oldest entry first (R122). -/
def appendEntry (e : ChainEntry) (chain : List ChainEntry) : List ChainEntry :=
  (if chain.length < 16 then chain else chain.drop (chain.length - 15)) ++ [e]

/-- Changes the outcome of the newest entry (R122). -/
def setNewest (o : ChainOutcome) : List ChainEntry → List ChainEntry
  | [] => []
  | [e] => [{ e with outcome := o }]
  | e :: rest => e :: setNewest o rest

/-- Changes the chain of a segment's verdict part. -/
def modifyChain (n : Nat) (f : List ChainEntry → List ChainEntry) (s : State) : State :=
  modifySegment n (fun r => { r with verdict := r.verdict.map fun v => { v with chain := f v.chain } }) s

def setSegState (n : Nat) (st : SegState) (s : State) : State := modifySegment n (fun r => { r with state := st }) s

/-- The chain entry of a visit is written. -/
def recordVisit (n x : Nat) (o : ChainOutcome) (s : State) : State := modifyChain n (appendEntry ⟨x, o⟩) s

/-- The newest chain entry of a segment. -/
def newestEntry (s : State) (n : Nat) : Option ChainEntry :=
  match segmentAt s n with
  | some r => match r.verdict with
    | some v => v.chain.getLast?
    | none => none
  | none => none

/-- The state of a segment, for a notice. -/
def stateOfSegment (s : State) (n : Nat) : Option SegState := (segmentAt s n).map (·.state)

/-! ### Pulses and trips (R126, R142) -/

/-- A pulse starts, or restarts with the full width; a failed channel takes none (R141, R142). -/
def startPulse (ch : Fin 4) (s : State) : State :=
  modifyChannel ch (fun c => if c.failed then c else { c with pulse := some (dueIn c.width s) }) s

/-- The record of an interrupter whose trip starts with segment n as first waiter (R126). -/
def tripped (n : Nat) (s : State) (r : IntRec) : IntRec :=
  { r with state := .tripping, waiters := [n], saved := r.armed, armed := false, outstanding := true,
           confirm := some (dueIn r.confirmTime s), pulseFrame := some s.ft.frame }

/-- A trip of interrupter x, whose record is r, starts for segment n (R126, R127). -/
def startTrip (x : Nat) (r : IntRec) (n : Nat) (cause : TripCause) (s : State) : State :=
  let s1 := recordVisit n x .tripped (setSegState n .isolating (writeInterrupter x (tripped n s r) s))
  let s2 := match r.kind with
    | .loc ch => startPulse ch s1
    | .remote => s1
  raiseNow (.tripStarted x r.kind r.boundary r.confirmTime n cause) s2

/-! ### The walk (R123, R124) -/

/-- How an interrupter's waiters escalate: interrupter, cause, boundary sensor it had, waiters in order (R135). -/
abbrev Escalation := Nat → FailReason → Nat → List Nat → State → State

/-- The segments in ISOLATING whose newest chain entry names x with TRIPPED or JOINED, ascending (R144). They are picked before
the escalation reads any segment record (log 38). -/
def waitersByChain (s : State) (x : Nat) : List Nat :=
  allSegments.filter fun n => stateOfSegment s n == some .isolating &&
    (newestEntry s n == some ⟨x, .tripped⟩ || newestEntry s n == some ⟨x, .joined⟩)

/-- Quarantine of interrupter x, whose record is r (R144). Its waiters are picked from the verdict parts before any segment record
is read; where the read that follows loses the sole one, no ESCALATED notice is raised (log 38). -/
def quarantineInterrupter (escalate : Escalation) (x : Nat) (r : IntRec) (s : State) : State :=
  let t := raiseNow (.quarantined .interrupter x) { s with interrupters := setRow s.interrupters x .tableError }
  if r.state = .tripping then escalate x .tableError r.boundary (waitersByChain t x) t else t

/-- A read of an interrupter record by its owner (R162). -/
def readInterrupterWith (escalate : Escalation) (x : Nat) (s : State) : State :=
  match interrupterAt s x with
  | none => s
  | some r =>
    let delivered := if invertedBits r.err ≤ 1 then r else Config.misreadInterrupter r
    match readResult r.err with
    | .clean => if r.err = 0 then s else writeInterrupter x delivered s
    | .single => noteCorrection interrupterBank (writeInterrupter x delivered s)
    | .double => quarantineInterrupter escalate x r (latch .eccDoubleSeen s)

/-- The walk of segment n over the candidate boundaries left (R123, R124). Past the last boundary it leaves the segment
in ISOLATION_FAILED (R137). -/
def walkWith (escalate : Escalation) (n : Nat) (cause : TripCause) : List Nat → State → State
  | [], s => setSegState n .isolationFailed s
  | b :: rest, s =>
    match interrupterOn s b with
    | none => walkWith escalate n cause rest s
    | some x =>
      let s1 := readInterrupterWith escalate x s
      match interrupterAt s1 x with
      | none => walkWith escalate n cause rest (recordVisit n x .skippedFailed s1)
      | some r =>
        match r.state with
        | .tripping =>
          recordVisit n x .joined (setSegState n .isolating (writeInterrupter x { r with waiters := r.waiters ++ [n] } s1))
        | .failed => walkWith escalate n cause rest (recordVisit n x .skippedFailed s1)
        | .opened => walkWith escalate n cause rest (recordVisit n x .skippedOpen s1)
        | .unknown | .closed =>
          if r.armed then startTrip x r n cause s1
          else walkWith escalate n cause rest (recordVisit n x .skippedDisarmed s1)

/-- The candidate boundaries after b; none when b is not among them (R136). -/
def boundariesAfter (b : Nat) : List Nat → List Nat
  | [] => []
  | c :: rest => if c = b then rest else boundariesAfter b rest

/-- The ISOLATION_FAILED notice, when the segment ended there (R137). -/
def noteIsolationFailed (n : Nat) (s : State) : State :=
  match segmentAt s n with
  | some r => match r.state, r.verdict with
    | .isolationFailed, some v => raiseNow (.isolationFailed n v.verdictClass v.chain.length) s
    | _, _ => s
  | none => s

/-- The ESCALATED notice of a segment (R135 step 3). -/
def noteEscalated (x : Nat) (cause : FailReason) (n : Nat) (s : State) : State :=
  let st := stateOfSegment s n
  let on := if st = some .isolating then (newestEntry s n).map (·.id) else none
  raiseNow (.escalated x cause (some n) st on) s

/-- One waiter escalates, to its end (R135, R136). The Segment Table is read for the tree first; a waiter lost to that
read escalates no further. -/
def escalateOne (walk : Nat → TripCause → List Nat → State → State) (x : Nat) (cause : FailReason) (b n : Nat)
    (s : State) : State :=
  let s1 := readSegments s
  match segmentAt s1 n with
  | none => s1
  | some _ =>
    let s2 := modifyChain n (setNewest .escalatedFrom) s1
    let s3 := if tripsAllowed s2 then walk n .escalation (boundariesAfter b (candidateBoundaries s2 n)) s2
      else setSegState n .withheld s2
    noteIsolationFailed n (noteEscalated x cause n s3)

/-- The escalation of a failed interrupter's waiters, one at a time in the order given; with no waiter one notice with
the segment absent (R135). `fuel` bounds how deep quarantines found by the walks may nest: each one loses a record, and
there are sixteen (log 13). -/
def escalateWith : Nat → Escalation
  | 0 => fun _ _ _ _ s => s
  | fuel + 1 => fun x cause b waiters s =>
    if waiters.isEmpty then raiseNow (.escalated x cause none none none) s
    else forEach waiters (escalateOne (walkWith (escalateWith fuel)) x cause b) s

def escalate : Escalation := escalateWith 17

/-- A chain walk (R123). -/
def walk : Nat → TripCause → List Nat → State → State := walkWith escalate

/-- A read of an interrupter record (R162, R144). -/
def readInterrupter : Nat → State → State := readInterrupterWith escalate

def readInterrupters (s : State) : State := forEach allInterrupters readInterrupter s

/-! ### Confirmation (R89, R125) -/

/-- What a confirmation fixes beside the suspect details (R89): class, whether every phase is named, confirm frame,
DEADLINE mark, arc score. -/
structure Confirmation where
  verdictClass : VerdictClass
  allPhases : Bool
  confirm : FrameNo
  deadline : Bool
  arc : Option Nat
  deriving DecidableEq, Repr

/-- The verdict part a confirmation places in a segment, its chain empty (R89). -/
def verdictOf (r : SegRec) (d : SuspectDetails) (k : Confirmation) : Verdict :=
  { verdictClass := k.verdictClass
    phases := if k.allPhases then r.phases else d.openPhases
    first := d.first
    confirm := k.confirm
    marks := { deadline := k.deadline, coarse := d.coarse, backfed := d.backfed, loadLoss := d.loadLoss }
    chain := [] }

/-- The VERDICT notice, with the state the walk reached (R89, R125). -/
def noteVerdict (n : Nat) (arc : Option Nat) (s : State) : State :=
  match segmentAt s n with
  | some r => match r.verdict with
    | some v => raiseNow (.verdict n r.state v.verdictClass v.phases v.first v.confirm v.marks r.openCount
        r.contactCount (arc.map (min · 65535))) s
    | none => s
  | none => s

/-- A confirmed segment's walk, taken whole (R89, R123, R125). The Segment Table is read for the tree first; a segment
that read finds lost is not walked. -/
def confirmWalk (n : Nat) (k : Confirmation) (s : State) : State :=
  let s1 := readSegments s
  match segmentAt s1 n with
  | none => s1
  | some r =>
    match r.suspect with
    | none => s1
    | some d =>
      let s2 := writeSegment n { r with verdict := some (verdictOf r d k), suspect := none } s1
      let s3 := if tripsAllowed s2 then walk n .verdict (candidateBoundaries s2 n) s2 else setSegState n .withheld s2
      noteIsolationFailed n (noteVerdict n k.arc s3)

/-! ### Opening and failing (R128, R133, R135) -/

/-- A TRIPPING interrupter proved open (R128). The waiters' segment records are written without a read, which clears the errors
they hold (log 38). -/
def openInterrupter (x : Nat) (source : OpenSource) (frame : FrameNo) (s : State) : State :=
  match interrupterAt s x with
  | none => s
  | some r =>
    let s1 := writeInterrupter x { r with state := .opened, confirm := none, waiters := [] } s
    let s2 := forEach r.waiters (fun n t => modifyChain n (setNewest .opened) (setSegState n .isolated t)) s1
    raiseAt frame (.interrupterOpened x source r.waiters.length false) s2

/-- A TRIPPING interrupter fails: its waiters list is emptied and its waiters escalate (R135). -/
def failTripping (x : Nat) (reason : FailReason) (s : State) : State :=
  match interrupterAt s x with
  | none => s
  | some r =>
    escalate x reason r.boundary r.waiters
      (writeInterrupter x { r with state := .failed, reason := some reason, confirm := none, waiters := [] } s)

end Sys2Proof.Machine
end

