-- ==== Sys2Proof/Machine/Ring.lean ====
section
/-! DEFINITION. The Alignment Ring: frames, the hold and the closing test, closing, overflow, and the judging and
storing of REPORT entries (chapter 3). -/

namespace Sys2Proof.Machine

/-- The awaited set of a frame: the members of its expected set with no stored report in it (section 3.3). -/
def awaited (f : Frame) : List Nat := f.expected.filter fun d => (rowAt f.reports d).isNone

/-- The hold of a frame (R47). -/
def holdOf (s : State) (f : Frame) : Nat := max s.params.minHold (maxLatency s (awaited f))

/-- A frame is complete, or its age is at least its hold (R48). -/
def mayClose (s : State) (f : Frame) : Bool :=
  (awaited f).isEmpty || decide ((holdOf s f : Int) ≤ frameDiff s.ft.frame f.number)

/-- The closing test of an OPEN frame (R48). -/
def testFrame (s : State) (f : Frame) : Frame :=
  if f.cond = .opened && mayClose s f then { f with cond := .closable } else f

/-- The boundary sensors whose interrupter is OPEN or TRIPPING, as a pass begins (R68). -/
def shadowedNow (s : State) : List Nat :=
  allInterrupters.filterMap fun n => match interrupterAt s n with
    | some r => if r.state = .opened || r.state = .tripping then some r.boundary else none
    | none => none

/-- A pass that begins for a frame (R75). -/
def newPass (s : State) (number : FrameNo) : Pass :=
  { frame := number, stage := .one, shadowed := shadowedNow s, work := [], confirmed := [], sensorNotices := [],
    segmentNotices := [], seeded := [] }

/-- A CLOSABLE frame closes when it is the oldest and no pass is in flight (R49). -/
def closeOldest (s : State) : State :=
  match s.pass, s.ring with
  | none, f :: rest =>
    if f.cond = .closable then
      { s with ring := { f with cond := .evaluating } :: rest, pass := some (newPass s f.number) }
    else s
  | _, _ => s

/-- The overflow discard: the oldest of eight frames leaves; a pass in flight for it is abandoned (R46). -/
def discardOldest (s : State) : State :=
  match s.ring with
  | [] => s
  | f :: rest =>
    let abandoned := f.cond == .evaluating
    raiseAt f.number (.frameDropped f.reports.length abandoned)
      (bump .frameDropped { s with ring := rest, pass := if abandoned then none else s.pass })

/-- The slots whose record is ACTIVE or STALE: those the index maps to (R4, R45). -/
def reportingSlots (s : State) : List Nat := allSlots.filter fun d => (sensorAt s d).isSome

/-- Frame c is opened at the newest end (R45 step 2). -/
def openFrame (s : State) : State :=
  { s with ring := s.ring ++ [{ number := s.ft.frame, expected := reportingSlots s, reports := [], cond := .opened }] }

/-- What the ring does with a frame start, in RUN (R44, R45). -/
def ringFrameStart (s : State) : State :=
  if s.mc.mode = .run then
    let s1 := if 8 ≤ s.ring.length then discardOldest s else s
    let s2 := openFrame s1
    closeOldest { s2 with ring := s2.ring.map (testFrame s2) }
  else s

/-! ### REPORT entries (R38 to R43) -/

inductive EntryOutcome where
  | stored
  | late
  | future
  | unknownSensor
  | phaseMismatch
  | duplicate
  deriving DecidableEq, Repr

/-- The frame of the ring that a report may be stored in: held as OPEN or CLOSABLE (R38 check 2). -/
def frameFor (s : State) (number : FrameNo) : Option Frame :=
  s.ring.find? fun f => f.number == number && f.cond != .evaluating

/-- The values an entry carries for a phase; they stand in the order A, B, C for the phases carried. -/
def entryValue (e : ReportEntry) : Phase → Option PhaseValue
  | .a => if e.carried.getLsbD 0 then e.values[0]? else none
  | .b => if e.carried.getLsbD 1 then e.values[(e.carried.getLsbD 0).toNat]? else none
  | .c => if e.carried.getLsbD 2 then e.values[(e.carried.getLsbD 0).toNat + (e.carried.getLsbD 1).toNat]? else none

/-- One phase as stored: V clamped to 2047 (R43). -/
def storedPhase (v : PhaseValue) : PhaseReport := { v := min v.v.toNat 2047, i := v.i.toNat, surge := v.surge == 1 }

/-- The report stored for a VALID entry: the phases the sensor carries (R41, R43). -/
def storedValues (r : SensorRec) (e : ReportEntry) : ReportValues :=
  { phases := ofPhases fun p => if perPhase r.phases p then (entryValue e p).map storedPhase else none
    residual := e.residual.toNat }

/-- A voltage of the sensor's phases stands above 2047 in the entry (R43). -/
def clamps (r : SensorRec) (e : ReportEntry) : Bool :=
  allPhases.any fun p => perPhase r.phases p && (match entryValue e p with
    | some v => decide (2047 < v.v.toNat)
    | none => false)

/-- The entry lacks a phase that the sensor carries (R41). -/
def lacksPhase (r : SensorRec) (e : ReportEntry) : Bool := !phaseSubset r.phases (phasesOfByte e.carried)

def entryValid (e : ReportEntry) : Bool := e.quality == 0

/-- A report is put into the frame of that number, and the frame is tested for closing; a frame made CLOSABLE as the
oldest closes (R43, R48, R49). -/
def storeReport (number : FrameNo) (slot : Nat) (report : StoredReport) (s : State) : State :=
  let put (f : Frame) : Frame :=
    if f.number = number && f.cond ≠ .evaluating then testFrame s { f with reports := setRow f.reports slot report } else f
  let t := { s with ring := s.ring.map put }
  match s.ring, t.ring with
  | f :: _, g :: _ => if f.cond = .opened && g.cond = .closable then closeOldest t else t
  | _, _ => t

/-- The judging of an entry whose frame is held and whose address found a slot with a live record (R38 checks 3 to 6). -/
def judgeKnown (e : ReportEntry) (f : Frame) (slot : Nat) (r : SensorRec) (s : State) : State × EntryOutcome :=
  if !f.expected.contains slot then (bump .reportUnknown s, .unknownSensor)
  else if entryValid e && lacksPhase r e then (s, .phaseMismatch)
  else if (rowAt f.reports slot).isSome then (bump .reportDuplicate s, .duplicate)
  else
    let s1 := if r.seen then s else writeSensor slot { r with seen := true } s
    let s2 := if entryValid e && clamps r e then bump .reportClamped s1 else s1
    let report := if entryValid e then StoredReport.valid (storedValues r e) else .invalid
    (storeReport f.number slot report s2, .stored)

/-- One REPORT entry is judged and filed (R38 to R43). -/
def judgeEntry (e : ReportEntry) (s : State) : State × EntryOutcome :=
  if frameDiff s.ft.frame e.frame < 0 then (bump .reportFuture s, .future)
  else match frameFor s e.frame with
    | none => (bump .reportLate s, .late)
    | some _ =>
      match rowAt s.index e.address.toNat with
      | none => (bump .reportUnknown s, .unknownSensor)
      | some slot =>
        let s1 := readSensor slot s
        match frameFor s1 e.frame, sensorAt s1 slot with
        | some f, some r => judgeKnown e f slot r s1
        | _, _ => (bump .reportUnknown s1, .unknownSensor)

/-- The entries of a request, one at a time in their order (R37). -/
def judgeEntries : List ReportEntry → State → State × List EntryOutcome
  | [], s => (s, [])
  | e :: rest, s =>
    let (s1, o) := judgeEntry e s
    let (s2, os) := judgeEntries rest s1
    (s2, o :: os)

end Sys2Proof.Machine
end

