-- ==== Sys2Proof/Machine/Measure.lean ====
section
/-! DEFINITION. The arithmetic of a pass: voltage classes, unbalance limits, baselines, increments, the leak and the
arc score (chapter 4), and the tests of stage 2 (section 5.3). All of it reads the frame under evaluation. -/

namespace Sys2Proof.Machine

inductive VoltageClass where
  | live
  | sagged
  | collapsed
  deriving DecidableEq, Repr

/-- The voltage class of a stored voltage (R59). -/
def voltageClass (p : ProfileParams) (v : Nat) : VoltageClass :=
  if p.vLive ≤ v then .live else if v ≤ vOpenEffective p then .collapsed else .sagged

/-- The frame under evaluation: the oldest, in condition EVALUATING (R44). -/
def evaluated (s : State) : Option Frame :=
  match s.ring with
  | f :: _ => if f.cond = .evaluating then some f else none
  | [] => none

/-- The valid stored report of a slot in the evaluated frame. -/
def validReport (s : State) (slot : Nat) : Option ReportValues :=
  match evaluated s with
  | none => none
  | some f => match rowAt f.reports slot with
    | some (.valid v) => some v
    | _ => none

/-- The stored values of a phase at a sensor with a valid report. -/
def phaseReport (s : State) (slot : Nat) (p : Phase) : Option PhaseReport :=
  (validReport s slot).bind fun v => perPhase v.phases p

/-- The class of a phase at a sensor; none without a valid report, or for a phase it does not carry (R59). -/
def classAt (s : State) (slot : Nat) (p : Phase) : Option VoltageClass :=
  (phaseReport s slot p).map fun x => voltageClass (selectedProfile s) x.v

def liveAt (s : State) (slot : Nat) (p : Phase) : Bool := classAt s slot p == some .live

def collapsedAt (s : State) (slot : Nat) (p : Phase) : Bool := classAt s slot p == some .collapsed

/-- Every phase of a set is COLLAPSED at a sensor with a valid report (R93). -/
def allCollapsedAt (s : State) (slot : Nat) (phases : PhaseSet) : Bool :=
  (validReport s slot).isSome && (phasesIn phases).all (collapsedAt s slot)

/-- The phases of a segment other than p (R60). -/
def otherPhases (phases : PhaseSet) (p : Phase) : List Phase := (phasesIn phases).filter (· != p)

/-- The smallest of some numbers. -/
def minimum : List Nat → Option Nat
  | [] => none
  | n :: rest => match minimum rest with
    | some m => some (min n m)
    | none => some n

/-- The unbalance limit of phase p at sensor d for a segment of the given phases (R60). -/
def unbalanceLimit (s : State) (phases : PhaseSet) (d : Nat) (p : Phase) : Option Nat :=
  let others := otherPhases phases p
  if others.all (liveAt s d) then
    (minimum (others.filterMap fun q => (phaseReport s d q).map (·.v))).map (· - (selectedProfile s).unbalGap)
  else none

/-- The backfed signature of p at d (R82). -/
def backfedAt (s : State) (phases : PhaseSet) (d : Nat) (p : Phase) : Bool :=
  match phaseReport s d p, unbalanceLimit s phases d p with
  | some x, some limit => classAt s d p == some .sagged && decide (x.v ≤ limit)
  | _, _ => false

/-- The collapse signature of p at d (R82). -/
def collapseSignature (s : State) (phases : PhaseSet) (d : Nat) (p : Phase) : Bool :=
  collapsedAt s d p || backfedAt s phases d p

/-! ### Baselines (R64) -/

/-- The baseline after one input x, with k = BASE_SHIFT, once the learn count is 1 or more: d / 2^k rounded to the
nearest, halves away from zero (R64). -/
def learnStep (k b x : Nat) : Nat :=
  if b ≤ x then b + (x - b + 2 ^ (k - 1)) / 2 ^ k else b - (b - x + 2 ^ (k - 1)) / 2 ^ k

/-- The baseline after a quiet report (R64). -/
def learnBase (k learn b x : Nat) : Nat := if learn = 0 then x else learnStep k b x

/-! ### Increments and the leak (R67 to R71) -/

/-- The residual increment of a sensor: present with a valid report and a seeded sensor (R67). -/
def increment (s : State) (slot : Nat) : Option Nat :=
  match validReport s slot, sensorAt s slot with
  | some v, some r => if isSeeded s r then some (v.residual - r.residualBase) else none
  | _, _ => none

/-- A downstream sensor's contribution to D, and whether it sets the coarse flag (R69). -/
def contribution (s : State) (shadowed : List Nat) (r : SegRec) (d : Nat) : Nat × Bool :=
  if shadowed.contains d then (0, false)
  else if r.excluded.contains d then (0, true)
  else match increment s d with
    | some x => (x, false)
    | none => (0, true)

/-- D and the coarse flag of a segment (R69). -/
def leakSum (s : State) (shadowed : List Nat) (r : SegRec) : Nat × Bool :=
  r.down.foldl (fun acc d =>
    let c := contribution s shadowed r d
    (acc.1 + c.1, acc.2 || c.2)) (0, false)

/-- The leak ring with a value appended (R70). -/
def appendLeak (ring : List Nat) (leak : Nat) : List Nat :=
  (if ring.length < 8 then ring else ring.drop (ring.length - 7)) ++ [leak]

/-- The arc score of a ring: the sum of the distances of neighbours (R71). -/
def arcScore : List Nat → Nat
  | a :: b :: rest => (max a b - min a b) + arcScore (b :: rest)
  | _ => 0

/-! ### The open test and the load-loss test (R81 to R85) -/

/-- A tested phase of a segment (R81). -/
def isTested (s : State) (r : SegRec) (p : Phase) : Bool :=
  perPhase r.phases p && liveAt s r.up p && !perPhase r.operated p

/-- The participating sensors of a segment on a phase (R81). -/
def participants (s : State) (shadowed : List Nat) (r : SegRec) (p : Phase) : List Nat :=
  r.down.filter fun d => (phaseReport s d p).isSome && !r.excluded.contains d && (sensorAt s d).isSome
    && !shadowed.contains d

/-- The outcome on a tested phase of a non-leaf segment (R82). -/
def openPhase (s : State) (shadowed : List Nat) (r : SegRec) (p : Phase) : Option TestResult :=
  match participants s shadowed r p with
  | [] => none
  | ds => some (if ds.any fun d => collapseSignature s r.phases d p then .present else .absent)

/-- The outcome on a tested phase of a leaf segment (R83). -/
def loadLossPhase (s : State) (r : SegRec) (p : Phase) : Option TestResult :=
  match sensorAt s r.up, phaseReport s r.up p with
  | some u, some x =>
    if isSeeded s u && decide ((selectedProfile s).loadMin ≤ perPhase u.currentBase p) then
      some (if x.i ≤ (selectedProfile s).iDead then .present else .absent)
    else none
  | _, _ => none

/-- The outcome on a phase before the protective-operation check; none when it is not tested or not judged. -/
def phaseResult (s : State) (shadowed : List Nat) (r : SegRec) (p : Phase) : Option TestResult :=
  if isTested s r p then (if isLeaf r then loadLossPhase s r p else openPhase s shadowed r p) else none

/-- The surge of p at the upstream sensor within three frames of frame f, the collapse frame included (R84). -/
def recentSurge (s : State) (r : SegRec) (f : FrameNo) (p : Phase) : Option FrameNo :=
  match sensorAt s r.up with
  | none => none
  | some u => match perPhase u.surge p with
    | some g => if 0 ≤ frameDiff f g ∧ frameDiff f g ≤ 3 then some g else none
    | none => none

/-- A phase found PRESENT that a surge marks as a protective operation (R84). -/
def isOperation (s : State) (shadowed : List Nat) (r : SegRec) (f : FrameNo) (p : Phase) : Bool :=
  phaseResult s shadowed r p == some .present && (recentSurge s r f p).isSome

/-- The outcome on a phase after the protective-operation check (R84). -/
def checkedPhase (s : State) (shadowed : List Nat) (r : SegRec) (f : FrameNo) (p : Phase) : Option TestResult :=
  if isOperation s shadowed r f p then none else phaseResult s shadowed r p

/-- The outcome of the open or load-loss test (R82, R83). -/
def openResult (s : State) (shadowed : List Nat) (r : SegRec) (f : FrameNo) : TestResult :=
  if allPhases.any fun p => checkedPhase s shadowed r f p == some .present then .present
  else if allPhases.any fun p => checkedPhase s shadowed r f p == some .absent then .absent
  else .notPerformed

/-- A phase of the operated set is released (R85). -/
def isReleased (s : State) (shadowed : List Nat) (r : SegRec) (p : Phase) : Bool :=
  liveAt s r.up p &&
    (if isLeaf r then
      match phaseReport s r.up p with
      | some x => !r.excluded.contains r.up && decide ((selectedProfile s).iDead < x.i)
      | none => false
    else
      let ds := participants s shadowed r p
      !ds.isEmpty && ds.all fun d => liveAt s d p)

/-- The increment of a segment's upstream sensor, when the contact test is performed (R69). -/
def contactInput (s : State) (r : SegRec) : Option Nat := if isBlind r then none else increment s r.up

/-- A counter after a test (R80). -/
def countAfter (limit count : Nat) : TestResult → Nat
  | .present => satSucc limit count
  | .absent => 0
  | .notPerformed => count

end Sys2Proof.Machine
end

