-- ==== Sys2Proof/Machine/Timebase.lean ====
section
/-! DEFINITION. The Frame Timebase: frame starts, SYNC edges, the lock and its loss (chapter 2). -/

namespace Sys2Proof.Machine

/-- One FRAME_PERIOD in microseconds. -/
def periodMicros (s : State) : Nat := s.ft.period * microsPerMs

/-- The tolerance T: FRAME_PERIOD × 125 microseconds (R27). -/
def tolerance (s : State) : Nat := s.ft.period * 125

/-- The timebase runs: it produces frame starts in HOLD and RUN alone (R27). -/
def timebaseRuns (s : State) : Bool := s.mc.mode == .hold || s.mc.mode == .run

/-- The current frame number steps (R32). -/
def stepFrameNumber (s : State) : State :=
  match s.ft.override with
  | some n => { s with ft := { s.ft with frame := n, override := none } }
  | none => { s with ft := { s.ft with frame := s.ft.frame + 1 } }

/-- A frame start lowers a running tail while the urgency source does not hold (R148). -/
def stepTail (s : State) : State :=
  if urgencySource s then s else { s with nq := { s.nq with tail := s.nq.tail - 1 } }

/-- A frame start: the number steps, the Notice Queue counts it, the Alignment Ring takes it (R27, R32, R45, R148). -/
def frameStart (s : State) : State := ringFrameStart (stepTail (stepFrameNumber s))

/-- A change of timebase state raises TIMEBASE with the current frame number after the change (R35). -/
def enterTimebase (new : TimebaseState) (cause : TimebaseCause) (s : State) : State :=
  raiseNow (.timebase s.ft.state new cause) { s with ft := { s.ft with state := new } }

def emptyHistory (s : State) : State := { s with ft := { s.ft with prevEdge := none, run := 0 } }

/-- An internal frame start less than T before the edge stands for it (R29). -/
def internalStands (t : Nat) (s : State) : Bool :=
  match s.ft.lastInternal with
  | some last => decide (last ≤ t) && decide (t - last < tolerance s)
  | none => false

/-- FT locks at an edge at time t (R29). The new expected frame start replaces the internal schedule (R28), a start that was due
before the edge and whose row has not come included (log 40). -/
def lockAt (t : Nat) (s : State) : State :=
  let s1 := if internalStands t s then s else frameStart s
  let s2 := emptyHistory { s1 with ft := { s1.ft with expected := some (t + periodMicros s) } }
  enterTimebase .locked .lockAcquired s2

/-- The run restarts at an edge (R29). -/
def startRun (t : Nat) (s : State) : State := { s with ft := { s.ft with prevEdge := some t, run := 1 } }

/-- An edge in UNLOCKED or FREEWHEEL (R29). An edge later than p + FRAME_PERIOD + T finds the history emptied (log 20). -/
def acquireEdge (t : Nat) (s : State) : State :=
  match s.ft.prevEdge with
  | none => startRun t s
  | some p =>
    if t + tolerance s < p + periodMicros s then startRun t s
    else if p + periodMicros s + tolerance s < t then startRun t s
    else if 3 ≤ s.ft.run then lockAt t s
    else { s with ft := { s.ft with prevEdge := some t, run := s.ft.run + 1 } }

/-- An edge in LOCKED: good inside the edge window, otherwise counted as SYNC_MISSED (R30); so is one later than E + T, when
EDGE_WINDOW_CLOSE has not been sent (log 36). -/
def lockedEdge (t : Nat) (s : State) : State :=
  match s.ft.expected with
  | some e =>
    if e ≤ t + tolerance s ∧ t ≤ e + tolerance s then
      let s1 := frameStart s
      { s1 with ft := { s1.ft with expected := some (t + periodMicros s) } }
    else bump .syncMissed s
  | none => bump .syncMissed s

/-- A rising SYNC edge at time t (R28 to R30). -/
def syncEdge (t : Nat) (s : State) : State :=
  if timebaseRuns s then
    match s.ft.state with
    | .internal => s
    | .unlocked | .freewheel => acquireEdge t s
    | .locked => lockedEdge t s
  else s

/-- No edge arrived by p + FRAME_PERIOD + T: the history is emptied at that moment (R29). -/
def historyTimeout (s : State) : State :=
  match s.ft.state, s.ft.prevEdge with
  | .unlocked, some p | .freewheel, some p => arriveAt (p + periodMicros s + tolerance s) (emptyHistory s)
  | _, _ => s

/-- The expected frame start arrives on the internal schedule (R28). -/
def internalStart (s : State) : State :=
  match s.ft.expected with
  | some e =>
    if timebaseRuns s ∧ s.ft.state ≠ .locked then
      let s1 := frameStart (arriveAt e s)
      { s1 with ft := { s1.ft with expected := some (e + periodMicros s), lastInternal := some e } }
    else s
  | none => s

/-- The LOCKED edge window closes with no good edge (R31). -/
def windowClose (s : State) : State :=
  match s.ft.expected with
  | some e =>
    if timebaseRuns s ∧ s.ft.state = .locked then
      let s1 := frameStart (arriveAt (e + tolerance s) s)
      let s2 := emptyHistory { s1 with ft := { s1.ft with expected := some (e + periodMicros s), lastInternal := none } }
      enterTimebase .freewheel .syncLost (latch .syncLostSeen (bump .syncMissed s2))
    else s
  | none => s

/-- The timebase starts its schedule at the end of self-test (R28). -/
def startSchedule (s : State) : State :=
  { s with ft := { s.ft with expected := some (s.now + periodMicros s), lastInternal := none } }

end Sys2Proof.Machine
end

