-- ==== Sys2Proof/Machine/Pass.lean ====
section
/-! DEFINITION. The evaluation pass: its four stages and its completion (chapter 5), sensing loss at stage 1
(chapter 6), deadline starts and expiries (R72, R99 to R102). -/

namespace Sys2Proof.Machine

/-- Changes the pass in flight. -/
def modifyPass (f : Pass → Pass) (s : State) : State := { s with pass := s.pass.map f }

/-- Queues a notice of stage 1 for the completion (R96). -/
def queueSensorNotices (bodies : List NoticeBody) (s : State) : State :=
  modifyPass (fun p => { p with sensorNotices := p.sensorNotices ++ bodies }) s

/-- Queues notices of a segment for the completion (R96). -/
def queueSegmentNotices (n : Nat) (bodies : List NoticeBody) (s : State) : State :=
  modifyPass (fun p => { p with
    segmentNotices := setRow p.segmentNotices n ((rowAt p.segmentNotices n).getD [] ++ bodies) }) s

/-! ### Stage 1 (R78) -/

/-- The missing-run step of a sensor (R51). -/
def missingStep (valid : Bool) (r : SensorRec) : SensorRec :=
  if valid then { r with missingRun := 0 }
  else { r with missingRun := satSucc 255 r.missingRun, missingTotal := satSucc 65535 r.missingTotal }

/-- An ACTIVE sensor goes STALE: unseeded, added to excluded sets, its notices queued (R111, R112). -/
def goStale (slot : Nat) (r : SensorRec) (s : State) : State :=
  let s1 := writeSensor slot (unseed { r with status := .stale }) s
  let (s2, bodies) := excludeEverywhere slot allSegments s1
  queueSensorNotices (.sensorStale slot r.missingRun r.missingTotal :: bodies) s2

/-- The segments whose excluded sets hold a sensor, ascending (R114). -/
def segmentsExcluding (s : State) (slot : Nat) : List Nat :=
  allSegments.filter (inTreeWith s fun r => r.excluded.contains slot)

/-- A STALE sensor with a valid report returns to ACTIVE (R114). -/
def resume (slot : Nat) (r : SensorRec) (s : State) : State :=
  let s1 := readSegments (writeSensor slot { r with status := .active } s)
  queueSensorNotices [.sensorResumed slot r.missingTotal (segmentsExcluding s1 slot)] s1

/-- The last values a valid report leaves (R58). -/
def lastOf (v : ReportValues) (f : FrameNo) : LastValues :=
  { readings := mapPhases (fun _ x => x.map fun y => ⟨y.v, y.i⟩) v.phases, residual := v.residual, frame := f }

/-- The I_SURGE of the segment whose upstream sensor is a given sensor (R61). -/
def surgePickup (s : State) (slot : Nat) : Option Nat :=
  (segmentBelow s slot).bind fun n => (segmentAt s n).map (·.iSurge)

/-- A phase's report sets the last surge frame: by its flag, or by its current (R61). -/
def isSurge (pickup : Option Nat) (x : PhaseReport) : Bool :=
  x.surge || (match pickup with
    | some limit => decide (limit ≤ x.i)
    | none => false)

/-- The surge marks after a valid report (R61). -/
def surgeMarks (pickup : Option Nat) (v : ReportValues) (f : FrameNo) (old : PerPhase (Option FrameNo)) :
    PerPhase (Option FrameNo) :=
  mapPhases (fun p o => match perPhase v.phases p with
    | some x => if isSurge pickup x then some f else o
    | none => o) old

/-- A valid report's values are written into the sensor's record (R58, R61). The Segment Table is read for I_SURGE. -/
def writeReport (slot : Nat) (v : ReportValues) (f : FrameNo) (s : State) : State :=
  let s1 := readSegments s
  modifySensor slot (fun r => { r with
    last := some (lastOf v f)
    surge := surgeMarks (surgePickup s1 slot) v f r.surge }) s1

/-- Steps 2 and 3 of R78 on a record that has taken its missing-run step. -/
def statusStep (slot : Nat) (r : SensorRec) (valid : Bool) (s : State) : State :=
  match r.status with
  | .active =>
    if !valid && decide (s.params.staleLimit ≤ r.missingRun) then goStale slot r s else writeSensor slot r s
  | .stale => if valid then resume slot r s else writeSensor slot r s

/-- Stage 1 on one slot of the expected set (R78). -/
def stage1Sensor (f : Frame) (slot : Nat) (s : State) : State :=
  let s1 := readSensor slot s
  match sensorAt s1 slot with
  | none => s1
  | some r =>
    let report := validReport s1 slot
    let s2 := statusStep slot (missingStep report.isSome r) report.isSome s1
    match report with
    | some v => writeReport slot v f.number s2
    | none => s2

/-- Stage 1: every slot of the evaluated frame's expected set, ascending (R75, R78). A slot quarantined meanwhile has
left the expected set and is passed over (R73). -/
def stage1 (s : State) : State :=
  match evaluated s with
  | some f => forEach f.expected (stage1Sensor f) s
  | none => s

/-! ### Stage 2 (R79 to R87) -/

/-- The suspect details brought up to date with a pass's outcomes (R87). -/
def updateDetails (leaf : Bool) (w : SegWork) (openCount contactCount : Nat) (d : SuspectDetails) : SuspectDetails :=
  let opened := if openCount = 0 then { d with openPhases := noPhases, backfed := false, loadLoss := false }
    else { d with
      openPhases := phaseUnion d.openPhases w.openPhases
      backfed := d.backfed || w.backfed
      loadLoss := d.loadLoss || (leaf && w.openResult == .present) }
  if contactCount = 0 then { opened with coarse := false }
  else { opened with coarse := opened.coarse || (w.contactResult == .present && w.coarse) }

/-- What stage 2 finds of a segment's leak: the ring after it, the outcome, the coarse flag, the arc score (R69 to R71, R86). -/
def contactTest (s : State) (shadowed : List Nat) (r : SegRec) : List Nat × TestResult × Bool × Option Nat :=
  match contactInput s r with
  | none => (r.leakRing, .notPerformed, false, none)
  | some x =>
    let sum := leakSum s shadowed r
    let leak := x - sum.1
    let ring := appendLeak r.leakRing leak
    (ring, if (selectedProfile s).leakPickup ≤ leak then .present else .absent, sum.2, some (arcScore ring))

/-- The working values of stage 2 for a segment (R82 to R86). -/
def segmentWork (s : State) (shadowed : List Nat) (f : FrameNo) (r : SegRec) : SegWork :=
  let contact := contactTest s shadowed r
  let result := openResult s shadowed r f
  let present := ofPhases fun p => checkedPhase s shadowed r f p == some .present
  { openResult := result
    contactResult := contact.2.1
    openPhases := present
    backfed := (phasesIn present).any fun p => (participants s shadowed r p).any fun d => backfedAt s r.phases d p
    coarse := contact.2.2.1
    arc := contact.2.2.2
    firstOpen := r.openCount == 0 && decide (1 ≤ countAfter 15 r.openCount result) }

/-- The record after stage 2 (R80, R84, R85, R70, R87). -/
def testedRecord (s : State) (shadowed : List Nat) (f : FrameNo) (r : SegRec) : SegRec :=
  let w := segmentWork s shadowed f r
  let joined := ofPhases fun p => perPhase r.operated p || isOperation s shadowed r f p
  let opens := countAfter 15 r.openCount w.openResult
  let contacts := countAfter 63 r.contactCount w.contactResult
  let counted := { r with
    openCount := opens
    contactCount := contacts
    leakRing := (contactTest s shadowed r).1
    operated := ofPhases fun p => perPhase joined p && !isReleased s shadowed r p }
  if r.state = .suspect then
    { counted with
      suspect := r.suspect.map (updateDetails (isLeaf r) w opens contacts)
      deadline := if opens = 0 then none else r.deadline
      deadlinePassed := if opens = 0 then false else r.deadlinePassed }
  else counted

/-- The PROTECTIVE_OPERATION notices of a segment, one per phase moved, in the order A, B, C (R84; log 37). -/
def operationNotices (s : State) (shadowed : List Nat) (f : FrameNo) (n : Nat) (r : SegRec) : List NoticeBody :=
  allPhases.filterMap fun p =>
    if isOperation s shadowed r f p then (recentSurge s r f p).map (NoticeBody.protectiveOperation n p) else none

/-- The segment is tested at stage 2 (R79). -/
def testedState (r : SegRec) : Bool := (r.state == .normal || r.state == .suspect) && !isBlind r

/-- Stage 2 on one segment (R79). -/
def stage2Segment (n : Nat) (s : State) : State :=
  let s1 := readSegment n s
  match s1.pass, segmentAt s1 n with
  | some p, some r =>
    if testedState r then
      let s2 := writeSegment n (testedRecord s1 p.shadowed p.frame r) s1
      let s3 := modifyPass (fun q => { q with work := setRow q.work n (segmentWork s1 p.shadowed p.frame r) }) s2
      queueSegmentNotices n (operationNotices s1 p.shadowed p.frame n r) s3
    else s1
  | _, _ => s1

/-- Stage 2: every segment, ascending (R75). -/
def stage2 (s : State) : State := forEach allSegments stage2Segment s

/-! ### Stage 3 (R88 to R94) -/

/-- The outcomes of a segment on which stage 2 did no work. -/
def noWork : SegWork :=
  { openResult := .notPerformed, contactResult := .notPerformed, openPhases := noPhases, backfed := false,
    coarse := false, arc := none, firstOpen := false }

def workOf (p : Pass) (n : Nat) : SegWork := (rowAt p.work n).getD noWork

/-- The conditions of R88 orders 2 and 3. -/
def openConfirms (s : State) (r : SegRec) : Bool := decide ((selectedProfile s).nOpen ≤ r.openCount)

def contactConfirms (s : State) (w : SegWork) (r : SegRec) : Bool :=
  decide ((selectedProfile s).nContact ≤ r.contactCount) ||
    (match w.arc with
      | some score => decide (((selectedProfile s).nContact + 1) / 2 ≤ r.contactCount) && decide (4 ≤ r.leakRing.length)
          && decide ((selectedProfile s).arcPickup ≤ score)
      | none => false)

/-- Every downstream sensor of the segment, which is no leaf, is excluded: a pass can confirm it only as DOWNED_CONDUCTOR
(R117). -/
def contactAlone (r : SegRec) : Bool := !isLeaf r && r.down.all r.excluded.contains

/-- The confirmation test (R88): the first class whose condition holds. A segment with every downstream sensor excluded is
confirmed by the contact test alone, whatever open count it holds (R117). -/
def confirmClass (s : State) (w : SegWork) (r : SegRec) : Option VerdictClass :=
  if contactAlone r then (if contactConfirms s w r then some .downedConductor else none)
  else if (w.openResult == .present && w.contactResult == .present && decide (2 ≤ r.openCount) && decide (2 ≤ r.contactCount))
      || (openConfirms s r && contactConfirms s w r) then some .brokenAndDown
  else if openConfirms s r then some .brokenConductor
  else if contactConfirms s w r then some .downedConductor
  else none

/-- The record entering DEENERGIZED (R93). -/
def deenergize (r : SegRec) : SegRec :=
  { r with state := .deenergized, openCount := 0, contactCount := 0, settle := 0, deadline := none,
           deadlinePassed := false, leakRing := [], suspect := none }

/-- The record entering SUSPECT, its details filled from the pass's outcomes (R91). -/
def enterSuspect (f : FrameNo) (w : SegWork) (r : SegRec) : SegRec :=
  { r with
    state := .suspect
    suspect := some (updateDetails (isLeaf r) w r.openCount r.contactCount
      { first := f, openPhases := noPhases, backfed := false, loadLoss := false, coarse := false }) }

/-- The SUSPECT_BEGIN notice (R91). -/
def suspectNotice (n : Nat) (w : SegWork) : NoticeBody :=
  .suspectBegin n (w.openResult == .present) (w.contactResult == .present) w.openPhases

/-- The clearing test (R92). -/
def clears (w : SegWork) (r : SegRec) : Bool :=
  (w.openResult == .absent && w.contactResult == .absent)
    || (w.openResult == .absent && r.contactCount == 0) || (w.contactResult == .absent && r.openCount == 0)

/-- The record returning to NORMAL (R92). -/
def clearSuspect (r : SegRec) : SegRec :=
  { r with state := .normal, suspect := none, openCount := 0, contactCount := 0, deadline := none,
           deadlinePassed := false, transient := satSucc 65535 r.transient }

/-- Checks 2 to 4 of R90 on a segment that does not enter DEENERGIZED. -/
def judgeSegment (p : Pass) (n : Nat) (r : SegRec) (s : State) : State :=
  let w := workOf p n
  let enters := r.state == .normal && (w.openResult == .present || w.contactResult == .present)
  let s1 := if enters then queueSegmentNotices n [suspectNotice n w] (writeSegment n (enterSuspect p.frame w r) s) else s
  match confirmClass s1 w r with
  | some k => modifyPass (fun q => { q with confirmed := setRow q.confirmed n k }) s1
  | none =>
    if (enters || r.state == .suspect) && clears w r then
      queueSegmentNotices n [.suspectCleared n (clearSuspect r).transient] (modifySegment n clearSuspect s1)
    else s1

/-- The deenergize check of a NORMAL or SUSPECT segment, then the others (R90, R93). -/
def stage3Running (p : Pass) (n : Nat) (r : SegRec) (s : State) : State :=
  if allCollapsedAt s r.up r.phases then
    queueSegmentNotices n [.deenergized n r.state] (writeSegment n (deenergize r) s)
  else judgeSegment p n r s

/-- The check of a DEENERGIZED segment (R93). -/
def stage3Deenergized (n : Nat) (r : SegRec) (s : State) : State :=
  if (phasesIn r.phases).any (liveAt s r.up) then
    let k := s.params.settleFrames
    queueSegmentNotices n [.reenergized n k]
      (writeSegment n { r with state := if k = 0 then .normal else .settling, settle := k } s)
  else s

/-- The check of a SETTLING segment (R94). -/
def stage3Settling (n : Nat) (r : SegRec) (s : State) : State :=
  if (validReport s r.up).isNone then s
  else if allCollapsedAt s r.up r.phases then
    queueSegmentNotices n [.deenergized n r.state] (writeSegment n (deenergize r) s)
  else
    writeSegment n { r with settle := r.settle - 1, state := if r.settle ≤ 1 then .normal else .settling } s

/-- Stage 3 on one segment (R90). -/
def stage3Segment (n : Nat) (s : State) : State :=
  let s1 := readSegment n s
  match s1.pass, segmentAt s1 n with
  | some p, some r =>
    if isBlind r then s1
    else match r.state with
      | .normal | .suspect => stage3Running p n r s1
      | .deenergized => stage3Deenergized n r s1
      | .settling => stage3Settling n r s1
      | .isolating | .isolated | .withheld | .isolationFailed => s1
  | _, _ => s1

/-- Stage 3: every segment, ascending (R75). -/
def stage3 (s : State) : State := forEach allSegments stage3Segment s

/-! ### Stage 4 (R63 to R65) -/

/-- Every segment in the tree that names the sensor is NORMAL (R63). -/
def segmentsNormal (s : State) (slot : Nat) : Bool :=
  (segmentsNaming s slot).all fun n => stateOfSegment s n == some .normal

/-- The baselines and learn count after a quiet report (R64, R65). -/
def learn (s : State) (v : ReportValues) (r : SensorRec) : SensorRec :=
  let k := s.params.baseShift
  { r with
    residualBase := learnBase k r.learn r.residualBase v.residual
    currentBase := mapPhases (fun p b => match perPhase v.phases p with
      | some x => learnBase k r.learn b x.i
      | none => b) r.currentBase
    learn := if r.learn < seedCount s then r.learn + 1 else seedCount s }

/-- Stage 4 on one slot of the expected set (R63 to R65). -/
def stage4Sensor (slot : Nat) (s : State) : State :=
  let s1 := readSegments (readSensor slot s)
  match sensorAt s1 slot, validReport s1 slot with
  | some r, some v =>
    if r.status = .active && segmentsNormal s1 slot then
      let r' := learn s1 v r
      let s2 := writeSensor slot r' s1
      if !isSeeded s1 r && isSeeded s1 r' then
        modifyPass (fun q => { q with seeded := q.seeded ++ [(slot, r'.residualBase)] }) s2
      else s2
    else s1
  | _, _ => s1

/-- Stage 4: every slot of the expected set, ascending (R75). -/
def stage4 (s : State) : State :=
  match evaluated s with
  | some f => forEach f.expected stage4Sensor s
  | none => s

/-! ### Deadlines (R72, R97 to R101) -/

/-- The policy in force for a segment at an expiry (R97). -/
def policyInForce (s : State) (r : SegRec) : Policy :=
  match s.mc.profile with
  | .elevated => .trip
  | .normal => r.policy

/-- An expiry under HOLD policy (R101). -/
def passDeadline (n : Nat) (r : SegRec) (s : State) : State :=
  let s1 := writeSegment n { r with deadline := none, deadlinePassed := true } s
  match r.suspect with
  | some d => raiseNow (.deadlinePassed n r.openCount r.contactCount d.first) s1
  | none => s1

/-- What an expiry confirms (R89, R100). -/
def expiryConfirmation (s : State) : Confirmation :=
  { verdictClass := .brokenConductor, allPhases := false, confirm := s.ft.frame, deadline := true, arc := none }

/-- The remaining time of a deadline started at the completion of the pass for frame f, in milliseconds (R72). -/
def deadlineRemaining (s : State) (f : FrameNo) (r : SegRec) : Int :=
  (r.budget : Int) - frameDiff s.ft.frame f * (s.ft.period : Int)

/-- Step 2 of the completion on one segment: the deadline start of R72, or the expiry taken there; answers the segment
when the expiry confirms it (R96, R100, R101). -/
def deadlineStart (p : Pass) (n : Nat) (s : State) : State × List Nat :=
  let s1 := readSegment n s
  match segmentAt s1 n with
  | none => (s1, [])
  | some r =>
    if r.state = .suspect && (rowAt p.confirmed n).isNone && (workOf p n).firstOpen && r.deadline.isNone then
      let left := deadlineRemaining s1 p.frame r
      if 0 < left then (writeSegment n { r with deadline := some (dueIn left.toNat s1) } s1, [])
      else match policyInForce s1 r with
        | .trip => (s1, [n])
        | .hold => (passDeadline n r s1, [])
    else (s1, [])

/-- Step 2 over some segments; answers those confirmed by expiry, in order. -/
def deadlineStarts (p : Pass) : List Nat → State → State × List Nat
  | [], s => (s, [])
  | n :: rest, s =>
    let (s1, a) := deadlineStart p n s
    let (s2, b) := deadlineStarts p rest s1
    (s2, a ++ b)

/-! ### Completion (R95, R96) -/

/-- Step 1: the stage notices are raised, those of stage 1 first (R96). -/
def raiseStageNotices (p : Pass) (s : State) : State :=
  raiseAll p.frame (allSegments.flatMap fun n => (rowAt p.segmentNotices n).getD []) (raiseAll p.frame p.sensorNotices s)

/-- The segment is SUSPECT. -/
def isSuspect (s : State) (n : Nat) : Bool := stateOfSegment s n == some .suspect

/-- The running deadline timers of the segments confirmed in this pass are stopped (R96 step 3). -/
def stopConfirmed (p : Pass) (s : State) : State :=
  forEach allSegments (fun n t =>
    if (rowAt p.confirmed n).isSome && isSuspect t n then modifySegment n (fun r => { r with deadline := none }) t else t) s

/-- The walk of step 3 for one segment, if it is confirmed and still SUSPECT (R96). -/
def stepThreeWalk (p : Pass) (expired : List Nat) (n : Nat) (s : State) : State :=
  if !isSuspect s n then s
  else if expired.contains n then confirmWalk n (expiryConfirmation s) s
  else match rowAt p.confirmed n with
    | some k => confirmWalk n
        { verdictClass := k, allPhases := k == .downedConductor, confirm := p.frame, deadline := false,
          arc := (workOf p n).arc } s
    | none => s

/-- Interrupter x has a measurement proof in the evaluated frame (R95). -/
def hasProof (p : Pass) (r : IntRec) (s : State) : Bool :=
  match r.pulseFrame, evaluated s, sensorAt s r.boundary, validReport s r.boundary with
  | some g, some f, some b, some v =>
    decide (1 ≤ frameDiff p.frame g) && f.expected.contains r.boundary && (phasesIn b.phases).all (collapsedAt s r.boundary)
      && allPhases.all fun q => match perPhase v.phases q with
        | some x => decide (x.i ≤ (selectedProfile s).iDead)
        | none => true
  | _, _, _, _ => false

/-- Step 4 for one interrupter: its proof, if any, opens it (R95, R129). Its record is read, and the boundary sensor's
while it is TRIPPING. -/
def proofStep (p : Pass) (x : Nat) (s : State) : State :=
  let s1 := readInterrupter x s
  match interrupterAt s1 x with
  | none => s1
  | some r =>
    if r.state = .tripping then
      let s2 := readSensor r.boundary s1
      if hasProof p r s2 then openInterrupter x .measurement p.frame s2 else s2
    else s1

/-- The ECC_CORRECTED notice of a completion (R162). -/
def noteCorrections (frame : FrameNo) (s : State) : State :=
  if s.tm.pendingCorrections = 0 then s
  else raiseAt frame (.eccCorrected s.tm.pendingCorrections (s.tm.firstBank.getD 0))
    { s with tm := { s.tm with pendingCorrections := 0, firstBank := none } }

/-- Steps 1 to 5 of R96 for pass p. -/
def completionSteps (p : Pass) (s : State) : State :=
  let s1 := raiseStageNotices p s
  let (s2, expired) := deadlineStarts p allSegments s1
  let s3 := stopConfirmed p s2
  let s4 := forEach allSegments (stepThreeWalk p expired) s3
  let s5 := forEach allInterrupters (proofStep p) s4
  let s6 := raiseAll p.frame (p.seeded.map fun q => .baselineReady q.1 q.2) s5
  noteCorrections p.frame s6

/-- The evaluated frame leaves the ring with the end of its pass (R50 step 1, R75). -/
def leaveFrame (s : State) : State :=
  { s with pass := none, ring := match s.ring with
      | f :: rest => if f.cond = .evaluating then rest else f :: rest
      | [] => [] }

/-- The completion up to ring step 1 (R50, R96). -/
def completePass (s : State) : State :=
  match s.pass with
  | some p => leaveFrame (completionSteps p s)
  | none => s

/-! ### Running the stages (R75) -/

/-- The pass in flight takes the stage named. -/
def atStage (g : Stage) (s : State) : Bool :=
  match s.pass with
  | some p => p.stage == g
  | none => false

/-- The pass goes on to a stage. -/
def goTo (g : Stage) (s : State) : State := modifyPass (fun p => { p with stage := g }) s

/-- A stage that is not the pass's next does not occur (log 5). -/
def runStage (g next : Stage) (work : State → State) (s : State) : State :=
  if atStage g s then goTo next (work s) else s

/-! ### Timer expiries (R99, R134, R142) -/

/-- The expiry of a segment's deadline timer (R99 to R102). The record is read first; a segment lost to the read has no
expiry (R23). -/
def deadlineExpires (n : Nat) (s : State) : State :=
  match segmentAt s n with
  | none => s
  | some r0 => match r0.deadline with
    | none => s
    | some due =>
      let s1 := readSegment n (arriveAt due s)
      match segmentAt s1 n with
      | none => s1
      | some r => match policyInForce s1 r with
        | .trip => confirmWalk n (expiryConfirmation s1) (writeSegment n { r with deadline := none } s1)
        | .hold => passDeadline n r s1

/-- The expiry of a TRIPPING interrupter's confirm timer (R134). The record is read first; a record lost to the read has
no expiry (R144). -/
def confirmExpires (x : Nat) (s : State) : State :=
  match interrupterAt s x with
  | none => s
  | some r0 => match r0.confirm with
    | none => s
    | some due =>
      let s1 := readInterrupter x (arriveAt due s)
      match interrupterAt s1 x with
      | none => s1
      | some r => if r.state = .tripping then failTripping x .noOpen s1 else s1

/-- The expiry of a channel's pulse timer (R142). -/
def pulseExpires (ch : Fin 4) (s : State) : State :=
  match (s.channels.get ch).pulse with
  | none => s
  | some due => modifyChannel ch (fun c => { c with pulse := none }) (arriveAt due s)

end Sys2Proof.Machine
end

