-- ==== Sys2Proof/Machine/Layout.lean ====
section
/-! DEFINITION. Reply bytes: the encodings of R172, the codes of R173, the reply layouts of 11.3 and the notice records. -/

namespace Sys2Proof.Machine

/-- An integer in 1, 2 or 3 bytes, most significant byte first (R172). -/
def int1 (n : Nat) : List Byte := [BitVec.ofNat 8 n]
def int2 (n : Nat) : List Byte := [BitVec.ofNat 8 (n / 256), BitVec.ofNat 8 n]

def flag (b : Bool) : List Byte := int1 b.toNat

def frameBytes (f : FrameNo) : List Byte := halfBytes f

/-- An optional field: a presence byte, then the value when present (R172). -/
def optBytes {α : Type} (enc : α → List Byte) : Option α → List Byte
  | none => [0]
  | some x => 1 :: enc x

/-- A list: a count byte, then the items (R172). -/
def listBytes {α : Type} (enc : α → List Byte) (xs : List α) : List Byte := int1 xs.length ++ xs.flatMap enc

/-- A phase set's byte (R172). -/
def phaseSetBytes (x : PhaseSet) : List Byte := int1 (x.a.toNat + 2 * x.b.toNat + 4 * x.c.toNat)

/-- Items sent for each phase of a set, in the order A, B, C. -/
def perPhaseBytes {α : Type} (phases : PhaseSet) (enc : α → List Byte) (x : PerPhase α) : List Byte :=
  (phasesIn phases).flatMap fun p => enc (perPhase x p)

/-! ### Codes (R173) -/

def resultByte : ResultCode → Nat
  | .ok => 0
  | .okWarning => 1
  | .unknownKind => 2
  | .badField => 3
  | .wrongMode => 4
  | .notReady => 5
  | .noSlot => 6
  | .inUse => 7
  | .notFound => 8
  | .topology => 9
  | .stateConflict => 10
  | .armedLock => 11
  | .staleSnapshot => 12

def segStateByte : SegState → Nat
  | .normal => 0
  | .suspect => 1
  | .deenergized => 2
  | .settling => 3
  | .isolating => 4
  | .isolated => 5
  | .withheld => 6
  | .isolationFailed => 7

/-- The code of segment state QUARANTINED, and of sensor status QUARANTINED. -/
def segQuarantinedByte : Nat := 8
def sensorQuarantinedByte : Nat := 2

def sensorStatusByte : SensorStatus → Nat
  | .active => 0
  | .stale => 1

def intStateByte : IntState → Nat
  | .opened => 0
  | .closed => 1
  | .failed => 2
  | .unknown => 3
  | .tripping => 4

def failReasonByte : FailReason → Nat
  | .noOpen => 1
  | .reported => 2
  | .tableError => 3

def timebaseByte : TimebaseState → Nat
  | .internal => 0
  | .unlocked => 1
  | .locked => 2
  | .freewheel => 3

def timebaseCauseByte : TimebaseCause → Nat
  | .lockAcquired => 0
  | .syncLost => 1
  | .hostSet => 2

def verdictClassByte : VerdictClass → Nat
  | .brokenConductor => 1
  | .downedConductor => 2
  | .brokenAndDown => 3

def marksByte (m : Marks) : Nat := m.deadline.toNat + 2 * m.coarse.toNat + 4 * m.backfed.toNat + 8 * m.loadLoss.toNat

def chainOutcomeByte : ChainOutcome → Nat
  | .tripped => 1
  | .joined => 2
  | .skippedDisarmed => 3
  | .skippedFailed => 4
  | .skippedOpen => 5
  | .escalatedFrom => 6
  | .opened => 7

def policyByte : Policy → Nat
  | .trip => 0
  | .hold => 1

def profileByte : Profile → Nat
  | .normal => 0
  | .elevated => 1

def polarityByte : Polarity → Nat
  | .high => 0
  | .low => 1

def driveByte : Drive → Nat
  | .pushPull => 0
  | .openDrain => 1

def testOutcomeByte : TestOutcome → Nat
  | .pass => 0
  | .hard => 1
  | .fatal => 2

def openSourceByte : OpenSource → Nat
  | .measurement => 0
  | .report => 1

def tripCauseByte : TripCause → Nat
  | .verdict => 0
  | .escalation => 1

def frameCondByte : FrameCond → Nat
  | .opened => 0
  | .closable => 1
  | .evaluating => 2

def itemTypeByte : ItemType → Nat
  | .sensor => 0
  | .segment => 1
  | .interrupter => 2
  | .channel => 3

def entryOutcomeByte : EntryOutcome → Nat
  | .stored => 0
  | .late => 1
  | .future => 2
  | .unknownSensor => 3
  | .phaseMismatch => 4
  | .duplicate => 5

def noticeClassByte : NoticeClass → Nat
  | .trip => 0
  | .state => 1
  | .maint => 2

def noticeKindByte : NoticeBody → Nat
  | .verdict .. => 1
  | .tripStarted .. => 2
  | .escalated .. => 3
  | .interrupterOpened .. => 4
  | .isolationFailed .. => 5
  | .suspectBegin .. => 16
  | .suspectCleared .. => 17
  | .deadlinePassed .. => 18
  | .protectiveOperation .. => 19
  | .deenergized .. => 20
  | .reenergized .. => 21
  | .sensorStale .. => 22
  | .sensorResumed .. => 23
  | .segmentDegraded .. => 24
  | .segmentBlind .. => 25
  | .quarantined .. => 26
  | .timebase .. => 27
  | .frameDropped .. => 28
  | .selfTestDone .. => 29
  | .baselineReady .. => 32
  | .eccCorrected .. => 33

/-- The SUSPECT_BEGIN tests code: 1 open, 2 contact, 3 both. -/
def suspectTestsByte (openPresent contactPresent : Bool) : Nat := openPresent.toNat + 2 * contactPresent.toNat

/-! ### Notices (11.3; log 26) -/

/-- An interrupter's kind, and for LOCAL its channel, with no presence byte between them (R127; log 26, log 23). -/
def intKindBytes : InterrupterKind → List Byte
  | .loc ch => int1 0 ++ int1 ch.val
  | .remote => int1 1

def onePhase (p : Phase) : PhaseSet := ofPhases fun q => q == p

/-- The own fields of a notice, in the order its raising rule lists them. A frame number that the rule lists as the notice's frame
(R35, R46, R127) goes out in the header alone, the bank map goes in one byte, and a QUARANTINED notice names its slot, segment or
interrupter by an item-type byte and a number (R22, R23, R120, R144; log 26). -/
def ownFields : NoticeBody → List Byte
  | .verdict n st k ph f c m o t arc =>
    int1 n ++ int1 (segStateByte st) ++ int1 (verdictClassByte k) ++ phaseSetBytes ph ++ frameBytes f ++ frameBytes c
      ++ int1 (marksByte m) ++ int2 o ++ int2 t ++ optBytes int2 arc
  | .tripStarted x k b t n c => int1 x ++ intKindBytes k ++ int1 b ++ int2 t ++ int1 n ++ int1 (tripCauseByte c)
  | .escalated x c n st on =>
    int1 x ++ int1 (failReasonByte c) ++ optBytes int1 n ++ optBytes (fun y => int1 (segStateByte y)) st ++ optBytes int1 on
  | .interrupterOpened x src k late => int1 x ++ int1 (openSourceByte src) ++ int1 k ++ flag late
  | .isolationFailed n k e => int1 n ++ int1 (verdictClassByte k) ++ int1 e
  | .suspectBegin n o c ph => int1 n ++ int1 (suspectTestsByte o c) ++ phaseSetBytes ph
  | .suspectCleared n t => int1 n ++ int2 t
  | .deadlinePassed n o c f => int1 n ++ int2 o ++ int2 c ++ frameBytes f
  | .protectiveOperation n p g => int1 n ++ phaseSetBytes (onePhase p) ++ frameBytes g
  | .deenergized n st => int1 n ++ int1 (segStateByte st)
  | .reenergized n k => int1 n ++ int2 k
  | .sensorStale d r t => int1 d ++ int1 r ++ int2 t
  | .sensorResumed d t ns => int1 d ++ int2 t ++ listBytes int1 ns
  | .segmentDegraded n d st bl dg | .segmentBlind n d st bl dg =>
    int1 n ++ int1 d ++ int1 (segStateByte st) ++ flag bl ++ flag dg
  | .quarantined i n => int1 (itemTypeByte i) ++ int1 n
  | .timebase o n c => int1 (timebaseByte o) ++ int1 (timebaseByte n) ++ int1 (timebaseCauseByte c)
  | .frameDropped k a => int1 k ++ flag a
  | .selfTestDone o m chs => int1 (testOutcomeByte o) ++ [m] ++ listBytes int1 chs
  | .baselineReady d b => int1 d ++ int2 b
  | .eccCorrected k b => int2 k ++ int1 b

/-- A notice in a FETCH_NOTICES reply (11.3). -/
def noticeBytes (n : Notice) : List Byte :=
  halfBytes n.seq ++ int1 (noticeKindByte n.body) ++ int1 (noticeClassByte (noticeClass n.body)) ++ frameBytes n.frame
    ++ int1 (ownFields n.body).length ++ ownFields n.body

/-! ### Counts -/

def countsBytes (c : Counts) : List Byte := allCounts.flatMap fun d => int2 (c.get d)

def condsByte (c : Conds) : Nat :=
  c.rxOverrunSeen.toNat + 2 * c.syncLostSeen.toNat + 4 * c.noticeOverflow.toNat + 8 * c.eccDoubleSeen.toNat

/-! ### Answers -/

def answer (result : ResultCode) (fields : List Byte) : Answer := { result, offset := 0, fields, follow := .nothing }

def okWith (fields : List Byte) : Answer := answer .ok fields

/-- A refusal that names no item. -/
def refuse (result : ResultCode) : Answer := answer result []

/-- BAD_FIELD at an offset (R170). -/
def badField (offset : Nat) : Answer := { result := .badField, offset, fields := [], follow := .nothing }

/-- A refusal that names an item (11.3). -/
def refuseNaming (result : ResultCode) (item : ItemType) (number : Nat) : Answer :=
  answer result (int1 (itemTypeByte item) ++ int1 number)

/-- The IN_USE refusal of DEFINE_SENSOR, whose offset points to a field (R2). -/
def refuseAt (result : ResultCode) (offset : Nat) : Answer := { result, offset, fields := [], follow := .nothing }

/-! ### Record queries (11.3; log 23, log 25) -/

def readingBytes : Option Reading → List Byte
  | some r => int2 r.v ++ int2 r.i
  | none => int2 0 ++ int2 0

def lastBytes (phases : PhaseSet) (l : LastValues) : List Byte :=
  perPhaseBytes phases readingBytes l.readings ++ int2 l.residual ++ frameBytes l.frame

/-- The QUERY_SENSOR fields of an ACTIVE or STALE sensor (R6). -/
def sensorBytes (s : State) (slot : Nat) (r : SensorRec) : List Byte :=
  int1 (sensorStatusByte r.status) ++ addressBytes r.address ++ phaseSetBytes r.phases ++ int1 r.latency ++ flag r.seen
    ++ int1 r.missingRun ++ int2 r.missingTotal ++ optBytes (lastBytes r.phases) r.last ++ int2 r.residualBase
    ++ perPhaseBytes r.phases int2 r.currentBase ++ int2 r.learn ++ perPhaseBytes r.phases (optBytes frameBytes) r.surge
    ++ flag (isSeeded s r) ++ listBytes int1 (segmentsNaming s slot)

/-- The quarantined form of QUERY_SENSOR: the status and the slot, each other field absent, the list (R6; log 25). -/
def sensorQuarantinedBytes (s : State) (slot : Nat) : List Byte :=
  int1 sensorQuarantinedByte ++ int1 slot ++ List.replicate 12 0 ++ listBytes int1 (segmentsNaming s slot)

def chainBytes (e : ChainEntry) : List Byte := int1 e.id ++ int1 (chainOutcomeByte e.outcome)

def verdictBytes (v : Verdict) : List Byte :=
  int1 (verdictClassByte v.verdictClass) ++ phaseSetBytes v.phases ++ frameBytes v.first ++ frameBytes v.confirm
    ++ int1 (marksByte v.marks) ++ listBytes chainBytes v.chain

def suspectBytes (d : SuspectDetails) : List Byte :=
  frameBytes d.first ++ phaseSetBytes d.openPhases ++ flag d.backfed ++ flag d.loadLoss ++ flag d.coarse

/-- The QUERY_SEGMENT fields of a segment not in QUARANTINED (R16). -/
def segmentBytes (s : State) (r : SegRec) : List Byte :=
  int1 (segStateByte r.state) ++ phaseSetBytes r.phases ++ int1 r.up ++ listBytes int1 r.down ++ int2 r.budget
    ++ int1 (policyByte r.policy) ++ int2 r.iSurge ++ int2 r.settle ++ int2 r.openCount ++ int2 r.contactCount
    ++ optBytes (fun due => int2 (remainingMs due s.now)) r.deadline ++ flag r.deadlinePassed ++ phaseSetBytes r.operated
    ++ listBytes int1 r.excluded ++ listBytes int2 r.leakRing ++ int2 r.transient ++ optBytes verdictBytes r.verdict
    ++ optBytes int1 (parentOf s r) ++ listBytes int1 (childrenOf s r) ++ flag (isLeaf r) ++ flag (isBlind r)
    ++ flag (isDegraded r) ++ int2 (estimate s (boundarySensors r)) ++ optBytes suspectBytes r.suspect

/-- A QUARANTINED segment: the state, every other field absent (R16). -/
def segmentQuarantinedBytes : List Byte := int1 segQuarantinedByte ++ List.replicate 23 0

/-- The QUERY_INTERRUPTER fields (R20). -/
def interrupterBytes (s : State) (r : IntRec) : List Byte :=
  int1 (intStateByte r.state) ++ intKindBytes r.kind ++ int1 r.boundary ++ int2 r.confirmTime
    ++ optBytes (fun x => int1 (failReasonByte x)) r.reason ++ flag r.armed ++ flag r.saved ++ flag r.outstanding
    ++ listBytes int1 r.waiters ++ optBytes (fun due => int2 (remainingMs due s.now)) r.confirm
    ++ optBytes frameBytes r.pulseFrame

/-- An interrupter with TABLE_ERROR: state, reason and waiters list, every other field absent (R20). -/
def interrupterLostBytes : List Byte :=
  int1 (intStateByte .failed) ++ [0, 0, 0] ++ optBytes (fun x => int1 (failReasonByte x)) (some FailReason.tableError)
    ++ [0, 0, 0] ++ listBytes int1 [] ++ [0, 0]

/-! ### GET_STATUS (R164; log 24) -/

/-- The timebase items (R35). -/
def timebaseStatus (s : State) : List Byte :=
  int1 (timebaseByte s.ft.state) ++ int2 s.ft.period ++ flag s.ft.syncEnable ++ frameBytes s.ft.frame
    ++ flag s.ft.override.isSome

/-- The ring items (R56). -/
def ringStatus (s : State) : List Byte :=
  int1 s.ring.length ++ optBytes frameBytes (s.ring.head?.map (·.number))
    ++ optBytes (fun c => int1 (frameCondByte c)) (s.ring.head?.map (·.cond)) ++ flag s.pass.isSome
    ++ (List.range 8).flatMap fun i => optBytes int1 ((s.ring[i]?).map fun f => (awaited f).length)

/-- One profile's parameters, V_OPEN effective beside V_OPEN (R59, R108). -/
def profileStatus (p : ProfileParams) : List Byte :=
  int2 p.vLive ++ int2 p.vOpen ++ int2 (vOpenEffective p) ++ int2 p.unbalGap ++ int2 p.nOpen ++ int2 p.leakPickup
    ++ int2 p.arcPickup ++ int2 p.nContact ++ int2 p.iDead ++ int2 p.loadMin

/-- The profile and parameter items (R108). -/
def paramStatus (s : State) : List Byte :=
  int1 (profileByte s.mc.profile) ++ profileStatus s.params.normal ++ profileStatus s.params.elevated
    ++ int2 s.params.minHold ++ int2 s.params.staleLimit ++ int2 s.params.baseShift ++ int2 s.params.settleFrames
    ++ int2 s.params.maintTail

/-- The number of sensors whose place meets a test. -/
def countSensors (s : State) (test : SensorPlace → Bool) : Nat :=
  allSlots.countP fun d => match rowAt s.sensors d with
    | some x => test x
    | none => false

def sensorHas (st : SensorStatus) : SensorPlace → Bool
  | .live r => r.status == st
  | .quarantined => false

def countSegments (s : State) (test : SegRec → Bool) : Nat := allSegments.countP (inTreeWith s test)

/-- The sensing-loss items (R120). -/
def sensingStatus (s : State) : List Byte :=
  int1 (countSensors s (sensorHas .active)) ++ int1 (countSensors s (sensorHas .stale))
    ++ int1 (countSensors s (· == .quarantined)) ++ int1 (countSegments s isBlind) ++ int1 (countSegments s isDegraded)

/-- The interrupter bound to a channel (R141). -/
def boundTo (s : State) (ch : Fin 4) : Option Nat :=
  allInterrupters.find? fun x => match interrupterAt s x with
    | some r => r.kind == .loc ch
    | none => false

/-- The number of interrupters in a state, FAILED with TABLE_ERROR counted as FAILED. -/
def countInterrupters (s : State) (st : IntState) : Nat :=
  allInterrupters.countP fun x => match rowAt s.interrupters x with
    | some (.live r) => r.state == st
    | some .tableError => st == .failed
    | none => false

def countOutstanding (s : State) : Nat :=
  allInterrupters.countP fun x => match interrupterAt s x with
    | some r => r.outstanding
    | none => false

def channelStatus (s : State) (ch : Fin 4) : List Byte :=
  let c := s.channels.get ch
  int2 c.width ++ int1 (polarityByte c.polarity) ++ int1 (driveByte c.drive) ++ flag c.failed
    ++ optBytes int1 (boundTo s ch) ++ flag c.pulse.isSome

/-- The channel, inhibit and interrupter items, the numbers of interrupters per state in the order of the state codes (R145;
log 24). -/
def isolationStatus (s : State) : List Byte :=
  channelStatus s 0 ++ channelStatus s 1 ++ channelStatus s 2 ++ channelStatus s 3
    ++ flag s.mc.inhibitFlag ++ flag s.inhibitPin ++ flag (effectiveInhibit s)
    ++ ([IntState.opened, .closed, .failed, .unknown, .tripping].flatMap fun st => int1 (countInterrupters s st))
    ++ int1 (countOutstanding s)

def countNotices (s : State) (c : NoticeClass) : Nat := s.nq.queue.countP fun n => noticeClass n.body == c

def countFetchable (s : State) : Nat := s.nq.queue.countP (fetchable (urgency s))

/-- The notice queue items (R151). -/
def noticeStatus (s : State) : List Byte :=
  int1 (countNotices s .trip) ++ int1 (countNotices s .state) ++ int1 (countNotices s .maint) ++ int1 (countFetchable s)
    ++ flag (urgency s) ++ flag (urgencySource s) ++ int2 s.nq.tail ++ int2 s.params.maintTail ++ halfBytes s.nq.seq

/-- The condition and snapshot items: each of the four conditions in the order of 8.5, then whether a snapshot is present, one
byte 0 or 1 each (R155, R172). -/
def countStatus (s : State) : List Byte :=
  flag s.cb.conds.rxOverrunSeen ++ flag s.cb.conds.syncLostSeen ++ flag s.cb.conds.noticeOverflow
    ++ flag s.cb.conds.eccDoubleSeen ++ flag s.cb.snapshot.isSome

/-- The self-test step running, in START (R164). -/
def runningStep (s : State) : Option Nat :=
  match s.mc.mode, s.mc.selfTest with
  | .start, .running step => some (stepNumber step)
  | _, _ => none

/-- One block's group of GET_STATUS, a field that may be absent: in START the presence byte 0, outside it the presence byte 1 and
the group's items (R164, R172). That the whole group has one presence byte is log 24. -/
def statusGroup (s : State) (items : State → List Byte) : List Byte :=
  optBytes items (if s.mc.mode = .start then none else some s)

/-- The groups of the blocks, in the order in which R164 lists them. -/
def blockStatus (s : State) : List Byte :=
  [timebaseStatus, ringStatus, paramStatus, sensingStatus, isolationStatus, noticeStatus, countStatus].flatMap (statusGroup s)

/-- The GET_STATUS fields; the bank map is one byte, bit k for record bank k (R164; log 24). -/
def statusBytes (s : State) : List Byte :=
  int1 (modeCode s.mc.mode) ++ int1 (statCode s) ++ optBytes int1 (runningStep s)
    ++ optBytes (fun o => int1 (testOutcomeByte o)) s.mc.outcome ++ optBytes (fun k => int1 (stepNumber k)) s.mc.failingStep
    ++ [s.tm.bankMap] ++ flag s.channels.c0.failed ++ flag s.channels.c1.failed ++ flag s.channels.c2.failed
    ++ flag s.channels.c3.failed ++ int2 s.tm.pendingCorrections ++ blockStatus s

/-- The IDENTIFY fields (R164). -/
def identifyBytes (s : State) : List Byte :=
  int2 4840 ++ [Config.deviceRevision] ++ int1 s.hl.station.toNat ++ int1 s.hl.baud.toNat ++ int1 (modeCode s.mc.mode)

end Sys2Proof.Machine
end

