-- ==== Sys2Proof/Machine/Model.lean ====
section
/-! DEFINITION. The requests of chapter 1 and of sections 5.8 and 6.4: edits and queries of sensors, segments and
interrupters. Each operation takes fields that have passed the BAD_FIELD check, and answers the state and the reply. -/

namespace Sys2Proof.Machine

/-! ### Sensors (R2 to R6) -/

/-- The record of an accepted DEFINE_SENSOR (R3). -/
def freshSensor (address : FieldAddress) (phases : PhaseSet) (latency : Nat) : SensorRec :=
  { address, phases, latency, status := .active, seen := false, missingRun := 0, missingTotal := 0, last := none,
    residualBase := 0, currentBase := ⟨0, 0, 0⟩, learn := 0, surge := ⟨none, none, none⟩, err := 0 }

/-- The read of the record that the index maps a field address to, if any. -/
def readAddress (address : FieldAddress) (s : State) : State :=
  match rowAt s.index address.toNat with
  | some slot => readSensor slot s
  | none => s

/-- The new record and its index entry (R3, R4). -/
def placeSensor (slot : Nat) (r : SensorRec) (s : State) : State :=
  { writeSensor slot r s with index := setRow s.index r.address.toNat slot }

/-- DEFINE_SENSOR from check 5 on (R2, R3). -/
def takeDefineSensor (slot : Nat) (address : FieldAddress) (phases : PhaseSet) (latency : Nat) (s : State) :
    State × Answer :=
  if !bankPresent s (sensorBank slot) then (s, refuse .noSlot)
  else
    let s1 := readSensor slot s
    if (rowAt s1.sensors slot).isSome then (s1, refuseAt .inUse 0)
    else
      let s2 := readAddress address s1
      if (rowAt s2.index address.toNat).isSome then (s2, refuseAt .inUse 1)
      else (placeSensor slot (freshSensor address phases latency) s2, okWith [])

/-- The slot becomes free, its address leaves the index, and the sensor leaves the ring (R5, R53). -/
def freeSlot (slot : Nat) (s : State) : State :=
  leaveRing slot (leaveIndex slot { s with sensors := dropRow s.sensors slot })

/-- RETIRE_SENSOR (R5). It reads the sensor's record, then the Segment Table, then the Interrupter Table (log 11). -/
def takeRetireSensor (slot : Nat) (s : State) : State × Answer :=
  if (rowAt s.sensors slot).isNone then (s, refuse .notFound)
  else
    let s1 := readInterrupters (readSegments (readSensor slot s))
    match segmentsNaming s1 slot with
    | n :: _ => (s1, refuseNaming .inUse .segment n)
    | [] => match interrupterOn s1 slot with
      | some x => (s1, refuseNaming .inUse .interrupter x)
      | none => (freeSlot slot s1, okWith [])

/-- QUERY_SENSOR (R6). -/
def takeQuerySensor (slot : Nat) (s : State) : State × Answer :=
  let s1 := readSegments (readSensor slot s)
  match rowAt s1.sensors slot with
  | none => (s, refuse .notFound)
  | some (.live r) => (s1, okWith (sensorBytes s1 slot r))
  | some .quarantined => (s1, okWith (sensorQuarantinedBytes s1 slot))

/-! ### Segments (R9 to R16, R103, R118) -/

/-- The states in which a segment may be redefined or removed (R10, R14); QUARANTINED is another. -/
def mayEdit : SegState → Bool
  | .normal | .deenergized | .settling => true
  | .suspect | .isolating | .isolated | .withheld | .isolationFailed => false

/-- A slot's record is QUARANTINED. -/
def isQuarantined (s : State) (slot : Nat) : Bool := rowAt s.sensors slot == some .quarantined

/-- A slot's record is STALE. -/
def isStale (s : State) (slot : Nat) : Bool :=
  match sensorAt s slot with
  | some r => r.status == .stale
  | none => false

/-- A set of slots, ascending. -/
def asSet (slots : List Nat) : List Nat := slots.foldr insertAsc []

/-- Sensor u is reached going down from sensor d, over at most `fuel` segments (R11). By R11 the table holds no cycle, so
40 are enough. -/
def reaches (s : State) (u : Nat) : Nat → Nat → Bool
  | 0, _ => false
  | fuel + 1, d =>
    match (segmentBelow s d).bind (segmentAt s) with
    | none => false
    | some r => r.down.any fun e => e == u || reaches s u fuel e

/-- A failing tree check: subcode, sensor, segment (R11, R173). -/
structure TopologyFault where
  subcode : Nat
  sensor : Option Nat
  segment : Option Nat
  deriving DecidableEq, Repr

/-- SELF_LIST (R11 order 1). -/
def selfList (up : Nat) (down : List Nat) : Option TopologyFault :=
  if down.contains up then some ⟨4, some up, none⟩ else none

/-- SENSOR_SHARED (R11 order 2). -/
def sensorShared (s : State) (up : Nat) (down : List Nat) : Option TopologyFault :=
  match segmentBelow s up with
  | some g => some ⟨2, some up, some g⟩
  | none => firstSome (fun d => (segmentAbove s d).map fun g => ⟨2, some d, some g⟩) down

/-- CYCLE (R11 order 3). -/
def cycle (s : State) (up : Nat) (down : List Nat) : Option TopologyFault :=
  firstSome (fun d => if reaches s up 40 d then some ⟨1, some d, segmentAbove s up⟩ else none) down

/-- The phases of a segment. -/
def segmentPhases (s : State) (n : Nat) : PhaseSet :=
  match segmentAt s n with
  | some r => r.phases
  | none => noPhases

/-- PHASE (R11 order 4; log 27, log 34). -/
def phaseFault (s : State) (phases : PhaseSet) (up : Nat) (down : List Nat) : Option TopologyFault :=
  let sensorFault := firstSome (fun d =>
    if phaseSubset phases (sensorPhases s d) then none else some ⟨3, some d, none⟩) (up :: down)
  let parentFault := (segmentAbove s up).bind fun g =>
    if phaseSubset phases (segmentPhases s g) then none else some ⟨3, none, some g⟩
  let childFault := firstSome (fun d => (segmentBelow s d).bind fun g =>
    if phaseSubset (segmentPhases s g) phases then none else some ⟨3, none, some g⟩) down
  (sensorFault.or parentFault).or childFault

/-- The first failing tree check of R11, the old record of the segment set aside (R10). -/
def topologyFault (s : State) (n : Nat) (phases : PhaseSet) (up : Nat) (down : List Nat) : Option TopologyFault :=
  let t := { s with segments := dropRow s.segments n }
  (((selfList up down).or (sensorShared t up down)).or (cycle t up down)).or (phaseFault t phases up down)

/-- The seven fields of DEFINE_SEGMENT but its number (R9). -/
structure SegmentFields where
  phases : PhaseSet
  up : Nat
  down : List Nat
  budget : Nat
  policy : Policy
  iSurge : Nat
  deriving DecidableEq, Repr

/-- The record of an accepted DEFINE_SEGMENT (R13). -/
def freshSegment (s : State) (d : SegmentFields) : SegRec :=
  { phases := d.phases, up := d.up, down := d.down, budget := d.budget, policy := d.policy, iSurge := d.iSurge,
    state := .normal, settle := 0, openCount := 0, contactCount := 0, deadline := none, deadlinePassed := false,
    operated := noPhases, excluded := asSet ((d.up :: d.down).filter (isStale s)), leakRing := [], transient := 0,
    verdict := none, suspect := none, err := 0 }

/-- The reply to an accepted DEFINE_SEGMENT: OK, or OK_WARNING with cause BUDGET_SHORT (R12, R13). -/
def definedAnswer (budget est : Nat) (r : SegRec) : Answer :=
  let fields := int2 est ++ flag (isBlind r) ++ flag (isDegraded r)
  if budget < est then answer .okWarning (int1 1 ++ fields) else okWith fields

/-- A segment number whose state refuses an edit (R10, R14). -/
def refusesEdit (s : State) (n : Nat) : Bool :=
  match segmentAt s n with
  | some r => !mayEdit r.state
  | none => false

/-- DEFINE_SEGMENT from check 5 on, the records read (R9 to R13). -/
def defineSegmentChecked (n : Nat) (d : SegmentFields) (s : State) : State × Answer :=
  if refusesEdit s n then (s, refuse .stateConflict)
  else match topologyFault s n d.phases d.up d.down with
    | some f => (s, answer .topology (int1 f.subcode ++ optBytes int1 f.sensor ++ optBytes int1 f.segment))
    | none =>
      let r := freshSegment s d
      (writeSegment n r s, definedAnswer d.budget (estimate s (d.up :: d.down)) r)

/-- DEFINE_SEGMENT from check 2 on (R9). The named sensors are all read, the upstream one and then the downstream list in the order
of the request, before check 4 looks for a QUARANTINED one (log 11). -/
def takeDefineSegment (n : Nat) (d : SegmentFields) (s : State) : State × Answer :=
  if !bankPresent s (segmentBank n) then (s, refuse .noSlot)
  else match (d.up :: d.down).find? fun x => (rowAt s.sensors x).isNone with
    | some x => (s, refuseNaming .notFound .sensor x)
    | none =>
      let s1 := readSensors (d.up :: d.down) s
      match (d.up :: d.down).find? (isQuarantined s1) with
      | some x => (s1, refuseNaming .stateConflict .sensor x)
      | none => defineSegmentChecked n d (readSegments s1)

/-- REMOVE_SEGMENT (R14). -/
def takeRemoveSegment (n : Nat) (s : State) : State × Answer :=
  if (rowAt s.segments n).isNone then (s, refuse .notFound)
  else
    let s1 := readSegment n s
    if refusesEdit s1 n then (s1, refuse .stateConflict)
    else ({ s1 with segments := dropRow s1.segments n }, okWith [])

/-- The reads of a segment's boundary sensors, for its estimate (R12): the upstream one, then the downstream list in its order
(log 11). -/
def readForEstimate (n : Nat) (s : State) : State :=
  match segmentAt s n with
  | some r => readSensors (boundarySensors r) s
  | none => s

/-- QUERY_SEGMENT (R16). The estimate reads the boundary sensors' records. -/
def takeQuerySegment (n : Nat) (s : State) : State × Answer :=
  let s2 := readForEstimate n (readSegments s)
  match rowAt s2.segments n with
  | none => (s, refuse .notFound)
  | some (.live r) => (s2, okWith (segmentBytes s2 r))
  | some .quarantined => (s2, okWith segmentQuarantinedBytes)

/-- The record of a released segment (R103). -/
def released (r : SegRec) : SegRec :=
  { r with state := .normal, verdict := none, openCount := 0, contactCount := 0, settle := 0, deadline := none,
           deadlinePassed := false, leakRing := [], operated := noPhases }

/-- The states a segment is released from (R103). -/
def mayRelease : SegState → Bool
  | .isolated | .withheld | .isolationFailed => true
  | .normal | .suspect | .deenergized | .settling | .isolating => false

/-- A sensor's record is read and unseeded, unless QUARANTINED (R66). -/
def unseedSensor (slot : Nat) (s : State) : State := modifySensor slot unseed (readSensor slot s)

/-- RELEASE_SEGMENT (R103). The boundary sensors are read and unseeded one by one, the upstream one and then the downstream list in
its order (log 11). -/
def takeReleaseSegment (n : Nat) (s : State) : State × Answer :=
  if (rowAt s.segments n).isNone then (s, refuse .notFound)
  else
    let s1 := readSegment n s
    match segmentAt s1 n with
    | none => (s1, refuse .stateConflict)
    | some r =>
      if mayRelease r.state then
        (forEach (boundarySensors r) unseedSensor (writeSegment n (released r) s1), okWith [])
      else (s1, refuse .stateConflict)

/-- The reply to an accepted RESTORE_SEGMENT (R118). -/
def restoredAnswer (s : State) (n : Nat) : Answer :=
  match segmentAt s n with
  | some r => okWith (int1 (segStateByte r.state) ++ flag (isBlind r) ++ flag (isDegraded r))
  | none => okWith []

/-- RESTORE_SEGMENT (R118). The excluded members are all read, in boundary order, before check 4 (log 11). -/
def takeRestoreSegment (n : Nat) (s : State) : State × Answer :=
  if (rowAt s.segments n).isNone then (s, refuse .notFound)
  else
    let s1 := readSegment n s
    match segmentAt s1 n with
    | none => (s1, refuse .stateConflict)
    | some r =>
      let members := (boundarySensors r).filter r.excluded.contains
      let s2 := readSensors members s1
      match members.find? fun x => isStale s2 x || isQuarantined s2 x with
      | some x => (s2, refuseNaming .stateConflict .sensor x)
      | none =>
        let s3 := modifySegment n (fun q => { q with excluded := [] }) s2
        (s3, restoredAnswer s3 n)

/-! ### Interrupters (R17 to R20, R130 to R133, R138, R139) -/

/-- The record of an accepted DEFINE_INTERRUPTER (R18). -/
def freshInterrupter (kind : InterrupterKind) (slot confirmTime : Nat) : IntRec :=
  { kind, boundary := slot, confirmTime, state := .unknown, reason := none, armed := false, saved := false,
    outstanding := false, waiters := [], confirm := none, pulseFrame := none, err := 0 }

/-- Checks 6 and 7 of R17: a LOCAL channel is neither failed nor bound. -/
def channelRefusal (s : State) : InterrupterKind → Option Answer
  | .remote => none
  | .loc ch =>
    if (s.channels.get ch).failed then some (refuse .noSlot)
    else (boundTo s ch).map (refuseNaming .inUse .interrupter)

/-- DEFINE_INTERRUPTER from check 2 on (R17, R18). -/
def takeDefineInterrupter (x : Nat) (kind : InterrupterKind) (slot confirmTime : Nat) (s : State) : State × Answer :=
  if (rowAt s.interrupters x).isSome then (s, refuse .inUse)
  else if (rowAt s.sensors slot).isNone then (s, refuse .notFound)
  else
    let s1 := readSensor slot s
    if isQuarantined s1 slot then (s1, refuse .stateConflict)
    else
      let s2 := readInterrupters s1
      match interrupterOn s2 slot with
      | some y => (s2, refuseNaming .inUse .interrupter y)
      | none => match channelRefusal s2 kind with
        | some a => (s2, a)
        | none => (writeInterrupter x (freshInterrupter kind slot confirmTime) s2, okWith [])

/-- REMOVE_INTERRUPTER (R19). -/
def takeRemoveInterrupter (x : Nat) (s : State) : State × Answer :=
  if (rowAt s.interrupters x).isNone then (s, refuse .notFound)
  else
    let s1 := readInterrupter x s
    if isTripping s1 x then (s1, refuse .stateConflict)
    else ({ s1 with interrupters := dropRow s1.interrupters x }, okWith [])

/-- QUERY_INTERRUPTER (R20). -/
def takeQueryInterrupter (x : Nat) (s : State) : State × Answer :=
  let s1 := readInterrupter x s
  match rowAt s1.interrupters x with
  | none => (s, refuse .notFound)
  | some (.live r) => (s1, okWith (interrupterBytes s1 r))
  | some .tableError => (s1, okWith interrupterLostBytes)

/-- The arming items of a reply: armed, saved armed, trip outstanding (R138, R139). -/
def armingBytes (r : IntRec) : List Byte := flag r.armed ++ flag r.saved ++ flag r.outstanding

/-- The record after SET_ARM (R138). -/
def setArm (value : Bool) (r : IntRec) : IntRec :=
  if r.outstanding then { r with saved := value } else { r with armed := value }

/-- A request on a record that TABLE_ERROR refuses: the id is looked up, its record read, and the operation applied. -/
def onInterrupter (x : Nat) (act : IntRec → State → State × Answer) (s : State) : State × Answer :=
  if (rowAt s.interrupters x).isNone then (s, refuse .notFound)
  else
    let s1 := readInterrupter x s
    match interrupterAt s1 x with
    | none => (s1, refuse .stateConflict)
    | some r => act r s1

/-- SET_ARM (R138). -/
def takeSetArm (x : Nat) (value : Bool) : State → State × Answer :=
  onInterrupter x fun r s => (writeInterrupter x (setArm value r) s, okWith (armingBytes (setArm value r)))

/-- The record after ACK_TRIP (R139). -/
def ackTrip (r : IntRec) : IntRec := { r with armed := r.saved, outstanding := false }

/-- ACK_TRIP (R139). -/
def takeAckTrip (x : Nat) : State → State × Answer :=
  onInterrupter x fun r s =>
    if !r.outstanding || r.state == .tripping then (s, refuse .stateConflict)
    else (writeInterrupter x (ackTrip r) s, okWith (armingBytes (ackTrip r)))

/-- The code of an interrupter's state after a request (R130). -/
def stateAfter (s : State) (x : Nat) : List Byte :=
  match interrupterAt s x with
  | some r => int1 (intStateByte r.state)
  | none => int1 (intStateByte .failed)

/-- The record with a position reported (R131, R132). -/
def atPosition (st : IntState) (r : IntRec) : IntRec := { r with state := st, reason := none }

/-- INTERRUPTER_STATE OPEN (R131). -/
def reportOpen (x : Nat) (r : IntRec) (s : State) : State :=
  match r.state with
  | .tripping => openInterrupter x .report s.ft.frame s
  | .failed => raiseNow (.interrupterOpened x .report 0 r.outstanding) (writeInterrupter x (atPosition .opened r) s)
  | .unknown | .closed => raiseNow (.interrupterOpened x .report 0 false) (writeInterrupter x (atPosition .opened r) s)
  | .opened => s

/-- INTERRUPTER_STATE CLOSED on an interrupter that is not TRIPPING (R132). -/
def reportClosed (x : Nat) (r : IntRec) (s : State) : State :=
  match r.state with
  | .unknown | .opened | .failed => writeInterrupter x (atPosition .closed r) s
  | .closed | .tripping => s

/-- INTERRUPTER_STATE FAILED (R133). -/
def reportFailed (x : Nat) (r : IntRec) (s : State) : State :=
  match r.state with
  | .tripping => failTripping x .reported s
  | .unknown | .closed | .opened | .failed =>
    writeInterrupter x { r with state := .failed, reason := some .reported } s

/-- INTERRUPTER_STATE (R130 to R133); the position is 0 OPEN, 1 CLOSED or 2 FAILED. -/
def takeInterrupterState (x position : Nat) : State → State × Answer :=
  onInterrupter x fun r s =>
    if position = 0 then
      let t := reportOpen x r s
      (t, okWith (stateAfter t x))
    else if position = 1 then
      if r.state = .tripping then (s, answer .okWarning (int1 2 ++ stateAfter s x))
      else
        let t := reportClosed x r s
        (t, okWith (stateAfter t x))
    else
      let t := reportFailed x r s
      (t, okWith (stateAfter t x))

end Sys2Proof.Machine
end

