-- ==== Sys2Proof/Machine/Part.lean ====
section
/-! DEFINITION. The requests on the part as a whole: modes, RESTART, timebase, profile, parameters, inhibit, trip outputs,
reports, notices, counts, INJECT, identification and status. Each operation takes fields that have passed the BAD_FIELD
check, and answers the state and the reply. -/

namespace Sys2Proof.Machine

/-! ### Identification and status (R164) -/

/-- IDENTIFY (R164). -/
def takeIdentify (s : State) : State × Answer := (s, okWith (identifyBytes s))

/-- GET_STATUS (R164). -/
def takeGetStatus (s : State) : State × Answer := (s, okWith (statusBytes s))

/-- A request of a kind assigned to none (R168). -/
def takeUnknownKind (s : State) : State × Answer := (s, refuse .unknownKind)

/-! ### Modes (R104, R158) -/

def setPartMode (m : PartMode) (s : State) : State := { s with mc := { s.mc with mode := m } }

/-- Every record of the Sensor Directory is read and rewritten, in ascending slot (R162). -/
def rewriteSensors (f : SensorRec → SensorRec) (s : State) : State :=
  forEach allSlots (fun d t => modifySensor d f (readSensor d t)) s

/-- Every record of the Segment Table is read and rewritten, in ascending segment number. -/
def rewriteSegments (f : State → SegRec → SegRec) (s : State) : State :=
  forEach allSegments (fun n t => let u := readSegment n t; modifySegment n (f u) u) s

/-- Every record of the Interrupter Table is read and rewritten, in ascending id. -/
def rewriteInterrupters (f : IntRec → IntRec) (s : State) : State :=
  forEach allInterrupters (fun x t => modifyInterrupter x f (readInterrupter x t)) s

/-- Entry to RUN (R158, R54, R66). -/
def enterRun (s : State) : State :=
  let t := if s.mc.runEntered then s else rewriteSensors unseed s
  { t with ring := [], mc := { t.mc with mode := .run, runEntered := true } }

/-- What HOLD entry does to a segment (R104). -/
def holdEntry (r : SegRec) : SegRec :=
  match r.state with
  | .suspect =>
    { r with state := .normal, suspect := none, openCount := 0, contactCount := 0, deadline := none,
             deadlinePassed := false, leakRing := [] }
  | .deenergized | .settling => { r with state := .normal, settle := 0, leakRing := [] }
  | .normal => { r with leakRing := [] }
  | .isolating | .isolated | .withheld | .isolationFailed => r

/-- Entry to HOLD by SET_MODE (R158, R54, R104). -/
def enterHold (s : State) : State :=
  rewriteSegments (fun _ => holdEntry) (setPartMode .hold { s with ring := [] })

/-- A segment is defined outside QUARANTINED (R158). -/
def anySegment (s : State) : Bool := allSegments.any fun n => (segmentAt s n).isSome

/-- SET_MODE; the target is RUN or HOLD (R158). Its NOT_READY and TRIPPING checks read no record from Table Memory (log 11). -/
def takeSetMode (toRun : Bool) (s : State) : State × Answer :=
  if toRun then
    if s.mc.mode = .run then (s, okWith [])
    else if anySegment s then (enterRun s, okWith [])
    else (s, refuse .notReady)
  else if s.mc.mode = .hold then (s, okWith [])
  else match allInterrupters.find? (isTripping s) with
    | some x => (s, refuseNaming .stateConflict .interrupter x)
    | none => (enterHold s, okWith [])

/-! ### RESTART and SELF_TEST (R25, R26, R159, R160) -/

/-- A sensor record at RESTART (R25). -/
def restartSensor (r : SensorRec) : SensorRec :=
  { unseed r with status := .active, seen := false, missingRun := 0, last := none, surge := ⟨none, none, none⟩ }

/-- A segment record at RESTART (R26, R119). -/
def restartSegment (s : State) (r : SegRec) : SegRec :=
  { r with state := .normal, verdict := none, settle := 0, openCount := 0, contactCount := 0, deadline := none,
           deadlinePassed := false, operated := noPhases, leakRing := [], suspect := none,
           excluded := ((boundarySensors r).filter fun d => rowAt s.sensors d == some .quarantined).foldr insertAsc [] }

/-- An interrupter record at RESTART (R26). -/
def restartInterrupter (r : IntRec) : IntRec :=
  { r with state := if r.state = .tripping then .unknown else r.state
           waiters := []
           confirm := none
           armed := if r.outstanding then r.saved else r.armed
           outstanding := false }

/-- The RESTART effects on everything but the records: waiting request, notices, counts, ring, mode (R54, R151, R155, R159). -/
def restartBlocks (s : State) : State :=
  setPartMode .hold { s with
    hl := { s.hl with requests := [] }
    ring := []
    pass := none
    nq := { s.nq with queue := [], tail := 0 }
    cb := { s.cb with snapshot := none, raised := .clear } }

/-- The RESTART effects, taken once the reply has been handed over (R159). The other blocks come first, the mode with them; then the
records are read and rewritten, sensors, segments, interrupters; so an interrupter lost to that read finds no waiter (R144; log 41).
Then the pending correction count is cleared (R162) and no tail runs (R148). -/
def restartEffects (s : State) : State :=
  let t := rewriteInterrupters restartInterrupter (rewriteSegments restartSegment (rewriteSensors restartSensor
    (restartBlocks s)))
  { t with tm := { t.tm with pendingCorrections := 0, firstBank := none }, nq := { t.nq with tail := 0 } }

/-- RESTART: its OK reply is formed with the state as it stands (R159). -/
def takeRestart (s : State) : State × Answer := (s, { okWith [] with follow := .restart })

/-- SELF_TEST: its OK reply is sent, and a hard reset follows it (R160). -/
def takeSelfTest (s : State) : State × Answer := (s, { okWith [] with follow := .hardReset })

/-! ### Timebase (R33) -/

/-- The timebase restarts with a changed period or enable value (R33); an internal frame start overdue by then is dropped (log 40). -/
def restartTimebase (period : Nat) (enable : Bool) (s : State) : State :=
  let new := if enable then TimebaseState.unlocked else .internal
  let t := { s with ft := { s.ft with
    period, syncEnable := enable, prevEdge := none, run := 0, lastInternal := none
    expected := some (s.now + period * microsPerMs) } }
  if s.ft.state = new then t else enterTimebase new .hostSet t

/-- A next frame number: the override, and every last surge frame absent, every sensor record being read for it (R33; log 11). -/
def renumber (next : FrameNo) (s : State) : State :=
  rewriteSensors (fun r => { r with surge := ⟨none, none, none⟩ }) { s with ft := { s.ft with override := some next } }

/-- SET_TIMEBASE (R33). -/
def takeSetTimebase (period : Nat) (enable : Bool) (next : Option FrameNo) (s : State) : State × Answer :=
  let t := if period = s.ft.period ∧ enable = s.ft.syncEnable then s else restartTimebase period enable s
  match next with
  | some n => (renumber n t, okWith [])
  | none => (t, okWith [])

/-! ### Profile and parameters (R62, R105, R106) -/

/-- SET_PROFILE (R105). -/
def takeSetProfile (p : Profile) (s : State) : State × Answer :=
  ({ s with mc := { s.mc with profile := p } }, okWith [])

/-- One profile parameter written. -/
def setProfileParam (p : ProfileParam) (v : Nat) (x : ProfileParams) : ProfileParams :=
  match p with
  | .vLive => { x with vLive := v }
  | .vOpen => { x with vOpen := v }
  | .unbalGap => { x with unbalGap := v }
  | .nOpen => { x with nOpen := v }
  | .leakPickup => { x with leakPickup := v }
  | .arcPickup => { x with arcPickup := v }
  | .nContact => { x with nContact := v }
  | .iDead => { x with iDead := v }
  | .loadMin => { x with loadMin := v }

/-- One parameter written; MAINT_TAIL from 16 to 255 is written as 15 (R106). -/
def setParam (p : Param) (v : Nat) (x : Params) : Params :=
  match p with
  | .profile .normal q => { x with normal := setProfileParam q v x.normal }
  | .profile .elevated q => { x with elevated := setProfileParam q v x.elevated }
  | .minHold => { x with minHold := v }
  | .staleLimit => { x with staleLimit := v }
  | .baseShift => { x with baseShift := v }
  | .settleFrames => { x with settleFrames := v }
  | .maintTail => { x with maintTail := min v 15 }

/-- The parameters after every pair is written (R106). -/
def withPairs (pairs : List ParamPair) (x : Params) : Params :=
  pairs.foldl (fun y q => match paramOf q.id with
    | some p => setParam p q.value.toNat y
    | none => y) x

/-- The learn count after BASE_SHIFT changes (R62). -/
def adjustedLearn (old new learn : Nat) : Nat :=
  if learn = 2 ^ old then 2 ^ new else if 2 ^ new ≤ learn then 2 ^ new else learn

/-- A sensor's learn count is adjusted; a sensor that becomes seeded raises BASELINE_READY (R62). -/
def adjustSensor (old new slot : Nat) (s : State) : State :=
  let t := readSensor slot s
  match sensorAt t slot with
  | none => t
  | some r =>
    let u := writeSensor slot { r with learn := adjustedLearn old new r.learn } t
    if r.learn ≠ 2 ^ old ∧ 2 ^ new ≤ r.learn then raiseNow (.baselineReady slot r.residualBase) u else u

/-- SET_PARAMS (R106). -/
def takeSetParams (pairs : List ParamPair) (s : State) : State × Answer :=
  let new := withPairs pairs s.params
  let t := { s with params := new }
  if new.baseShift = s.params.baseShift then (t, okWith [])
  else (forEach allSlots (adjustSensor s.params.baseShift new.baseShift) t, okWith [])

/-! ### Inhibit and trip outputs (R140, R143) -/

/-- SET_INHIBIT (R140). -/
def takeSetInhibit (value : Bool) (s : State) : State × Answer :=
  let t := { s with mc := { s.mc with inhibitFlag := value } }
  (t, okWith (flag value ++ flag t.inhibitPin ++ flag (effectiveInhibit t)))

/-- One entry of CONFIG_TRIP_OUTPUTS, decoded (R143). -/
structure ChannelSetting where
  channel : Fin 4
  width : Nat
  polarity : Polarity
  drive : Drive
  deriving DecidableEq, Repr

/-- An entry's channel takes its width, polarity and drive (R143). -/
def configure (e : ChannelSetting) (s : State) : State :=
  modifyChannel e.channel (fun c => { c with width := e.width, polarity := e.polarity, drive := e.drive }) s

/-- Interrupter x is LOCAL and armed (R143 check 3). -/
def isArmedLocal (s : State) (x : Nat) : Bool :=
  match interrupterAt s x with
  | some r => r.armed && r.kind != .remote
  | none => false

/-- The four channel numbers. -/
def allChannels : List (Fin 4) := [0, 1, 2, 3]

/-- CONFIG_TRIP_OUTPUTS (R143). -/
def takeConfigTripOutputs (entries : List ChannelSetting) (s : State) : State × Answer :=
  match entries.find? fun e => (s.channels.get e.channel).failed with
  | some e => (s, refuseNaming .noSlot .channel e.channel.val)
  | none =>
    let s1 := readInterrupters s
    match allInterrupters.find? (isArmedLocal s1) with
    | some x => (s1, refuseNaming .armedLock .interrupter x)
    | none => match allChannels.find? fun ch => (s1.channels.get ch).pulse.isSome with
      | some ch => (s1, refuseNaming .armedLock .channel ch.val)
      | none => (entries.foldl (fun t e => configure e t) s1, okWith [])

/-! ### REPORT (R37) -/

/-- REPORT (R37). -/
def takeReport (entries : List ReportEntry) (s : State) : State × Answer :=
  let out := judgeEntries entries s
  (out.1, okWith (frameBytes s.ft.frame ++ listBytes (fun o => int1 (entryOutcomeByte o)) out.2))

/-! ### Notices and counts (R149, R153, R154) -/

/-- Up to n fetchable notices leave the queue, oldest first: those taken and those kept (R149). -/
def splitFetch (held : Bool) : Nat → List Notice → List Notice × List Notice
  | 0, queue => ([], queue)
  | _ + 1, [] => ([], [])
  | n + 1, x :: rest =>
    if fetchable held x then
      let out := splitFetch held n rest
      (x :: out.1, out.2)
    else
      let out := splitFetch held (n + 1) rest
      (out.1, x :: out.2)

/-- FETCH_NOTICES (R149). -/
def takeFetchNotices (n : Nat) (s : State) : State × Answer :=
  let held := urgency s
  let out := splitFetch held n s.nq.queue
  ({ s with nq := { s.nq with queue := out.2 } },
    okWith (int1 (out.2.countP (fetchable held)) ++ int1 (if held then out.2.countP isMaint else 0) ++ halfBytes s.nq.seq
      ++ listBytes noticeBytes out.1))

/-- GET_COUNTS (R153). -/
def takeGetCounts (s : State) : State × Answer :=
  let token := s.cb.token + 1
  ({ s with cb := { s.cb with
      token, snapshot := some { token, counts := s.cb.counts, conds := s.cb.conds }, raised := .clear } },
    okWith ([token] ++ countsBytes s.cb.counts ++ int1 (condsByte s.cb.conds)))

/-- The Count Bank after the clear of a matching snapshot (R154). -/
def clearedBank (b : CountBank) (p : Snapshot) : CountBank :=
  { b with
    counts := countsOf fun d => b.counts.get d - p.counts.get d
    conds := condsOf fun d => b.conds.get d && !(p.conds.get d && !b.raised.get d)
    snapshot := none }

/-- CLEAR_COUNTS (R154). -/
def takeClearCounts (token : BitVec 8) (s : State) : State × Answer :=
  match s.cb.snapshot with
  | none => (s, refuse .staleSnapshot)
  | some p =>
    if token = p.token then
      let cb := clearedBank s.cb p
      ({ s with cb }, okWith (countsBytes cb.counts ++ int1 (condsByte cb.conds)))
    else (s, refuse .staleSnapshot)

/-! ### INJECT (R163) -/

/-- The bits an injection inverts (R163). -/
def injectMask (double : Bool) (position : Nat) : BitVec 32 :=
  let bit (k : Nat) : BitVec 32 := 1#32 <<< k
  if double then (if position < 31 then bit position ||| bit (position + 1) else bit 31 ||| bit 30) else bit position

def injectSensor (slot : Nat) (mask : BitVec 32) (s : State) : State × Answer :=
  match rowAt s.sensors slot with
  | none => (s, refuse .notFound)
  | some .quarantined => (s, refuse .stateConflict)
  | some (.live r) => ({ s with sensors := setRow s.sensors slot (.live { r with err := r.err ^^^ mask }) }, okWith [])

def injectSegment (n : Nat) (mask : BitVec 32) (s : State) : State × Answer :=
  match rowAt s.segments n with
  | none => (s, refuse .notFound)
  | some .quarantined => (s, refuse .stateConflict)
  | some (.live r) => ({ s with segments := setRow s.segments n (.live { r with err := r.err ^^^ mask }) }, okWith [])

def injectInterrupter (x : Nat) (mask : BitVec 32) (s : State) : State × Answer :=
  match rowAt s.interrupters x with
  | none => (s, refuse .notFound)
  | some .tableError => (s, refuse .stateConflict)
  | some (.live r) =>
    ({ s with interrupters := setRow s.interrupters x (.live { r with err := r.err ^^^ mask }) }, okWith [])

/-- INJECT: targets 0 SENSOR, 1 SEGMENT, 2 INTERRUPTER, 3 REPLY (R163). No record is read. -/
def takeInject (target number : Nat) (double : Bool) (position : Nat) (s : State) : State × Answer :=
  match target with
  | 0 => injectSensor number (injectMask double position) s
  | 1 => injectSegment number (injectMask double position) s
  | 2 => injectInterrupter number (injectMask double position) s
  | _ => ({ s with hl := { s.hl with badCheckNext := true } }, okWith [])

end Sys2Proof.Machine
end

