-- ==== Sys2Proof/Machine/HostLink.lean ====
section
/-! DEFINITION. Host Link: the mode and field checks of a taken request, the dispatch to the owning block, the reply, the
two buffers, the receiver and the transmitter (chapter 10). -/

namespace Sys2Proof.Machine

/-! ### Acting on a request -/

def profileOfByte (b : Byte) : Profile := if b = 0 then .normal else .elevated

def policyOfByte (b : Byte) : Policy := if b = 0 then .trip else .hold

def kindOfBytes (kind channel : Byte) : InterrupterKind :=
  if kind = 0 then .loc (Fin.ofNat 4 channel.toNat) else .remote

/-- A CONFIG_TRIP_OUTPUTS entry whose codes have passed the check. -/
def settingOf (e : ChannelEntry) : ChannelSetting :=
  { channel := Fin.ofNat 4 e.channel.toNat, width := e.width.toNat
    polarity := if e.polarity = 0 then .high else .low
    drive := if e.drive = 0 then .pushPull else .openDrain }

/-- The fields of DEFINE_SEGMENT whose codes have passed the check. -/
def segmentFieldsOf (phases upstream : Byte) (budget : Half) (policy : Byte) (iSurge : Half) (down : List Byte) :
    SegmentFields :=
  { phases := phasesOfByte phases, up := upstream.toNat, down := down.map BitVec.toNat, budget := budget.toNat
    policy := policyOfByte policy, iSurge := iSurge.toNat }

/-- The block that owns a request's subject acts on it, its fields checked. -/
def act (r : Request) (s : State) : State × Answer :=
  match r with
  | .identify => takeIdentify s
  | .getStatus => takeGetStatus s
  | .setMode t => takeSetMode (t == 1) s
  | .restart => takeRestart s
  | .selfTest => takeSelfTest s
  | .setTimebase period enable presence next =>
    takeSetTimebase period.toNat (enable == 1) (if presence = 1 then some next else none) s
  | .setProfile p => takeSetProfile (profileOfByte p) s
  | .setParams pairs => takeSetParams pairs s
  | .setInhibit v => takeSetInhibit (v == 1) s
  | .defineSensor slot address phases latency =>
    takeDefineSensor slot.toNat address (phasesOfByte phases) latency.toNat s
  | .retireSensor slot => takeRetireSensor slot.toNat s
  | .querySensor slot => takeQuerySensor slot.toNat s
  | .defineSegment n phases up budget policy iSurge down =>
    takeDefineSegment n.toNat (segmentFieldsOf phases up budget policy iSurge down) s
  | .removeSegment n => takeRemoveSegment n.toNat s
  | .querySegment n => takeQuerySegment n.toNat s
  | .releaseSegment n => takeReleaseSegment n.toNat s
  | .restoreSegment n => takeRestoreSegment n.toNat s
  | .defineInterrupter id kind channel slot confirm =>
    takeDefineInterrupter id.toNat (kindOfBytes kind channel) slot.toNat confirm.toNat s
  | .removeInterrupter id => takeRemoveInterrupter id.toNat s
  | .queryInterrupter id => takeQueryInterrupter id.toNat s
  | .setArm id value => takeSetArm id.toNat (value == 1) s
  | .interrupterState id position => takeInterrupterState id.toNat position.toNat s
  | .ackTrip id => takeAckTrip id.toNat s
  | .configTripOutputs entries => takeConfigTripOutputs (entries.map settingOf) s
  | .report entries => takeReport entries s
  | .fetchNotices n => takeFetchNotices n.toNat s
  | .getCounts => takeGetCounts s
  | .clearCounts token => takeClearCounts token s
  | .inject target number size position => takeInject target.toNat number.toNat (size == 1) position.toNat s
  | .unknownKind _ => takeUnknownKind s
  | .malformed _ offset => (s, badField offset)

/-- The modes in which a kind is taken: IDENTIFY, GET_STATUS and the unassigned kinds in every mode; REPORT in RUN;
SET_TIMEBASE, SELF_TEST and INJECT in HOLD; every other kind in HOLD and RUN (R21, R33, R37, R156, R160, R163, R164, R168
and each request's rule). -/
def takenIn (kind : BitVec 6) (m : PartMode) : Bool :=
  if [0, 1, 2, 30, 31].contains kind.toNat then true
  else if kind.toNat = 25 then m == .run
  else if [5, 6, 29].contains kind.toNat then m == .hold
  else m == .hold || m == .run

/-- A request is judged when it is taken: its mode, its fields, then by its owner (R168, R170; log 7). -/
def perform (r : Request) (s : State) : State × Answer :=
  if !takenIn (requestKind r) s.mc.mode then (s, refuse .wrongMode)
  else match fieldFault r with
    | some offset => (s, badField offset)
    | none => act r s

/-! ### Replies (R169, R170) -/

/-- The reply to a request, with the state as its action leaves it (R166, R168, R170). -/
def formReply (r : Request) (a : Answer) (bad : Bool) (s : State) : Reply :=
  { kind := requestKind r + 32
    payload := int1 (resultByte a.result) ++ int1 a.offset ++ int1 (linkStatus s) ++ a.fields
    badCheck := bad
    resetAfter := a.follow == .hardReset }

/-- The data bytes of a reply on the line (R163, R166). -/
def replyBytes (station : BitVec 2) (r : Reply) : List Byte :=
  let check := messageCheck (addressOf station r.kind) r.payload
  addressOf station r.kind :: countByte r.payload.length
    :: (r.payload ++ halfBytes (if r.badCheck then check ^^^ 1#16 else check))

/-- The characters of a reply on the line: the mark bit is set on the address character and clear on every other (R166). -/
def replyCharacters (station : BitVec 2) (r : Reply) : List LineCharacter :=
  match replyBytes station r with
  | [] => []
  | address :: rest => ⟨true, address⟩ :: rest.map fun b => ⟨false, b⟩

/-- The eleven levels of a character, in the order in which they stand on the line: start bit low, the data bits with the least
significant first, the mark bit, stop bit high (R165). -/
def characterLevels (c : LineCharacter) : List Bool := false :: ((List.range 8).map c.data.getLsbD ++ [c.mark, true])

/-- The executing request leaves the request buffer, its reply enters the reply buffer, and the overrun flag, carried in
the reply, is cleared (R168, R169). -/
def handOver (reply : Reply) (s : State) : State :=
  { s with hl := { s.hl with requests := s.hl.requests.drop 1, replies := s.hl.replies ++ [reply], overrun := false } }

/-- The injected bad check is spent by the reply being formed (R163). -/
def spendBadCheck (s : State) : State := { s with hl := { s.hl with badCheckNext := false } }

/-- The executing request is taken: its owner acts, its reply is formed and handed over, and RESTART's effects follow
(R159, R168). The reply to a second INJECT REPLY is the next reply formed after the first, and goes out bad (R163; log 39). -/
def takeRequest (r : Request) (s : State) : State :=
  let out := perform r (spendBadCheck s)
  let t := settleUrgency (urgencySource s) out.1
  let u := handOver (formReply r out.2 s.hl.badCheckNext t) t
  if out.2.follow = .restart then restartEffects u else u

/-- Host Link takes no request between the end of self-test step 5 and the end of step 4 (R161). -/
def stepFourHolds (s : State) : Bool :=
  s.mc.mode == .start && (s.mc.selfTest == .awaitLoopback || s.mc.selfTest == .running .four)

/-- The executing request may be taken: the reply buffer has a free place, and a delayed request meets no pass in flight
(R168). None is taken through step 4 (R161), nor while a SELF_TEST reply waits for its reset (R160; log 18). -/
def takeable (r : Request) (s : State) : Bool :=
  decide (s.hl.replies.length < 2) && !(isDelayed r && s.pass.isSome) && !stepFourHolds s
    && !s.hl.replies.any (·.resetAfter)

/-- Takes at most n requests, in arrival order, each at the first moment it may be taken (R168; log 6). -/
def serveUpTo : Nat → State → State
  | 0, s => s
  | n + 1, s =>
    match s.hl.requests with
    | [] => s
    | r :: _ => if takeable r s then serveUpTo n (takeRequest r s) else s

/-- Takes every request that may be taken now (R168). -/
def serve (s : State) : State := serveUpTo s.hl.requests.length s

/-! ### The receiver (R167, R168) -/

def setRx (x : RxState) (s : State) : State := { s with hl := { s.hl with rx := x } }

/-- A good request enters the request buffer, or is discarded as an overrun (R168). -/
def buffer (r : Request) (s : State) : State :=
  if s.hl.requests.length < 2 then { s with hl := { s.hl with requests := s.hl.requests ++ [r] } }
  else
    let t := latch .rxOverrunSeen (bump .linkOverrun s)
    { t with hl := { t.hl with overrun := true } }

/-- A message is in progress (R167). -/
def isReceiving : RxState → Bool
  | .receiving _ => true
  | .waitAddress | .skipping => false

/-- A whole message with that address character reaches the receiver. It completes the message in progress that began with the
same character; any other message in progress is dropped at the character, and LINK_ABORTED rises (R167; log 29). -/
def dropOther (address : Byte) (s : State) : State :=
  match s.hl.rx with
  | .receiving a => if a = address then s else bump .linkAborted s
  | .waitAddress | .skipping => s

/-- A good message with a request arrives whole: the receiver ends in WAIT_ADDRESS and the request is buffered. With RXD
not read it is not seen (R165, R167, R168; log 3). -/
def requestArrives (r : Request) (s : State) : State :=
  if lineRead s then buffer r (setRx .waitAddress (dropOther (addressOf s.hl.station (requestKind r)) s)) else s

/-- A marked character (R167). -/
def markedCharacter (address : Byte) (s : State) : State :=
  if lineRead s then
    let t := if isReceiving s.hl.rx then bump .linkAborted s else s
    if addressStation address = s.hl.station then setRx (.receiving address) t else setRx .skipping t
  else s

/-- A complete message arrives: address character, payload, check (R166, R167; log 29). -/
def messageArrives (address : Byte) (payload : List Byte) (check : Half) (s : State) : State :=
  if !lineRead s then s
  else if addressStation address ≠ s.hl.station then markedCharacter address s
  else
    let t := dropOther address s
    if 240 < payload.length then setRx .skipping (bump .linkFraming t)
    else if check ≠ messageCheck address payload then bump .linkCrc (setRx .waitAddress t)
    else match decodeRequest (addressKind address) payload with
      | none => setRx .waitAddress t
      | some r => buffer r (setRx .waitAddress t)

/-- A break (R167). -/
def breakArrives (s : State) : State := if lineRead s then setRx .waitAddress (bump .linkBreak s) else s

/-- A framing error, or a length character above 240 of a message being received (R167). -/
def framingArrives (cause : FramingCause) (s : State) : State :=
  if lineRead s then
    match cause with
    | .lowStopBit => setRx .waitAddress (bump .linkFraming s)
    | .lengthAbove240 => if isReceiving s.hl.rx then setRx .skipping (bump .linkFraming s) else s
  else s

/-- The gap timeout is reached (R167). -/
def gapArrives (s : State) : State :=
  if lineRead s then
    match s.hl.rx with
    | .waitAddress => s
    | .receiving _ => setRx .waitAddress (bump .linkGap s)
    | .skipping => setRx .waitAddress s
  else s

/-! ### The transmitter (R169) -/

/-- The transmitter starts the sending reply when the receiver is not in RECEIVING (R169). -/
def sendStarts (s : State) : State :=
  if !s.hl.replies.isEmpty && lineRead s && !isReceiving s.hl.rx then { s with hl := { s.hl with sending := true } }
  else s

/-- The last character of the reply ends: it leaves the buffer, TXEN falls, and a receiver in SKIPPING returns to
WAIT_ADDRESS (R169). -/
def sendEnds (s : State) : State :=
  { s with hl := { s.hl with
      replies := s.hl.replies.drop 1
      sending := false
      rx := if s.hl.rx = .skipping then .waitAddress else s.hl.rx } }

end Sys2Proof.Machine
end

