-- ==== Sys2Proof/Machine/Reset.lean ====
section
/-! DEFINITION. Hard reset and self-test (R156, R157, R160, R161), and the reset that follows a SELF_TEST reply. -/

namespace Sys2Proof.Machine

def setSelfTest (x : SelfTestPhase) (s : State) : State := { s with mc := { s.mc with selfTest := x } }

/-- A segment's place as a hard reset leaves it: its deadline timer is stopped, its content stands (R54, R109; log 16). -/
def stopDeadline : SegPlace → SegPlace
  | .live r => .live { r with deadline := none }
  | .quarantined => .quarantined

/-- An interrupter's place as a hard reset leaves it: its confirm timer is stopped, its content stands (R54, R145; log 16). -/
def stopConfirm : IntPlace → IntPlace
  | .live r => .live { r with confirm := none }
  | .tableError => .tableError

/-- A hard reset: every block takes its hard-reset values and the straps are read. The tables stand, their timers stopped,
until self-test step 1 empties them (R54, R161; log 16). The clock, the INHIBIT input and the waiting commands are no state of a
block (R156, R160, R165, R171; log 15). -/
def hardReset (station baud : BitVec 2) (s : State) : State :=
  { State.reset with
    pending := s.pending, now := s.now, inhibitPin := s.inhibitPin, stnPins := station, baudPins := baud
    strapReads := s.strapReads
    hl := .reset station baud
    sensors := s.sensors, index := s.index
    segments := s.segments.map fun p => (p.1, stopDeadline p.2)
    interrupters := s.interrupters.map fun p => (p.1, stopConfirm p.2) }

/-- RESET_N returns high: step 6 begins (R157). -/
def resetReleases (s : State) : State :=
  if s.mc.mode = .start ∧ s.mc.selfTest = .held then setSelfTest (.running .six) s else s

/-! ### Self-test (R161) -/

/-- A FATAL failure: the remaining steps down to step 2 are not run and step 1 runs. -/
def fatal (step : TestStep) (s : State) : State :=
  { s with mc := { s.mc with selfTest := .running .one, fatalStep := some step } }

/-- A step ends; a HARD failure is kept, and the test goes on. -/
def passOn (next : SelfTestPhase) (hard : Bool) (s : State) : State :=
  { s with mc := { s.mc with selfTest := next, hardSeen := s.mc.hardSeen || hard } }

/-- How many record banks a map holds present. -/
def presentBanks (m : BitVec 8) : Nat := (List.range 8).countP m.getLsbD

/-- The end of step 6. -/
def endStepSix (bad : BitVec 8) (interrupterBankBad : Bool) (s : State) : State :=
  let t := { s with tm := { s.tm with bankMap := ~~~bad } }
  if interrupterBankBad || decide (presentBanks (~~~bad) < 4) then fatal .six t
  else passOn (.running .five) (bad != 0) t

/-- The end of step 3: the failed marks. -/
def endStepThree (bad : BitVec 4) (s : State) : State :=
  passOn (.running .two) (bad != 0)
    { s with channels := channelsOf fun k => { s.channels.get k with failed := bad.getLsbD k.val } }

/-- Step 1: every table is emptied; parameters, profile, inhibit flag and channel configurations take their defaults; the
failed marks are kept (R24, R161). -/
def emptyTables (s : State) : State :=
  { s with
    sensors := [], index := [], segments := [], interrupters := [], params := .defaults
    mc := { s.mc with profile := .normal, inhibitFlag := false }
    channels := channelsOf fun k => { Channel.default with failed := (s.channels.get k).failed } }

/-- The channels with a failed mark. -/
def failedChannels (s : State) : List Nat :=
  ([0, 1, 2, 3] : List (Fin 4)).filterMap fun k => if (s.channels.get k).failed then some k.val else none

/-- The end of self-test (R156, R161). -/
def endSelfTest (s : State) : State :=
  match s.mc.fatalStep with
  | some step =>
    { s with mc := { s.mc with mode := .failed, selfTest := .ended, outcome := some .fatal, failingStep := some step } }
  | none =>
    let outcome := if s.mc.hardSeen then TestOutcome.hard else .pass
    let t := startSchedule { s with mc := { s.mc with mode := .hold, selfTest := .ended, outcome := some outcome } }
    raiseNow (.selfTestDone outcome t.tm.bankMap (failedChannels t)) t

/-- The step running ends with what it found; findings of another step do not occur (R161; log 5, log 17). -/
def stepEnds (findings : StepFindings) (s : State) : State :=
  if s.mc.mode = .start then
    match s.mc.selfTest, findings with
    | .running .six, .pattern bad ibad => endStepSix bad ibad s
    | .running .five, .errorCheck passed => if passed then passOn .awaitLoopback false s else fatal .five s
    | .running .four, .loopback =>
      let t := setRx .waitAddress s
      if s.mc.loopbackGood then passOn (.running .three) false t else fatal .four t
    | .running .three, .channels bad => endStepThree bad s
    | .running .two, .timebase passed => if passed then passOn (.running .one) false s else fatal .two s
    | .running .one, .tables => endSelfTest (emptyTables s)
    | _, _ => s
  else s

/-- Step 4 begins once no reply is being sent or waiting; a message partly received is aborted without a count (R161). -/
def loopbackBegins (good : Bool) (s : State) : State :=
  if s.mc.mode = .start ∧ s.mc.selfTest = .awaitLoopback ∧ s.hl.replies = [] then
    setRx .waitAddress { s with mc := { s.mc with selfTest := .running .four, loopbackGood := good } }
  else s

/-! ### The end of a reply (R160, R169) -/

/-- A SELF_TEST reply has left the line: a hard reset as if RESET_N had been asserted, and self-test runs from step 6
(R160; log 18). The straps are read as they stand then, which is a free value (R165; log 18). -/
def resetBySelfTest (s : State) : State :=
  let straps := Config.strapsAt s.strapReads
  { setSelfTest (.running .six) (hardReset straps.1 straps.2 s) with strapReads := s.strapReads + 1 }

/-- The last character of the reply being sent ends; a SELF_TEST's is followed by its hard reset (R160, R165, R169). -/
def replyEnds (s : State) : State :=
  if s.hl.sending then
    match s.hl.replies with
    | r :: _ => if r.resetAfter then resetBySelfTest s else sendEnds s
    | [] => sendEnds s
  else s

end Sys2Proof.Machine
end

