-- ==== Sys2Proof/Machine/Commands.lean ====
section
/-! DEFINITION. The meanings of the request commands: the arrival of a good message with that request, buffered (R168) and
taken at the first moment it may be (log 3). What the request does when it is taken is in Model.lean and Part.lean. -/

namespace Sys2Proof.Machine

/-- What a step answers. -/
abbrev Result := Host.Outcome State Fault Refusal

/-- A step ends by taking every request that may be taken then (R168). -/
def event (f : State → State) (s : State) : Result := .next (serve (f s))

/-- IDENTIFY (R164). -/
def execIdentify (s : State) : Result :=
  event (requestArrives .identify) s

/-- GET_STATUS (R164). -/
def execGetStatus (s : State) : Result :=
  event (requestArrives .getStatus) s

/-- SET_MODE (R158). -/
def execSetMode (target : Byte) (s : State) : Result :=
  event (requestArrives (.setMode target)) s

/-- RESTART (R159). -/
def execRestart (s : State) : Result :=
  event (requestArrives .restart) s

/-- SELF_TEST (R160). -/
def execSelfTest (s : State) : Result :=
  event (requestArrives .selfTest) s

/-- SET_TIMEBASE (R33). -/
def execSetTimebase (period : Half) (enable presence : Byte) (next : Half) (s : State) : Result :=
  event (requestArrives (.setTimebase period enable presence next)) s

/-- SET_PROFILE (R105). -/
def execSetProfile (profile : Byte) (s : State) : Result :=
  event (requestArrives (.setProfile profile)) s

/-- SET_PARAMS (R106). -/
def execSetParams (pairs : List ParamPair) (s : State) : Result :=
  event (requestArrives (.setParams pairs)) s

/-- SET_INHIBIT (R140). -/
def execSetInhibit (value : Byte) (s : State) : Result :=
  event (requestArrives (.setInhibit value)) s

/-- DEFINE_SENSOR (R2). -/
def execDefineSensor (slot : Byte) (address : FieldAddress) (phases latency : Byte) (s : State) : Result :=
  event (requestArrives (.defineSensor slot address phases latency)) s

/-- RETIRE_SENSOR (R5). -/
def execRetireSensor (slot : Byte) (s : State) : Result :=
  event (requestArrives (.retireSensor slot)) s

/-- QUERY_SENSOR (R6). -/
def execQuerySensor (slot : Byte) (s : State) : Result :=
  event (requestArrives (.querySensor slot)) s

/-- DEFINE_SEGMENT (R9). -/
def execDefineSegment (segment phases upstream : Byte) (budget : Half) (policy : Byte) (iSurge : Half) (down : List Byte) (s : State) : Result :=
  event (requestArrives (.defineSegment segment phases upstream budget policy iSurge down)) s

/-- REMOVE_SEGMENT (R14). -/
def execRemoveSegment (segment : Byte) (s : State) : Result :=
  event (requestArrives (.removeSegment segment)) s

/-- QUERY_SEGMENT (R16). -/
def execQuerySegment (segment : Byte) (s : State) : Result :=
  event (requestArrives (.querySegment segment)) s

/-- RELEASE_SEGMENT (R103). -/
def execReleaseSegment (segment : Byte) (s : State) : Result :=
  event (requestArrives (.releaseSegment segment)) s

/-- RESTORE_SEGMENT (R118). -/
def execRestoreSegment (segment : Byte) (s : State) : Result :=
  event (requestArrives (.restoreSegment segment)) s

/-- DEFINE_INTERRUPTER (R17). -/
def execDefineInterrupter (id kind channel slot : Byte) (confirm : Half) (s : State) : Result :=
  event (requestArrives (.defineInterrupter id kind channel slot confirm)) s

/-- REMOVE_INTERRUPTER (R19). -/
def execRemoveInterrupter (id : Byte) (s : State) : Result :=
  event (requestArrives (.removeInterrupter id)) s

/-- QUERY_INTERRUPTER (R20). -/
def execQueryInterrupter (id : Byte) (s : State) : Result :=
  event (requestArrives (.queryInterrupter id)) s

/-- SET_ARM (R138). -/
def execSetArm (id arming : Byte) (s : State) : Result :=
  event (requestArrives (.setArm id arming)) s

/-- INTERRUPTER_STATE (R130). -/
def execInterrupterState (id position : Byte) (s : State) : Result :=
  event (requestArrives (.interrupterState id position)) s

/-- ACK_TRIP (R139). -/
def execAckTrip (id : Byte) (s : State) : Result :=
  event (requestArrives (.ackTrip id)) s

/-- CONFIG_TRIP_OUTPUTS (R143). -/
def execConfigTripOutputs (entries : List ChannelEntry) (s : State) : Result :=
  event (requestArrives (.configTripOutputs entries)) s

/-- REPORT (R37). -/
def execReport (entries : List ReportEntry) (s : State) : Result :=
  event (requestArrives (.report entries)) s

/-- FETCH_NOTICES (R149). -/
def execFetchNotices (number : Byte) (s : State) : Result :=
  event (requestArrives (.fetchNotices number)) s

/-- GET_COUNTS (R153). -/
def execGetCounts (s : State) : Result :=
  event (requestArrives .getCounts) s

/-- CLEAR_COUNTS (R154). -/
def execClearCounts (token : Byte) (s : State) : Result :=
  event (requestArrives (.clearCounts token)) s

/-- INJECT (R163). -/
def execInject (target number size position : Byte) (s : State) : Result :=
  event (requestArrives (.inject target number size position)) s

/-- UNKNOWN_KIND (R168). -/
def execUnknownKind (kind : UnassignedKind) (s : State) : Result :=
  event (requestArrives (.unknownKind kind)) s

end Sys2Proof.Machine
end

