-- ==== Sys2Proof/Machine/Events.lean ====
section
/-! DEFINITION. The meanings of the event commands: reset and self-test, the line, the timebase, the pass, the timers, the
INHIBIT input. A row whose event cannot occur in the state changes nothing (log 5). -/

namespace Sys2Proof.Machine

/-- An event that may begin or end the urgency source: the tail count follows at the end of it (R148; log 30). -/
def settled (f : State → State) (s : State) : State := settleUrgency (urgencySource s) (f s)

/-- The completion of the pass: steps 1 to 5 of R96, ring step 1, the requests taken first, ring step 2 (R50, R96; log 6). -/
def passCompletes (requestsFirst : Nat) (s : State) : State :=
  if atStage .completion s then closeOldest (serveUpTo requestsFirst (settled completePass s)) else s

/-- The INHIBIT input changes (R140). -/
def inhibitChanges (asserted : Bool) (s : State) : State := { s with inhibitPin := asserted }

/-- HARD_RESET: RESET_N asserted or power-up, with the strap levels; nothing else follows in the step (R156). -/
def execHardReset (station baud : BitVec 2) (s : State) : Result :=
  .next (hardReset station baud s)

/-- SELF_TEST_STEP_END (R161). -/
def execSelfTestStepEnd (findings : StepFindings) (s : State) : Result :=
  event (stepEnds findings) s

/-- LINK_LOOPBACK (R161). -/
def execLinkLoopback (messageGood : Bool) (s : State) : Result :=
  event (loopbackBegins messageGood) s

/-- MESSAGE_RECEIVED (R167). -/
def execMessageReceived (address : Byte) (payload : List Byte) (check : Half) (s : State) : Result :=
  event (messageArrives address payload check) s

/-- LINK_ABORTED: a marked character (R167). -/
def execLinkAborted (address : Byte) (s : State) : Result :=
  event (markedCharacter address) s

/-- LINK_BREAK (R167). -/
def execLinkBreak (s : State) : Result :=
  event breakArrives s

/-- LINK_FRAMING (R167). -/
def execLinkFraming (cause : FramingCause) (s : State) : Result :=
  event (framingArrives cause) s

/-- GAP_TIMEOUT (R167). -/
def execGapTimeout (s : State) : Result :=
  event gapArrives s

/-- REPLY_SEND_START (R169). -/
def execReplySendStart (s : State) : Result :=
  event sendStarts s

/-- REPLY_SENT (R160, R165, R169). -/
def execReplySent (s : State) : Result :=
  event replyEnds s

/-- SYNC_EDGE at a time; an edge is not seen before the part's clock stands there (R29, R30). -/
def execSyncEdge (time : Nat) (s : State) : Result :=
  event (fun t => syncEdge (max t.now time) (arriveAt time t)) s

/-- EDGE_HISTORY_TIMEOUT (R29). -/
def execEdgeHistoryTimeout (s : State) : Result :=
  event historyTimeout s

/-- INTERNAL_FRAME_START (R28). -/
def execInternalFrameStart (s : State) : Result :=
  event internalStart s

/-- EDGE_WINDOW_CLOSE (R31). -/
def execEdgeWindowClose (s : State) : Result :=
  event windowClose s

/-- PASS_STAGE_1 (R78). -/
def execPassStage1 (s : State) : Result :=
  event (settled (runStage .one .two stage1)) s

/-- PASS_STAGE_2 (R79). -/
def execPassStage2 (s : State) : Result :=
  event (settled (runStage .two .three stage2)) s

/-- PASS_STAGE_3 (R90). -/
def execPassStage3 (s : State) : Result :=
  event (settled (runStage .three .four stage3)) s

/-- PASS_STAGE_4 (R63). -/
def execPassStage4 (s : State) : Result :=
  event (settled (runStage .four .completion stage4)) s

/-- PASS_COMPLETION; the operand is how many held requests are taken before ring step 2 (R50, R96). -/
def execPassCompletion (requestsFirst : Fin 3) (s : State) : Result :=
  event (passCompletes requestsFirst.val) s

/-- DEADLINE_EXPIRY (R99). -/
def execDeadlineExpiry (segment : Fin 40) (s : State) : Result :=
  event (settled (deadlineExpires segment.val)) s

/-- CONFIRM_TIMER_EXPIRY (R134). -/
def execConfirmTimerExpiry (id : Fin 16) (s : State) : Result :=
  event (settled (confirmExpires id.val)) s

/-- PULSE_TIMER_EXPIRY (R142). -/
def execPulseTimerExpiry (channel : Fin 4) (s : State) : Result :=
  event (pulseExpires channel) s

/-- INHIBIT_INPUT_CHANGE (R140). -/
def execInhibitInputChange (asserted : Bool) (s : State) : Result :=
  event (inhibitChanges asserted) s

/-- ADDRESS_CHARACTER (R167). -/
def execAddressCharacter (address : Byte) (s : State) : Result :=
  event (markedCharacter address) s

/-- RESET_N_RELEASE (R157). -/
def execResetNRelease (s : State) : Result :=
  event resetReleases s

end Sys2Proof.Machine
end

