-- ==== Sys2Proof/Machine/Dispatch.lean ====
section
/-! DEFINITION. One arm per command, each a call of its meaning. -/

namespace Sys2Proof.Machine

def exec (i : Instr) (s : State) : Host.Outcome State Fault Refusal :=
  match i with
  | .identify => Sys2Proof.Machine.execIdentify s
  | .getStatus => Sys2Proof.Machine.execGetStatus s
  | .setMode target => Sys2Proof.Machine.execSetMode target s
  | .restart => Sys2Proof.Machine.execRestart s
  | .selfTest => Sys2Proof.Machine.execSelfTest s
  | .setTimebase period enable presence next => Sys2Proof.Machine.execSetTimebase period enable presence next s
  | .setProfile profile => Sys2Proof.Machine.execSetProfile profile s
  | .setParams pairs => Sys2Proof.Machine.execSetParams pairs s
  | .setInhibit value => Sys2Proof.Machine.execSetInhibit value s
  | .defineSensor slot address phases latency => Sys2Proof.Machine.execDefineSensor slot address phases latency s
  | .retireSensor slot => Sys2Proof.Machine.execRetireSensor slot s
  | .querySensor slot => Sys2Proof.Machine.execQuerySensor slot s
  | .defineSegment segment phases upstream budget policy iSurge down => Sys2Proof.Machine.execDefineSegment segment phases upstream budget policy iSurge down s
  | .removeSegment segment => Sys2Proof.Machine.execRemoveSegment segment s
  | .querySegment segment => Sys2Proof.Machine.execQuerySegment segment s
  | .releaseSegment segment => Sys2Proof.Machine.execReleaseSegment segment s
  | .restoreSegment segment => Sys2Proof.Machine.execRestoreSegment segment s
  | .defineInterrupter id kind channel slot confirm => Sys2Proof.Machine.execDefineInterrupter id kind channel slot confirm s
  | .removeInterrupter id => Sys2Proof.Machine.execRemoveInterrupter id s
  | .queryInterrupter id => Sys2Proof.Machine.execQueryInterrupter id s
  | .setArm id arming => Sys2Proof.Machine.execSetArm id arming s
  | .interrupterState id position => Sys2Proof.Machine.execInterrupterState id position s
  | .ackTrip id => Sys2Proof.Machine.execAckTrip id s
  | .configTripOutputs entries => Sys2Proof.Machine.execConfigTripOutputs entries s
  | .report entries => Sys2Proof.Machine.execReport entries s
  | .fetchNotices number => Sys2Proof.Machine.execFetchNotices number s
  | .getCounts => Sys2Proof.Machine.execGetCounts s
  | .clearCounts token => Sys2Proof.Machine.execClearCounts token s
  | .inject target number size position => Sys2Proof.Machine.execInject target number size position s
  | .unknownKind kind => Sys2Proof.Machine.execUnknownKind kind s
  | .hardReset station baud => Sys2Proof.Machine.execHardReset station baud s
  | .selfTestStepEnd findings => Sys2Proof.Machine.execSelfTestStepEnd findings s
  | .linkLoopback messageGood => Sys2Proof.Machine.execLinkLoopback messageGood s
  | .messageReceived address payload check => Sys2Proof.Machine.execMessageReceived address payload check s
  | .linkAborted address => Sys2Proof.Machine.execLinkAborted address s
  | .linkBreak => Sys2Proof.Machine.execLinkBreak s
  | .linkFraming cause => Sys2Proof.Machine.execLinkFraming cause s
  | .gapTimeout => Sys2Proof.Machine.execGapTimeout s
  | .replySendStart => Sys2Proof.Machine.execReplySendStart s
  | .replySent => Sys2Proof.Machine.execReplySent s
  | .syncEdge time => Sys2Proof.Machine.execSyncEdge time s
  | .edgeHistoryTimeout => Sys2Proof.Machine.execEdgeHistoryTimeout s
  | .internalFrameStart => Sys2Proof.Machine.execInternalFrameStart s
  | .edgeWindowClose => Sys2Proof.Machine.execEdgeWindowClose s
  | .passStage1 => Sys2Proof.Machine.execPassStage1 s
  | .passStage2 => Sys2Proof.Machine.execPassStage2 s
  | .passStage3 => Sys2Proof.Machine.execPassStage3 s
  | .passStage4 => Sys2Proof.Machine.execPassStage4 s
  | .passCompletion requestsFirst => Sys2Proof.Machine.execPassCompletion requestsFirst s
  | .deadlineExpiry segment => Sys2Proof.Machine.execDeadlineExpiry segment s
  | .confirmTimerExpiry id => Sys2Proof.Machine.execConfirmTimerExpiry id s
  | .pulseTimerExpiry channel => Sys2Proof.Machine.execPulseTimerExpiry channel s
  | .inhibitInputChange asserted => Sys2Proof.Machine.execInhibitInputChange asserted s
  | .addressCharacter address => Sys2Proof.Machine.execAddressCharacter address s
  | .resetNRelease => Sys2Proof.Machine.execResetNRelease s

end Sys2Proof.Machine
end

