-- ==== Sys2Proof/WellFormed.lean ====
section
/-! DEFINITION. Well-formed commands: those whose operands some message or event of the part can carry. The checks
are of layout only; a value out of its range is a well-formed command that the part refuses with BAD_FIELD. -/

namespace Sys2Proof

open Sys2Proof.Machine

/-- The request that a request row carries; none for the other rows. -/
def requestOf : Instr → Option Request
  | .identify => some .identify
  | .getStatus => some .getStatus
  | .setMode t => some (.setMode t)
  | .restart => some .restart
  | .selfTest => some .selfTest
  | .setTimebase p e pr n => some (.setTimebase p e pr n)
  | .setProfile p => some (.setProfile p)
  | .setParams ps => some (.setParams ps)
  | .setInhibit v => some (.setInhibit v)
  | .defineSensor s a p l => some (.defineSensor s a p l)
  | .retireSensor s => some (.retireSensor s)
  | .querySensor s => some (.querySensor s)
  | .defineSegment n p u b y i d => some (.defineSegment n p u b y i d)
  | .removeSegment n => some (.removeSegment n)
  | .querySegment n => some (.querySegment n)
  | .releaseSegment n => some (.releaseSegment n)
  | .restoreSegment n => some (.restoreSegment n)
  | .defineInterrupter i k c s t => some (.defineInterrupter i k c s t)
  | .removeInterrupter i => some (.removeInterrupter i)
  | .queryInterrupter i => some (.queryInterrupter i)
  | .setArm i a => some (.setArm i a)
  | .interrupterState i p => some (.interrupterState i p)
  | .ackTrip i => some (.ackTrip i)
  | .configTripOutputs es => some (.configTripOutputs es)
  | .report es => some (.report es)
  | .fetchNotices n => some (.fetchNotices n)
  | .getCounts => some .getCounts
  | .clearCounts t => some (.clearCounts t)
  | .inject t n s p => some (.inject t n s p)
  | .unknownKind k => some (.unknownKind k)
  | .hardReset _ _ | .selfTestStepEnd _ | .linkLoopback _ | .messageReceived _ _ _ | .linkAborted _ | .linkBreak
  | .linkFraming _ | .gapTimeout | .replySendStart | .replySent | .syncEdge _ | .edgeHistoryTimeout
  | .internalFrameStart | .edgeWindowClose | .passStage1 | .passStage2 | .passStage3 | .passStage4
  | .passCompletion _ | .deadlineExpiry _ | .confirmTimerExpiry _ | .pulseTimerExpiry _ | .inhibitInputChange _
  | .addressCharacter _ | .resetNRelease => none

/-- A REPORT entry holds values for exactly the phases it carries (section 3.2). -/
def entryWellFormed (e : ReportEntry) : Bool := e.values.length == carriedCount e.carried

/-- A request that a payload of at most 240 bytes carries (R166): a value stands only where its presence or kind
says that it is sent. -/
def requestWellFormed : Request → Bool
  | .setTimebase _ _ presence next => presence == 1 || next == 0
  | .setParams pairs => pairs.length ≤ 79
  | .defineSegment _ _ _ _ _ _ down => down.length ≤ 231
  | .defineInterrupter _ kind channel _ _ => kind != 1 || channel == 0
  | .configTripOutputs entries => entries.length ≤ 47
  | .report entries => entries.all entryWellFormed && (encodePayload (.report entries)).length ≤ 240
  | .inject target number size position => target != 3 || (number == 0 && size == 0 && position == 0)
  | .malformed _ _ => false
  | _ => true

/-- A command that the outside world can send. -/
def instrWellFormed (i : Instr) : Bool :=
  match i with
  | .messageReceived _ payload _ => payload.length ≤ 240
  | _ => match requestOf i with
    | some r => requestWellFormed r
    | none => true

end Sys2Proof
end

