-- ==== Sys2Proof/Safety.lean ====
section
/-! DEFINITION. The terms in which claims speak of a run: when Host Link answers at once, what an answer leaves, when Table
Memory holds no error, and the bounds that every step keeps. -/

namespace Sys2Proof.Machine

/-! ### Answers -/

/-- RXD is read and no message is in progress (R165, R167). -/
def lineIdle (s : State) : Bool := lineRead s && !isReceiving s.hl.rx

/-- Host Link takes an arriving request at once, if its kind is not delayed: the line is idle, no request is held, the reply
buffer has a free place, and no self-test step or reset stands in the way (R160, R161, R165, R168). -/
def ready (s : State) : Bool :=
  s.hl.requests.isEmpty && decide (s.hl.replies.length < 2) && !s.hl.replies.any (·.resetAfter) && lineIdle s
    && !stepFourHolds s

/-- Host Link takes this request at once when it arrives: it is ready, and the request is not a delayed one meeting a pass in
flight (R168). -/
def takesNow (r : Request) (s : State) : Bool := ready s && !(isDelayed r && s.pass.isSome)

/-- No request is held. -/
def noneHeld (s : State) : Bool := s.hl.requests.isEmpty

/-- The part is in HOLD or RUN. -/
def inService (s : State) : Bool := s.mc.mode == .hold || s.mc.mode == .run

/-- State t with the reply to a request of that kind formed from it: the receiver in WAIT_ADDRESS, the reply last in the
buffer, overrun flag and injected bad check spent (R163, R168, R170). -/
def answered (kind : BitVec 6) (a : Answer) (t : State) : State :=
  { t with hl := { t.hl with
      rx := .waitAddress
      replies := t.hl.replies ++ [{ kind := kind + 32
                                    payload := int1 (resultByte a.result) ++ int1 a.offset ++ int1 (linkStatus t) ++ a.fields
                                    badCheck := t.hl.badCheckNext
                                    resetAfter := a.follow == .hardReset }]
      overrun := false
      badCheckNext := false } }

/-! ### Table Memory -/

/-- No record holds an inverted bit. -/
def clean (s : State) : Bool :=
  (s.sensors.all fun p => match p.2 with
    | .live r => r.err == 0
    | .quarantined => true)
  && (s.segments.all fun p => match p.2 with
    | .live r => r.err == 0
    | .quarantined => true)
  && s.interrupters.all fun p => match p.2 with
    | .live r => r.err == 0
    | .tableError => true

/-! ### Bounds -/

/-- The notice queue holds at most 32 notices (R150). -/
def noticesBounded (s : State) : Bool := decide (s.nq.queue.length ≤ 32)

/-- Every count lies between 0 and 65535 (R152). -/
def countsBounded (s : State) : Bool := allCounts.all fun c => decide (s.cb.counts.get c ≤ 65535)

/-- At most two requests and two replies are held (R168, R169). -/
def buffersBounded (s : State) : Bool := decide (s.hl.requests.length ≤ 2) && decide (s.hl.replies.length ≤ 2)

/-- The ring holds at most eight frames (R44). -/
def ringBounded (s : State) : Bool := decide (s.ring.length ≤ 8)

/-- The records and the index stand in canonical form. -/
def tablesCanonical (s : State) : Bool :=
  tableWf s.sensors && tableWf s.index && tableWf s.segments && tableWf s.interrupters

/-- The value of a parameter. -/
def getParam (x : Params) : Param → Nat
  | .profile w p =>
    let y := match w with
      | .normal => x.normal
      | .elevated => x.elevated
    match p with
    | .vLive => y.vLive
    | .vOpen => y.vOpen
    | .unbalGap => y.unbalGap
    | .nOpen => y.nOpen
    | .leakPickup => y.leakPickup
    | .arcPickup => y.arcPickup
    | .nContact => y.nContact
    | .iDead => y.iDead
    | .loadMin => y.loadMin
  | .minHold => x.minHold
  | .staleLimit => x.staleLimit
  | .baseShift => x.baseShift
  | .settleFrames => x.settleFrames
  | .maintTail => x.maintTail

/-- What a written value of a parameter becomes: MAINT_TAIL stops at 15 (R106). -/
def writtenValue (p : Param) (v : Nat) : Nat :=
  match p with
  | .maintTail => min v 15
  | _ => v

def allProfileParams : List ProfileParam :=
  [.vLive, .vOpen, .unbalGap, .nOpen, .leakPickup, .arcPickup, .nContact, .iDead, .loadMin]

/-- The parameters of section 5.10. -/
def allParams : List Param :=
  allProfileParams.map (.profile .normal) ++ allProfileParams.map (.profile .elevated)
    ++ [.minHold, .staleLimit, .baseShift, .settleFrames, .maintTail]

/-- Every parameter, the frame period, every channel width and the tail count lie in their ranges (section 5.10, R27, R141,
R148). -/
def settingsLegal (s : State) : Bool :=
  (allParams.all fun p => within (paramRange p).1 (paramRange p).2 (getParam s.params p))
    && decide (s.params.maintTail ≤ 15) && decide (s.nq.tail ≤ 15) && within 20 250 s.ft.period
    && allChannels.all fun ch => within 1 500 (s.channels.get ch).width

/-- No reply in the buffer is followed by a hard reset. -/
def noResetPending (s : State) : Bool := !s.hl.replies.any (·.resetAfter)

/-! ### A frame start in RUN (R45, R47 to R49) -/

/-- State t holds the ring and pass that a frame start of number c in RUN leaves of state s, whose ring has a free place: the frame
of that number is opened with every ACTIVE and STALE sensor expected, every OPEN frame is tested for closing, and, with no pass in
flight, a CLOSABLE oldest frame closes and its pass begins at stage 1 with the boundary sensors of OPEN and TRIPPING interrupters
shadowed (R45, R48, R49, R68, R75). -/
def frameOpened (s t : State) (c : FrameNo) : Prop :=
  let opened : Frame := { number := c, expected := allSlots.filter fun d => (sensorAt s d).isSome, reports := [], cond := .opened }
  let ring := (s.ring ++ [opened]).map (testFrame { s with ft := { s.ft with frame := c } })
  (s.pass.isSome = true → t.ring = ring ∧ t.pass = s.pass) ∧
  (∀ f rest, s.pass = none → ring = f :: rest → f.cond ≠ .closable → t.ring = ring ∧ t.pass = none) ∧
  ∀ f rest, s.pass = none → ring = f :: rest → f.cond = .closable →
    t.ring = { f with cond := .evaluating } :: rest ∧
    ∃ sh, t.pass = some ⟨f.number, .one, sh, [], [], [], [], []⟩ ∧
      ∀ d, d ∈ sh ↔ ∃ x r, x < 16 ∧ interrupterAt s x = some r ∧ r.boundary = d ∧ (r.state = .opened ∨ r.state = .tripping)

/-! ### The tree (R11) -/

/-- Each slot is the upstream sensor of at most one segment and stands in the downstream list of at most one (R11). -/
def sharesNoSensor (s : State) : Prop :=
  ∀ m n q r, m < 40 → n < 40 → segmentAt s m = some q → segmentAt s n = some r → m ≠ n →
    q.up ≠ r.up ∧ ∀ d ∈ q.down, d ∉ r.down

/-- Going down from sensor d: the path's first segment has d as its upstream sensor, each next one has its upstream sensor in the
downstream list of the one before, and the last one's list holds u; segment n is not on it (R10, R11). -/
def leadsDown (s : State) (n u : Nat) : Nat → List Nat → Prop
  | _, [] => False
  | d, g :: rest => g < 40 ∧ g ≠ n ∧ ∃ q, segmentAt s g = some q ∧ q.up = d ∧
      ((rest = [] ∧ u ∈ q.down) ∨ ∃ e ∈ q.down, leadsDown s n u e rest)

/-! ### The records of a verdict (R87, R89, R97, R121, R122) -/

/-- The states that hold a verdict part (R89). -/
def isVerdictState (st : SegState) : Bool :=
  st == .isolating || st == .isolated || st == .withheld || st == .isolationFailed

/-- The verdict part is present exactly in the verdict states, the suspect details exactly in SUSPECT, the deadline timer only
there (R87, R89, R97). -/
def segmentLaw (r : SegRec) : Prop :=
  (r.verdict ≠ none ↔ isVerdictState r.state = true) ∧ (r.suspect ≠ none ↔ r.state = .suspect) ∧
  (r.deadline ≠ none → r.state = .suspect)

/-- Interrupter x is TRIPPING with segment n, of that record, among its waiters, and n's newest chain entry names x with TRIPPED
or JOINED (R121, R122). -/
def waitsOn (s : State) (n : Nat) (r : SegRec) (x : Nat) : Prop :=
  x < 16 ∧ (∃ q, interrupterAt s x = some q ∧ q.state = .tripping ∧ n ∈ q.waiters) ∧
  ∃ v e, r.verdict = some v ∧ v.chain.getLast? = some e ∧ e.id = x ∧ (e.outcome = .tripped ∨ e.outcome = .joined)

/-- Each segment record meets its law; only a TRIPPING interrupter has waiters, each listed once and each a segment in ISOLATING;
a segment in ISOLATING waits on exactly one interrupter, any other on none (R87, R89, R97, R121, R122). -/
def recordLaws (s : State) : Prop :=
  (∀ n r, n < 40 → segmentAt s n = some r → segmentLaw r ∧ (r.state = .isolating → ∃ x, waitsOn s n r x)) ∧
  (∀ x q, x < 16 → interrupterAt s x = some q → q.waiters.Nodup ∧ (q.waiters ≠ [] → q.state = .tripping) ∧
    ∀ n ∈ q.waiters, n < 40 ∧ ∃ r, segmentAt s n = some r ∧ r.state = .isolating) ∧
  ∀ x y p q n, x < 16 → y < 16 → interrupterAt s x = some p → interrupterAt s y = some q → n ∈ p.waiters → n ∈ q.waiters →
    x = y

/-! ### The moments of a step -/

/-- What a command does before a held request is taken (R50, R168): a request or message is buffered, the completion takes the
requests named, any other command acts as if none were held. -/
def beforeTaking (c : Instr) (s : State) : State :=
  match requestOf c, c with
  | some r, _ => requestArrives r s
  | none, .messageReceived address payload check => messageArrives address payload check s
  | none, .hardReset station baud => hardReset station baud s
  | none, .replySent => replyEnds s
  | none, .passCompletion k => passCompletes k.val s
  | none, other => match exec other { s with hl := { s.hl with requests := [] } } with
    | .next t => { t with hl := { t.hl with requests := s.hl.requests } }
    | .fault _ => s
    | .refused _ => s

/-- The states in which a step's parts begin: the command itself, the completion's requests before ring step 2, and the held
requests taken at its end, at most two in all (R50, R168). -/
def moments (c : Instr) (s : State) : List State :=
  let ring := match c with
    | .passCompletion k => if atStage .completion s then
        (List.range k.val).map fun i => serveUpTo i (settled completePass s) else []
    | _ => []
  s :: ring ++ (List.range 2).map fun i => serveUpTo i (beforeTaking c s)

/-- A pulse on a channel may begin: the part is in RUN with the effective inhibit clear, the channel is good, and an armed
interrupter is bound to it (R123, R126, R142). -/
def mayPulse (s : State) (ch : Fin 4) : Prop :=
  s.mc.mode = .run ∧ effectiveInhibit s = false ∧ (s.channels.get ch).failed = false ∧
  ∃ x r, x < 16 ∧ interrupterAt s x = some r ∧ r.kind = .loc ch ∧ r.armed = true

end Sys2Proof.Machine
end

