-- ==== Sys2Proof/Certificates/Slice0/Obligations.lean ====
section
/-! DEFINITION. The statements for the provers. Each `Obligations.<Name>` says what its name says; a docstring names the
rules of spec/ it rests on. -/

section

open Sys2Proof Sys2Proof.Machine

/-! ### The queue -/

/-- A step runs the command at the front of the queue on the state with the queue's rest; on an empty queue one microsecond
passes (the model's own queue and tick: log 1). -/
def Obligations.StepRunsFrontCommand : Prop :=
  (∀ (c : Instr) (rest : List Instr) (s : State), s.pending = c :: rest →
    step s = exec c { s with pending := rest }) ∧
  ∀ s : State, s.pending = [] → step s = .next { s with now := s.now + 1 }

/-! ### Identification, status, unassigned kinds (R164, R168) -/

/-- IDENTIFY and GET_STATUS are answered OK in every mode, also while a pass is in flight; the IDENTIFY reply carries the
product number, the device revision (open: log 28), the straps read at the reset and the mode; a request of kind 0, 30 or 31 is
taken in every mode and answered UNKNOWN_KIND with reply kind 32, 62 or 63. The layout of GET_STATUS is the model's (log 24).
Nothing but Host Link changes. Every reply's third byte is the link status byte: in bit 0 whether FETCH_NOTICES would return a
notice (no MAINT notice while urgency holds; the source in START: log 16), in bit 1 the overrun flag, which the reply clears, in bits
2 and 3 the mode, in bit 4 the effective inhibit (R148, R164, R168, R170, 11.3). -/
def Obligations.IdentificationAndUnassignedKinds : Prop :=
  (∀ s : State, ready s = true →
     exec .identify s = .next (answered 1 (okWith ([0x12, 0xE8, Config.deviceRevision] ++ int1 s.hl.station.toNat
       ++ int1 s.hl.baud.toNat ++ int1 (modeCode s.mc.mode))) s) ∧
     exec .getStatus s = .next (answered 2 (okWith (statusBytes s)) s)) ∧
  (∀ (k : UnassignedKind) (s : State), ready s = true →
     exec (.unknownKind k) s = .next (answered
       (match k with | .kind0 => 0 | .kind30 => 30 | .kind31 => 31) (refuse .unknownKind) s)) ∧
  (∀ (kind : BitVec 6) (a : Answer) (s : State),
     let urgent : Prop := (s.mc.mode ≠ .start ∧
         ((∃ n r, n < 40 ∧ segmentAt s n = some r ∧ (r.state = .suspect ∨ r.state = .isolating)) ∨
           ∃ x r, x < 16 ∧ interrupterAt s x = some r ∧ r.state = .tripping)) ∨ 0 < s.nq.tail
     ∃ x status, (answered kind a s).hl.replies = s.hl.replies ++ [x] ∧ x.payload[2]? = some status ∧
       (answered kind a s).hl.overrun = false ∧
       (status.getLsbD 0 = true ↔ ∃ n ∈ s.nq.queue, noticeClass n.body = .maint → ¬ urgent) ∧
       status.getLsbD 1 = s.hl.overrun ∧
       (status.getLsbD 2 = true ↔ s.mc.mode = .hold ∨ s.mc.mode = .failed) ∧
       (status.getLsbD 3 = true ↔ s.mc.mode = .run ∨ s.mc.mode = .failed) ∧
       (status.getLsbD 4 = true ↔ s.inhibitPin = true ∨ s.mc.inhibitFlag = true) ∧
       ∀ k, 5 ≤ k → status.getLsbD k = false)

/-! ### Modes and fields (R156, R168, R170) -/

/-- A request refused for its mode or its fields changes nothing but Host Link. In START and FAILED every request of kinds 1 to 29
but IDENTIFY and GET_STATUS is refused with WRONG_MODE, and so are REPORT in HOLD and SET_TIMEBASE, SELF_TEST and INJECT in RUN.
The mode is judged before the fields (log 7): where it is good, the first failing field is answered BAD_FIELD at its offset; a slot
above 47, a segment number above 39, an id above 15, a mode, profile or inhibit code above 1, a notice number outside 1 to 8 fail
at offset 0; the fields of DEFINE_SENSOR fail in the order slot, address (0 or 16777215), phases, latency (R2, R5, R21, R33, R37, R149, R156, R160, R163,
R170). -/
def Obligations.ModeAndFieldRefusals : Prop :=
  (∀ (i : Instr) (r : Request) (s : State), requestOf i = some r → takesNow r s = true →
     (((s.mc.mode = .start ∨ s.mc.mode = .failed) ∧ requestKind r ∉ [0, 1, 2, 30, 31]) ∨
       (s.mc.mode = .hold ∧ requestKind r = 25) ∨ (s.mc.mode = .run ∧ requestKind r ∈ [5, 6, 29])) →
     exec i s = .next (answered (requestKind r) (refuse .wrongMode) s)) ∧
  (∀ (b : Byte) (i : Instr) (r : Request) (s : State), requestOf i = some r → takesNow r s = true → inService s = true →
     ((47 < b.toNat ∧ i ∈ [.retireSensor b, .querySensor b]) ∨
       (39 < b.toNat ∧ i ∈ [.removeSegment b, .querySegment b, .releaseSegment b, .restoreSegment b]) ∨
       (15 < b.toNat ∧ i ∈ [.removeInterrupter b, .queryInterrupter b, .ackTrip b]) ∨
       (1 < b.toNat ∧ i ∈ [.setMode b, .setProfile b, .setInhibit b]) ∨
       ((b = 0 ∨ 8 < b.toNat) ∧ i = .fetchNotices b)) →
     exec i s = .next (answered (requestKind r) (badField 0) s)) ∧
  ((∀ (i : Instr) (r : Request) (k : Nat) (s : State), requestOf i = some r → takesNow r s = true →
     takenIn (requestKind r) s.mc.mode = true → fieldFault r = some k → exec i s = .next (answered (requestKind r) (badField k) s)) ∧
   ∀ (slot phases latency : Byte) (address : FieldAddress), fieldFault (.defineSensor slot address phases latency) =
     if 47 < slot.toNat then some 0
     else if address = 0 ∨ address = 0xFFFFFF then some 1
     else if phases = 0 ∨ 7 < phases.toNat then some 4
     else if 7 < latency.toNat then some 5
     else none)

/-- A delayed request that arrives while a pass is in flight is held, executing and unanswered; one that finds a request waiting
for the pass waits behind it; one that finds both places full is discarded: LINK_OVERRUN rises, RX_OVERRUN_SEEN is latched, the
overrun flag is set (R77, R168). -/
def Obligations.RequestBufferHoldsTwo : Prop :=
  (∀ (i : Instr) (r : Request) (s : State), requestOf i = some r →
     (requestKind r).toNat ∈ [3, 4, 7, 8, 10, 11, 13, 14, 16, 17, 18, 19, 29] →
     ready s = true → s.pass.isSome = true →
     exec i s = .next { s with hl := { s.hl with rx := .waitAddress, requests := [r] } }) ∧
  (∀ (i : Instr) (r p : Request) (s : State), requestOf i = some r → lineIdle s = true →
     s.pass.isSome = true → isDelayed p = true →
     (s.hl.requests = [p] → exec i s = .next { s with hl := { s.hl with rx := .waitAddress, requests := [p, r] } }) ∧
     (∀ q, s.hl.requests = [p, q] → ∃ t, exec i s = .next t ∧
       t = { s with hl := { s.hl with rx := .waitAddress, overrun := true }, cb := t.cb } ∧
       (∀ c, t.cb.counts.get c = if c = .linkOverrun then min (s.cb.counts.get c + 1) 65535 else s.cb.counts.get c) ∧
       (∀ c, t.cb.conds.get c = (c == .rxOverrunSeen || s.cb.conds.get c)) ∧
       (∀ c, t.cb.raised.get c = ((c == .rxOverrunSeen && s.cb.snapshot.isSome) || s.cb.raised.get c)) ∧
       t.cb.snapshot = s.cb.snapshot ∧ t.cb.token = s.cb.token))

/-! ### Part modes (R104, R158 to R160) -/

/-- SET_MODE RUN in HOLD: refused with NOT_READY while no segment is defined outside QUARANTINED; otherwise the mode becomes
RUN, the run-entered mark is set and the ring starts empty, and at the first entry since a hard reset every ACTIVE and STALE
sensor is unseeded; in RUN it changes nothing. That the NOT_READY check reads no record, so that a segment whose record holds a
double error still counts as defined, is the model's choice (log 11); the refusal and the entry after the first are stated for
such records too (R54, R66, R158). -/
def Obligations.SetModeRunEntersRun : Prop :=
  ∀ s : State, ready s = true → s.pass = none →
    (s.mc.mode = .run → exec (.setMode 1) s = .next (answered 3 (okWith []) s)) ∧
    (s.mc.mode = .hold → (∀ n < 40, segmentAt s n = none) →
      exec (.setMode 1) s = .next (answered 3 (refuse .notReady) s)) ∧
    (s.mc.mode = .hold → (∃ n < 40, (segmentAt s n).isSome = true) → s.mc.runEntered = true →
      exec (.setMode 1) s =
        .next (answered 3 (okWith []) { s with ring := [], mc := { s.mc with mode := .run, runEntered := true } })) ∧
    (s.mc.mode = .hold → (∃ n < 40, (segmentAt s n).isSome = true) → s.mc.runEntered = false → clean s = true →
      ∃ tab, exec (.setMode 1) s = .next (answered 3 (okWith []) { s with
          sensors := tab, ring := [], mc := { s.mc with mode := .run, runEntered := true } }) ∧
        (∀ d r, d < 48 → sensorAt s d = some r →
          rowAt tab d = some (.live { r with learn := 0, residualBase := 0, currentBase := ⟨0, 0, 0⟩ })) ∧
        ∀ d, 48 ≤ d ∨ sensorAt s d = none → rowAt tab d = rowAt s.sensors d)

/-- SET_MODE HOLD in RUN: refused with STATE_CONFLICT, naming the lowest TRIPPING interrupter, while one is TRIPPING;
otherwise the mode becomes HOLD, the ring is emptied and each segment is acted on by its state; an urgency source that ends
with it starts the tail; in HOLD it changes nothing (R54, R104, R148, R158). -/
def Obligations.SetModeHoldEntersHold : Prop :=
  ∀ s : State, ready s = true → s.pass = none → clean s = true →
    (s.mc.mode = .hold → exec (.setMode 0) s = .next (answered 3 (okWith []) s)) ∧
    (∀ x < 16, s.mc.mode = .run → isTripping s x = true → (∀ y < x, isTripping s y = false) →
      exec (.setMode 0) s = .next (answered 3 (refuseNaming .stateConflict .interrupter x) s)) ∧
    (s.mc.mode = .run → (∀ x < 16, isTripping s x = false) →
      ∃ t, exec (.setMode 0) s = .next (answered 3 (okWith []) t) ∧
        t = { s with segments := t.segments, ring := [], mc := { s.mc with mode := .hold }
                     nq := { s.nq with tail := if urgencySource s && !urgencySource t then s.params.maintTail else s.nq.tail } } ∧
        (∀ n, 40 ≤ n ∨ segmentAt s n = none → rowAt t.segments n = rowAt s.segments n) ∧
        ∀ n r, n < 40 → segmentAt s n = some r →
          (r.state = .suspect → rowAt t.segments n = some (.live { r with
            state := .normal, suspect := none, openCount := 0, contactCount := 0, deadline := none,
            deadlinePassed := false, leakRing := [] })) ∧
          (r.state = .deenergized ∨ r.state = .settling →
            rowAt t.segments n = some (.live { r with state := .normal, settle := 0, leakRing := [] })) ∧
          (r.state = .normal → rowAt t.segments n = some (.live { r with leakRing := [] })) ∧
          (r.state = .isolating ∨ r.state = .isolated ∨ r.state = .withheld ∨ r.state = .isolationFailed →
            rowAt t.segments n = some (.live r)))

/-- RESTART is answered OK with the state as it stands, then clears the working state of every block and enters HOLD, keeping
tables, settings, timebase, counts, channels and running pulses. A request that waits behind it, here while the reply buffer is
full, is discarded with no reply and no count (R25, R26, R36, R54, R119, R145, R151, R155, R159, R171). -/
def Obligations.RestartClearsWorkingState : Prop :=
  (∀ s : State, ready s = true → s.pass = none → inService s = true → clean s = true →
    ∃ a b c, exec .restart s = .next { answered 4 (okWith []) s with
        sensors := a, segments := b, interrupters := c, ring := []
        nq := { s.nq with queue := [], tail := 0 }
        cb := { s.cb with snapshot := none, raised := .clear }
        tm := { s.tm with pendingCorrections := 0, firstBank := none }
        mc := { s.mc with mode := .hold } } ∧
      (∀ d r, d < 48 → sensorAt s d = some r → rowAt a d = some (.live { r with
        status := .active, seen := false, missingRun := 0, last := none, residualBase := 0, currentBase := ⟨0, 0, 0⟩,
        learn := 0, surge := ⟨none, none, none⟩ })) ∧
      (∀ d, 48 ≤ d ∨ sensorAt s d = none → rowAt a d = rowAt s.sensors d) ∧
      (∀ n r, n < 40 → segmentAt s n = some r → ∃ e, rowAt b n = some (.live { r with
          state := .normal, verdict := none, settle := 0, openCount := 0, contactCount := 0, deadline := none,
          deadlinePassed := false, operated := noPhases, leakRing := [], suspect := none, excluded := e }) ∧
        ∀ d, d ∈ e ↔ d ∈ r.up :: r.down ∧ rowAt s.sensors d = some .quarantined) ∧
      (∀ n, 40 ≤ n ∨ segmentAt s n = none → rowAt b n = rowAt s.segments n) ∧
      (∀ x r, x < 16 → interrupterAt s x = some r → rowAt c x = some (.live { r with
        state := if r.state = .tripping then .unknown else r.state, waiters := [], confirm := none,
        armed := if r.outstanding then r.saved else r.armed, outstanding := false })) ∧
      ∀ x, 16 ≤ x ∨ interrupterAt s x = none → rowAt c x = rowAt s.interrupters x) ∧
  ∀ (q : Request) (x y : Reply) (s : State), s.hl.requests = [.restart, q] → s.hl.sending = true →
    s.hl.replies = [x, y] → x.resetAfter = false → y.resetAfter = false → s.pass = none → inService s = true → clean s = true →
    ∃ t z, exec .replySent s = .next t ∧ z.kind = 36 ∧ z.payload.take 2 = [0, 0] ∧ z.resetAfter = false ∧
      t.hl = { s.hl with
        rx := if s.hl.rx = .skipping then .waitAddress else s.hl.rx
        requests := [], replies := [y, z], sending := false, overrun := false, badCheckNext := false } ∧
      t.cb.counts = s.cb.counts ∧ t.cb.conds = s.cb.conds ∧ t.mc = { s.mc with mode := .hold } ∧ t.ring = [] ∧ t.nq.queue = []

/-- SELF_TEST in HOLD is answered OK; a request that arrives before the reply has left the line is held and not taken (log 18);
when the reply's last character ends, every block takes its hard-reset values with the straps as they then stand, a free value,
and step 6 runs (R160, R165; log 18). Clock, INHIBIT input and queue are kept, and the tables stand, their timers stopped, until step 1
empties them (R54; log 16). -/
def Obligations.SelfTestResetsAfterReply : Prop :=
  (∀ s : State, ready s = true → s.mc.mode = .hold →
    exec .selfTest s = .next (answered 5 { okWith [] with follow := .hardReset } s)) ∧
  (∀ (i : Instr) (r : Request) (s : State), requestOf i = some r → lineIdle s = true → s.hl.requests = [] →
    s.hl.replies.any (·.resetAfter) = true →
    exec i s = .next { s with hl := { s.hl with rx := .waitAddress, requests := [r] } }) ∧
  ∀ (r : Reply) (rest : List Reply) (s : State), s.hl.sending = true → s.hl.replies = r :: rest → r.resetAfter = true →
    let straps := Config.strapsAt s.strapReads
    ∃ b c, exec .replySent s = .next { State.reset with
        pending := s.pending, now := s.now, inhibitPin := s.inhibitPin, stnPins := straps.1, baudPins := straps.2
        strapReads := s.strapReads + 1, hl := .reset straps.1 straps.2, mc := { ModeControl.reset with selfTest := .running .six }
        sensors := s.sensors, index := s.index, segments := b, interrupters := c } ∧
      (∀ n, rowAt b n = match rowAt s.segments n with
        | some (.live g) => some (.live { g with deadline := none })
        | other => other) ∧
      ∀ x, rowAt c x = match rowAt s.interrupters x with
        | some (.live g) => some (.live { g with confirm := none })
        | other => other

/-! ### Settings (R33, R62, R105, R106, R140, R143) -/

/-- SET_PROFILE selects the profile named and changes nothing else. SET_INHIBIT writes the inhibit flag and answers the flag, the
INHIBIT input and the effective inhibit, which is set while either is; a change of the input changes it alone (R105, R140). -/
def Obligations.ProfileAndInhibitFollowTheirRequests : Prop :=
  (∀ s : State, ready s = true → s.pass = none → inService s = true →
     exec (.setProfile 0) s = .next (answered 7 (okWith []) { s with mc := { s.mc with profile := .normal } }) ∧
     exec (.setProfile 1) s = .next (answered 7 (okWith []) { s with mc := { s.mc with profile := .elevated } })) ∧
  ((∀ s : State, ready s = true → inService s = true →
     exec (.setInhibit 1) s =
       .next (answered 9 (okWith [1, if s.inhibitPin then 1 else 0, 1]) { s with mc := { s.mc with inhibitFlag := true } }) ∧
     exec (.setInhibit 0) s =
       .next (answered 9 (okWith [0, if s.inhibitPin then 1 else 0, if s.inhibitPin then 1 else 0])
         { s with mc := { s.mc with inhibitFlag := false } })) ∧
   (∀ (b : Bool) (s : State), noneHeld s = true → exec (.inhibitInputChange b) s = .next { s with inhibitPin := b }) ∧
   ∀ s : State, effectiveInhibit s = (s.inhibitPin || s.mc.inhibitFlag))

/-- SET_PARAMS whose pairs all pass writes every named parameter, MAINT_TAIL from 16 to 255 as 15, leaves every other one, and
with BASE_SHIFT kept changes nothing else (R106). -/
def Obligations.SetParamsWritesTheNamedParameters : Prop :=
  ∀ (pairs : List ParamPair) (s : State), ready s = true → s.pass = none → inService s = true →
    fieldFault (.setParams pairs) = none →
    ∃ x : Params,
      (∀ q ∈ pairs, ∀ p, paramOf q.id = some p → getParam x p = writtenValue p q.value.toNat) ∧
      (∀ p, (∀ q ∈ pairs, paramOf q.id ≠ some p) → getParam x p = getParam s.params p) ∧
      (x.baseShift = s.params.baseShift →
        exec (.setParams pairs) s = .next (answered 8 (okWith []) { s with params := x }))

/-- A SET_PARAMS that changes BASE_SHIFT from k to j, alone or among other pairs, writes every named parameter and leaves every
other one, and adjusts every learn count: a seeded sensor stays seeded, a count that reaches 2^j becomes it, any other stays, and
baselines stay. Each sensor that so becomes seeded raises BASELINE_READY, in ascending slot (R62, R106). -/
def Obligations.BaseShiftChangeAdjustsLearnCounts : Prop :=
  ∀ (pairs : List ParamPair) (x : ParamPair) (s : State), ready s = true → s.pass = none → inService s = true → clean s = true →
    fieldFault (.setParams pairs) = none → x ∈ pairs → x.id = 34 → x.value.toNat ≠ s.params.baseShift →
    let k := s.params.baseShift
    let j := x.value.toNat
    let seeds (r : SensorRec) : Prop := r.learn ≠ 2 ^ k ∧ 2 ^ j ≤ r.learn
    ∃ t, exec (.setParams pairs) s = .next (answered 8 (okWith []) t) ∧
      t = { s with params := t.params, sensors := t.sensors, nq := t.nq, cb := t.cb } ∧
      (∀ q ∈ pairs, ∀ p, paramOf q.id = some p → getParam t.params p = writtenValue p q.value.toNat) ∧
      (∀ p, (∀ q ∈ pairs, paramOf q.id ≠ some p) → getParam t.params p = getParam s.params p) ∧
      (∀ d r, d < 48 → sensorAt s d = some r →
        rowAt t.sensors d = some (.live { r with learn := if r.learn = 2 ^ k ∨ 2 ^ j ≤ r.learn then 2 ^ j else r.learn })) ∧
      (∀ d, 48 ≤ d ∨ sensorAt s d = none → rowAt t.sensors d = rowAt s.sensors d) ∧
      ((∀ d r, d < 48 → sensorAt s d = some r → ¬ seeds r) → t.nq = s.nq ∧ t.cb = s.cb) ∧
      ∀ (ds : List Nat) (base : Nat → Nat), ds.Pairwise (· < ·) →
        (∀ d, d ∈ ds ↔ d < 48 ∧ ∃ r, sensorAt s d = some r ∧ seeds r) →
        (∀ d r, d ∈ ds → sensorAt s d = some r → base d = r.residualBase) → s.nq.queue.length + ds.length ≤ 32 →
        t.cb = s.cb ∧ t.nq = { s.nq with
          queue := s.nq.queue ++ ds.mapIdx fun i d => ⟨s.nq.seq + BitVec.ofNat 16 i, s.ft.frame, .baselineReady d (base d)⟩
          seq := s.nq.seq + BitVec.ofNat 16 ds.length }

/-- CONFIG_TRIP_OUTPUTS of one to four entries. Its fields are good exactly when there are one to four, each channel 0 to 3 and named
once, each width 1 to 500, each code 0 or 1. Then it is refused with NO_SLOT naming the first entry's channel that is failed, with
ARMED_LOCK while a LOCAL interrupter is armed or a pulse runs, naming the lowest; otherwise each named channel takes its width,
polarity and drive, and nothing else changes (R143). -/
def Obligations.ConfigTripOutputsLocksAndWrites : Prop :=
  (∀ entries : List ChannelEntry, fieldFault (.configTripOutputs entries) = none ↔
    1 ≤ entries.length ∧ entries.length ≤ 4 ∧ (entries.map (·.channel)).Nodup ∧
      ∀ e ∈ entries, e.channel.toNat ≤ 3 ∧ 1 ≤ e.width.toNat ∧ e.width.toNat ≤ 500 ∧ e.polarity.toNat ≤ 1 ∧ e.drive.toNat ≤ 1) ∧
  ∀ (entries : List ChannelEntry) (s : State), ready s = true → inService s = true → clean s = true →
    fieldFault (.configTripOutputs entries) = none →
    let cmd := Instr.configTripOutputs entries
    let failed (e : ChannelEntry) : Prop := ∃ k : Fin 4, e.channel.toNat = k.val ∧ (s.channels.get k).failed = true
    (∀ before e after, entries = before ++ e :: after → (∀ x ∈ before, ¬ failed x) → failed e →
      exec cmd s = .next (answered 24 (refuseNaming .noSlot .channel e.channel.toNat) s)) ∧
    (∀ x r, (∀ e ∈ entries, ¬ failed e) → x < 16 → interrupterAt s x = some r → r.armed = true →
      r.kind ≠ .remote → (∀ y < x, ∀ q, interrupterAt s y = some q → q.armed = false ∨ q.kind = .remote) →
      exec cmd s = .next (answered 24 (refuseNaming .armedLock .interrupter x) s)) ∧
    ((∀ e ∈ entries, ¬ failed e) →
      (∀ x r, x < 16 → interrupterAt s x = some r → r.armed = false ∨ r.kind = .remote) →
      (∀ k : Fin 4, (s.channels.get k).pulse.isSome = true → (∀ j < k, (s.channels.get j).pulse = none) →
        exec cmd s = .next (answered 24 (refuseNaming .armedLock .channel k.val) s)) ∧
      ((∀ k, (s.channels.get k).pulse = none) →
        ∃ c, exec cmd s = .next (answered 24 (okWith []) { s with channels := c }) ∧
          (∀ e ∈ entries, ∀ k : Fin 4, e.channel.toNat = k.val → c.get k = { s.channels.get k with
            width := e.width.toNat
            polarity := if e.polarity = 0 then .high else .low
            drive := if e.drive = 0 then .pushPull else .openDrain }) ∧
          ∀ k : Fin 4, (∀ e ∈ entries, e.channel.toNat ≠ k.val) → c.get k = s.channels.get k))

/-! ### Timebase (R27 to R33) -/

/-- SET_TIMEBASE in HOLD: with both values as in force the timebase is kept; with either changed it restarts in UNLOCKED or
INTERNAL with the edge history emptied and the next frame start one period after the request, and a change of state raises
TIMEBASE with cause HOST_SET. A next frame number, with the values kept or changed, becomes the override, which the next frame
start takes, and every last surge frame becomes absent. An internal start overdue at a restart is dropped by log 40 (R32, R33, R35). -/
def Obligations.SetTimebaseRestartsAndRenumbers : Prop :=
  (∀ (period : Half) (enable : Bool) (s : State), ready s = true → s.mc.mode = .hold →
     20 ≤ period.toNat → period.toNat ≤ 250 →
     let cmd := Instr.setTimebase period (if enable then 1 else 0) 0 0
     let new := if enable then TimebaseState.unlocked else .internal
     let ft := { s.ft with
       period := period.toNat, syncEnable := enable, state := new, prevEdge := none, run := 0, lastInternal := none
       expected := some (s.now + period.toNat * 1000) }
     (period.toNat = s.ft.period → enable = s.ft.syncEnable → exec cmd s = .next (answered 6 (okWith []) s)) ∧
     (period.toNat ≠ s.ft.period ∨ enable ≠ s.ft.syncEnable → s.ft.state = new →
       exec cmd s = .next (answered 6 (okWith []) { s with ft })) ∧
     (period.toNat ≠ s.ft.period ∨ enable ≠ s.ft.syncEnable → s.ft.state ≠ new → s.nq.queue.length < 32 →
       exec cmd s = .next (answered 6 (okWith []) { s with
         ft, nq := { s.nq with
           queue := s.nq.queue ++ [⟨s.nq.seq, s.ft.frame, .timebase s.ft.state new .hostSet⟩], seq := s.nq.seq + 1 } }))) ∧
  (∀ (period next : Half) (enable : Bool) (s : State), ready s = true → s.mc.mode = .hold → clean s = true →
     20 ≤ period.toNat → period.toNat ≤ 250 →
     let new := if enable then TimebaseState.unlocked else .internal
     let renumbered (t : State) : Prop := ∃ tab,
       exec (.setTimebase period (if enable then 1 else 0) 1 next) s =
         .next (answered 6 (okWith []) { t with sensors := tab, ft := { t.ft with override := some next } }) ∧
       (∀ d r, d < 48 → sensorAt s d = some r → rowAt tab d = some (.live { r with surge := ⟨none, none, none⟩ })) ∧
       ∀ d, 48 ≤ d ∨ sensorAt s d = none → rowAt tab d = rowAt s.sensors d
     (period.toNat = s.ft.period → enable = s.ft.syncEnable → renumbered s) ∧
     (period.toNat ≠ s.ft.period ∨ enable ≠ s.ft.syncEnable → s.ft.state = new ∨ s.nq.queue.length < 32 →
       renumbered { s with
         ft := { s.ft with
           period := period.toNat, syncEnable := enable, state := new, prevEdge := none, run := 0, lastInternal := none
           expected := some (s.now + period.toNat * 1000) }
         nq := if s.ft.state = new then s.nq else { s.nq with
           queue := s.nq.queue ++ [⟨s.nq.seq, s.ft.frame, .timebase s.ft.state new .hostSet⟩], seq := s.nq.seq + 1 } })) ∧
  ∀ t : State, (stepFrameNumber t).ft.frame = match t.ft.override with
    | some n => n
    | none => t.ft.frame + 1

/-- INTERNAL_FRAME_START in HOLD: the clock stands at the expected moment or later (log 4), the frame number steps (from the
override when one is set), the next start is expected one FRAME_PERIOD later, and a tail falls by 1 while the urgency source
does not hold; with no expected start, in LOCKED, START or FAILED nothing happens (R27, R28, R32, R148). -/
def Obligations.InternalFrameStartInHold : Prop :=
  ∀ s : State, noneHeld s = true →
    (∀ e, s.mc.mode = .hold → s.ft.expected = some e → s.ft.state ≠ .locked →
      exec .internalFrameStart s = .next { s with
        now := max s.now e
        ft := { s.ft with
          frame := s.ft.override.getD (s.ft.frame + 1), override := none, lastInternal := some e
          expected := some (e + s.ft.period * 1000) }
        nq := { s.nq with tail := if urgencySource s then s.nq.tail else s.nq.tail - 1 } }) ∧
    (s.ft.expected = none ∨ s.ft.state = .locked ∨ s.mc.mode = .start ∨ s.mc.mode = .failed →
      exec .internalFrameStart s = .next s)

/-- In LOCKED, in HOLD and RUN, a SYNC edge from E − T to E + T is good: a frame start, and the next is expected one FRAME_PERIOD
after the edge; any other edge adds 1 to SYNC_MISSED and does nothing else; in INTERNAL, START and FAILED an edge does nothing (in
START and FAILED by log 19). EDGE_WINDOW_CLOSE: a frame start at E + T, the next expected at E + FRAME_PERIOD, state FREEWHEEL with
the edge history empty, SYNC_MISSED rises, SYNC_LOST_SEEN is latched, TIMEBASE with cause SYNC_LOST. In HOLD a frame start leaves
the ring and pass; in RUN, with fewer than eight frames held, it opens its frame, tests the OPEN ones and closes a CLOSABLE oldest
one with no pass in flight (`frameOpened`; eight held: FullRingDropsOldest). EDGE_HISTORY_TIMEOUT empties the edge history, at
p + FRAME_PERIOD + T at the earliest. An edge past E + T before EDGE_WINDOW_CLOSE is log 36, the clock at each event log 4, and that
a frame start reads no record log 22 (R28, R29, R30, R31, R35, R45, R48, R49). -/
def Obligations.LockedWindowAndItsLoss : Prop :=
  (∀ (e t : Nat) (s : State), noneHeld s = true → s.now ≤ t →
     (s.mc.mode = .hold ∨ s.mc.mode = .run ∧ s.ring.length < 8 → s.ft.state = .locked → s.ft.expected = some e →
       e ≤ t + s.ft.period * 125 → t ≤ e + s.ft.period * 125 →
       let f := s.ft.override.getD (s.ft.frame + 1)
       ∃ u, exec (.syncEdge t) s = .next u ∧
         u = { s with
           now := t
           ft := { s.ft with frame := f, override := none, expected := some (t + s.ft.period * 1000) }
           nq := { s.nq with tail := if urgencySource s then s.nq.tail else s.nq.tail - 1 }
           ring := u.ring, pass := u.pass } ∧
         (s.mc.mode = .hold → u.ring = s.ring ∧ u.pass = s.pass) ∧ (s.mc.mode = .run → frameOpened s u f)) ∧
     (inService s = true → s.ft.state = .locked → s.ft.expected = some e →
       t + s.ft.period * 125 < e ∨ e + s.ft.period * 125 < t →
       ∃ c, exec (.syncEdge t) s = .next { s with now := t, cb := { s.cb with counts := c } } ∧
         ∀ d, c.get d = if d = .syncMissed then min (s.cb.counts.get d + 1) 65535 else s.cb.counts.get d) ∧
     (s.ft.state = .internal ∨ s.mc.mode = .start ∨ s.mc.mode = .failed →
       exec (.syncEdge t) s = .next { s with now := t })) ∧
  ((∀ (e : Nat) (s : State), noneHeld s = true → s.mc.mode = .hold ∨ s.mc.mode = .run ∧ s.ring.length < 8 →
     s.ft.state = .locked → s.ft.expected = some e → s.nq.queue.length < 32 →
     let f := s.ft.override.getD (s.ft.frame + 1)
     ∃ u c, exec .edgeWindowClose s = .next u ∧ u = { s with
         now := max s.now (e + s.ft.period * 125), cb := c, ring := u.ring, pass := u.pass
         ft := { s.ft with
           state := .freewheel, frame := f, override := none, lastInternal := none, prevEdge := none, run := 0
           expected := some (e + s.ft.period * 1000) }
         nq := { s.nq with
           queue := s.nq.queue ++ [⟨s.nq.seq, f, .timebase .locked .freewheel .syncLost⟩], seq := s.nq.seq + 1
           tail := if urgencySource s then s.nq.tail else s.nq.tail - 1 } } ∧
       (s.mc.mode = .hold → u.ring = s.ring ∧ u.pass = s.pass) ∧ (s.mc.mode = .run → frameOpened s u f) ∧
       (∀ d, c.counts.get d = if d = .syncMissed then min (s.cb.counts.get d + 1) 65535 else s.cb.counts.get d) ∧
       (∀ d, c.conds.get d = (d == .syncLostSeen || s.cb.conds.get d)) ∧
       (∀ d, c.raised.get d = ((d == .syncLostSeen && s.cb.snapshot.isSome) || s.cb.raised.get d)) ∧
       c.snapshot = s.cb.snapshot ∧ c.token = s.cb.token) ∧
   ∀ (p : Nat) (s : State), noneHeld s = true → s.ft.state = .unlocked ∨ s.ft.state = .freewheel → s.ft.prevEdge = some p →
     exec .edgeHistoryTimeout s = .next { s with
       now := max s.now (p + s.ft.period * 1125), ft := { s.ft with prevEdge := none, run := 0 } })

/-- In UNLOCKED and FREEWHEEL an edge with no previous one, or one that comes less than FRAME_PERIOD − T after it, begins a run
of 1 (so does one that comes more than FRAME_PERIOD + T after it: log 20); one within T of FRAME_PERIOD after it makes the run
one longer, and the fourth of a run locks: a frame start, unless an internal one came less than T before the edge, the next one
expected one FRAME_PERIOD after the edge, the history emptied, and TIMEBASE with cause LOCK_ACQUIRED. In RUN, with fewer than eight
frames held, that frame start opens its frame in the ring; in HOLD, and where the internal one stands, ring and pass stay. An
internal start overdue at the lock is dropped by log 40; that a frame start reads no record is log 22 (R29, R35, R45, R48, R49). -/
def Obligations.EdgesAcquireLock : Prop :=
  ∀ (t : Nat) (s : State), noneHeld s = true → s.now ≤ t → s.ft.state = .unlocked ∨ s.ft.state = .freewheel →
    let T := s.ft.period * 125
    let begun := exec (.syncEdge t) s = .next { s with now := t, ft := { s.ft with prevEdge := some t, run := 1 } }
    (inService s = true → s.ft.prevEdge = none → begun) ∧
    ∀ p, s.ft.prevEdge = some p →
      (inService s = true → t + T < p + s.ft.period * 1000 ∨ p + s.ft.period * 1000 + T < t → begun) ∧
      (p + s.ft.period * 1000 ≤ t + T → t ≤ p + s.ft.period * 1000 + T →
        (inService s = true → s.ft.run < 3 →
          exec (.syncEdge t) s = .next { s with now := t, ft := { s.ft with prevEdge := some t, run := s.ft.run + 1 } }) ∧
        (let stands := match s.ft.lastInternal with
            | some l => l ≤ t ∧ t < l + T
            | none => False
          s.mc.mode = .hold ∨ s.mc.mode = .run ∧ (stands ∨ s.ring.length < 8) → 3 ≤ s.ft.run → s.nq.queue.length < 32 →
          ∃ f, (stands → f = s.ft.frame) ∧ (¬ stands → f = s.ft.override.getD (s.ft.frame + 1)) ∧
            ∃ o k, (stands → o = s.ft.override ∧ k = s.nq.tail) ∧
              (¬ stands → o = none ∧ k = if urgencySource s then s.nq.tail else s.nq.tail - 1) ∧
              ∃ u, exec (.syncEdge t) s = .next u ∧
                u = { s with
                  now := t
                  ft := { s.ft with
                    state := .locked, frame := f, override := o, prevEdge := none, run := 0
                    expected := some (t + s.ft.period * 1000) }
                  nq := { s.nq with
                    queue := s.nq.queue ++ [⟨s.nq.seq, f, .timebase s.ft.state .locked .lockAcquired⟩]
                    seq := s.nq.seq + 1, tail := k }
                  ring := u.ring, pass := u.pass } ∧
                (stands ∨ s.mc.mode = .hold → u.ring = s.ring ∧ u.pass = s.pass) ∧
                (¬ stands → s.mc.mode = .run → frameOpened s u f)))

/-! ### The ring (R44 to R49) -/

/-- A frame start in RUN with fewer than eight frames held opens the frame of the new number with every ACTIVE and STALE sensor
expected, tests every OPEN frame for closing, and, with no pass in flight, closes a CLOSABLE oldest frame, for which a pass
begins at stage 1 (`frameOpened`). An OPEN frame becomes CLOSABLE when it is complete or its age is at least its hold: the larger
of MIN_HOLD and the largest latency class among its awaited sensors. The clock at the event is log 4; that none of this reads a
record is log 22 (R45, R47, R48, R49, R68, R75). -/
def Obligations.FrameStartInRunOpensAndTests : Prop :=
  (∀ (e : Nat) (s : State), noneHeld s = true → s.mc.mode = .run → s.ft.expected = some e → s.ft.state ≠ .locked →
     s.ring.length < 8 →
     let c := s.ft.override.getD (s.ft.frame + 1)
     ∃ t, exec .internalFrameStart s = .next t ∧ frameOpened s t c ∧
       t = { s with
         now := max s.now e
         ft := { s.ft with
           frame := c, override := none, lastInternal := some e, expected := some (e + s.ft.period * 1000) }
         nq := { s.nq with tail := if urgencySource s then s.nq.tail else s.nq.tail - 1 }
         ring := t.ring, pass := t.pass }) ∧
  (∀ (f : Frame) (s : State), f.cond = .opened →
     let awaits (d : Nat) : Prop := d ∈ f.expected ∧ rowAt f.reports d = none
     ((testFrame s f).cond = .closable ↔
       (∀ d, ¬ awaits d) ∨
       ((s.params.minHold : Int) ≤ frameDiff s.ft.frame f.number ∧
         ∀ d r, awaits d → sensorAt s d = some r → (r.latency : Int) ≤ frameDiff s.ft.frame f.number)) ∧
     testFrame s f = { f with cond := (testFrame s f).cond })

/-- A frame start that finds eight frames, whichever event makes it (an internal one, a good edge in LOCKED, the close of the edge
window, or the edge that locks with no internal start standing for it): the oldest frame is discarded, FRAME_DROPPED rises, the
notice carries its number, how many reports it held and whether its pass is abandoned, and that pass is gone; then the frame start
goes on as on a ring with a place free (`frameOpened`) and the event ends as it does elsewhere, a TIMEBASE notice after
FRAME_DROPPED. The clock at the event is log 4, an internal start overdue at the lock log 40, and no record is read for it (log 22)
(R28, R29, R30, R31, R32, R35, R45, R46, R148, R152). -/
def Obligations.FullRingDropsOldest : Prop :=
  ∀ (i : Instr) (now : Nat) (ft : Timebase) (more : List NoticeBody) (lost : Bool) (f : Frame) (rest : List Frame) (s : State),
    noneHeld s = true → s.mc.mode = .run → s.ring = f :: rest → rest.length = 7 →
    s.nq.queue.length + 1 + more.length ≤ 32 →
    let c := s.ft.override.getD (s.ft.frame + 1)
    let T := s.ft.period * 125
    let stepped : Timebase := { s.ft with frame := c, override := none }
    (∃ e, i = .internalFrameStart ∧ s.ft.state ≠ .locked ∧ s.ft.expected = some e ∧ now = max s.now e ∧
        ft = { stepped with lastInternal := some e, expected := some (e + s.ft.period * 1000) } ∧ more = [] ∧ lost = false) ∨
      (∃ e t, i = .syncEdge t ∧ s.ft.state = .locked ∧ s.ft.expected = some e ∧ s.now ≤ t ∧ e ≤ t + T ∧ t ≤ e + T ∧ now = t ∧
        ft = { stepped with expected := some (t + s.ft.period * 1000) } ∧ more = [] ∧ lost = false) ∨
      (∃ e, i = .edgeWindowClose ∧ s.ft.state = .locked ∧ s.ft.expected = some e ∧ now = max s.now (e + T) ∧
        ft = { stepped with
          state := .freewheel, lastInternal := none, prevEdge := none, run := 0, expected := some (e + s.ft.period * 1000) } ∧
        more = [.timebase .locked .freewheel .syncLost] ∧ lost = true) ∨
      (∃ p t, i = .syncEdge t ∧ (s.ft.state = .unlocked ∨ s.ft.state = .freewheel) ∧ s.ft.prevEdge = some p ∧ 3 ≤ s.ft.run ∧
        s.now ≤ t ∧ p + s.ft.period * 1000 ≤ t + T ∧ t ≤ p + s.ft.period * 1000 + T ∧
        (∀ l, s.ft.lastInternal = some l → t < l ∨ l + T ≤ t) ∧ now = t ∧
        ft = { stepped with state := .locked, prevEdge := none, run := 0, expected := some (t + s.ft.period * 1000) } ∧
        more = [.timebase s.ft.state .locked .lockAcquired] ∧ lost = false) →
    ∃ t, exec i s = .next t ∧
      frameOpened { s with ring := rest, pass := if f.cond = .evaluating then none else s.pass } t c ∧
      t = { s with
        now, ft, ring := t.ring, pass := t.pass, cb := { s.cb with counts := t.cb.counts, conds := t.cb.conds, raised := t.cb.raised }
        nq := {
          queue := s.nq.queue ++ ⟨s.nq.seq, f.number, .frameDropped f.reports.length (f.cond == .evaluating)⟩ ::
            more.map (⟨s.nq.seq + 1, c, ·⟩)
          seq := s.nq.seq + 1 + BitVec.ofNat 16 more.length
          tail := if urgencySource s then s.nq.tail else s.nq.tail - 1 } } ∧
      (∀ d, t.cb.counts.get d = if d = .frameDropped ∨ (lost = true ∧ d = .syncMissed)
        then min (s.cb.counts.get d + 1) 65535 else s.cb.counts.get d) ∧
      (∀ d, t.cb.conds.get d = ((lost && d == .syncLostSeen) || s.cb.conds.get d)) ∧
      ∀ d, t.cb.raised.get d = ((lost && d == .syncLostSeen && s.cb.snapshot.isSome) || s.cb.raised.get d)

/-! ### The line (R163, R165 to R169) -/

/-- Decoding the payload of a well-formed request under its kind gives that request back (R166, R172 and section 11.2). -/
def Obligations.RequestPayloadsDecode : Prop :=
  ∀ r : Request, requestWellFormed r = true →
    decodeRequest (requestKind r) (encodePayload r) = some r ∧ (encodePayload r).length ≤ 240

/-- A well-formed request command is the arrival of the message that carries it to this station: its address character, its
payload, its good check (log 3, and log 29 for a message as one event). A good message is buffered, behind a request that waits
for the pass, and one that Host Link may take is taken and answered, here IDENTIFY (R166, R167, R168). -/
def Obligations.RequestIsItsMessage : Prop :=
  ∀ (i : Instr) (r : Request) (s : State), requestOf i = some r → requestWellFormed r = true →
    let a := addressOf s.hl.station (requestKind r)
    let message := Instr.messageReceived a (encodePayload r) (messageCheck a (encodePayload r))
    exec i s = exec message s ∧
    (∀ p, lineIdle s = true → s.pass.isSome = true → isDelayed p = true → s.hl.requests = [p] →
      exec message s = .next { s with hl := { s.hl with rx := .waitAddress, requests := [p, r] } }) ∧
    (r = .identify → ready s = true → exec message s = .next (answered 1 (okWith ([0x12, 0xE8, Config.deviceRevision]
      ++ int1 s.hl.station.toNat ++ int1 s.hl.baud.toNat ++ int1 (modeCode s.mc.mode))) s))

/-- A complete message to this station with a wrong check leaves nothing but a risen LINK_CRC, one of a reply kind leaves nothing,
and with RXD not read a message is not seen. A message to another station is its marked character. A message that meets one in
progress completes it where it has the same address character; otherwise the one in progress is dropped with LINK_ABORTED, and
the message is received from WAIT_ADDRESS (the message as one event: log 29). A marked character begins a message or leads to
SKIPPING, by its station, and counts LINK_ABORTED out of RECEIVING (the row LINK_ABORTED is a marked character in every state: log
29); a break and a low stop bit lead to WAIT_ADDRESS with their counts; a length above 240 and a gap timeout count out of
RECEIVING alone, the length leading to SKIPPING and changing nothing elsewhere (log 5) (R165, R167). -/
def Obligations.ReceiverFollowsItsTables : Prop :=
  (∀ (a : Byte) (payload : List Byte) (check : Half) (s : State),
     let message := Instr.messageReceived a payload check
     (noneHeld s = true → lineRead s = false → exec message s = .next s) ∧
     (addressStation a ≠ s.hl.station → exec message s = exec (.addressCharacter a) s) ∧
     (∀ b, lineRead s = true → addressStation a = s.hl.station → s.hl.rx = .receiving b →
       ∃ c, exec message s = exec message { s with hl := { s.hl with rx := .waitAddress }, cb := { s.cb with counts := c } } ∧
         ∀ d, c.get d = if d = .linkAborted ∧ b ≠ a then min (s.cb.counts.get d + 1) 65535 else s.cb.counts.get d) ∧
     (noneHeld s = true → payload.length ≤ 240 → lineIdle s = true → addressStation a = s.hl.station →
       (check ≠ messageCheck a payload →
         ∃ c, exec message s = .next { s with hl := { s.hl with rx := .waitAddress }, cb := { s.cb with counts := c } } ∧
           ∀ d, c.get d = if d = .linkCrc then min (s.cb.counts.get d + 1) 65535 else s.cb.counts.get d) ∧
       (check = messageCheck a payload → 32 ≤ (addressKind a).toNat →
         exec message s = .next { s with hl := { s.hl with rx := .waitAddress } }))) ∧
  (∀ (a : Byte) (i : Instr) (s : State), noneHeld s = true → lineRead s = true →
     let rise (n : CountName) (x : RxState) : Prop :=
       ∃ c, exec i s = .next { s with hl := { s.hl with rx := x }, cb := { s.cb with counts := c } } ∧
         ∀ d, c.get d = if d = n then min (s.cb.counts.get d + 1) 65535 else s.cb.counts.get d
     let still (x : RxState) : Prop := exec i s = .next { s with hl := { s.hl with rx := x } }
     let next : RxState := if addressStation a = s.hl.station then .receiving a else .skipping
     let receiving : Prop := ∃ b, s.hl.rx = .receiving b
     (i = .addressCharacter a ∨ i = .linkAborted a → (receiving → rise .linkAborted next) ∧ (¬ receiving → still next)) ∧
     (i = .linkBreak → rise .linkBreak .waitAddress) ∧
     (i = .linkFraming .lowStopBit → rise .linkFraming .waitAddress) ∧
     (i = .linkFraming .lengthAbove240 →
       (receiving → rise .linkFraming .skipping) ∧ (¬ receiving → exec i s = .next s)) ∧
     (i = .gapTimeout →
       (receiving → rise .linkGap .waitAddress) ∧ (s.hl.rx = .skipping → still .waitAddress) ∧
       (s.hl.rx = .waitAddress → exec i s = .next s)))

/-- A reply in the buffer is sent when the receiver is not in RECEIVING; while one is sent RXD is not read and TXEN is high; at
its last character it leaves the buffer, a receiver in SKIPPING returns to WAIT_ADDRESS, and a request held for want of a place,
here IDENTIFY, is taken with its effect and reply. On the line a reply is its address character, its length, its payload and its
check, the mark bit set on the first alone, and a character is start bit, data bits with the lowest first, mark bit, stop bit
(R165, R166, R168, R169). -/
def Obligations.RepliesLeaveInOrder : Prop :=
  (∀ (r : Reply) (rest : List Reply) (s : State),
     noneHeld s = true → s.hl.replies = r :: rest → s.mc.mode ≠ .start →
     (s.hl.sending = false → (∀ a, s.hl.rx ≠ .receiving a) →
       exec .replySendStart s = .next { s with hl := { s.hl with sending := true } }) ∧
     (∀ a, s.hl.sending = false → s.hl.rx = .receiving a → exec .replySendStart s = .next s) ∧
     (s.hl.sending = true → txen s = true ∧ lineRead s = false) ∧
     (s.hl.sending = true → r.resetAfter = false →
       exec .replySent s = .next { s with hl := { s.hl with
         replies := rest, sending := false, rx := if s.hl.rx = .skipping then .waitAddress else s.hl.rx } })) ∧
  (∀ (r q : Reply) (s : State), s.hl.requests = [.identify] → s.hl.sending = true →
     s.hl.replies = [r, q] → r.resetAfter = false → q.resetAfter = false → s.mc.mode ≠ .start →
     ∃ t, exec .replySent s = .next t ∧ t.hl.requests = [] ∧ t.hl.replies.length = 2 ∧
       t.hl.replies.head? = some q ∧ t = { s with hl := t.hl } ∧
       ∀ x, t.hl.replies[1]? = some x → x.kind = 33 ∧
         x.payload.drop 3 = [0x12, 0xE8, Config.deviceRevision] ++ int1 s.hl.station.toNat ++ int1 s.hl.baud.toNat
           ++ int1 (modeCode s.mc.mode)) ∧
  (∀ (st : BitVec 2) (x : Reply), x.badCheck = false →
     let a := addressOf st x.kind
     (replyCharacters st x).map (·.data) =
       a :: BitVec.ofNat 8 x.payload.length :: x.payload ++ halfBytes (messageCheck a x.payload) ∧
     (replyCharacters st x).map (·.mark) = true :: List.replicate (x.payload.length + 3) false) ∧
  ∀ (mark : Bool) (b : BitVec 8), ∃ data : List Bool,
    characterLevels ⟨mark, b⟩ = false :: data ++ [mark, true] ∧ data.length = 8 ∧ ∀ k, data[k]? = if k < 8 then some (b.getLsbD k) else none

/-- INJECT with target REPLY is answered with a good check, and the next reply formed carries a check whose lowest bit is
inverted, and no other bit of that reply (R163, R169). -/
def Obligations.InjectedReplyHasBadCheck : Prop :=
  (∀ s : State, ready s = true → s.pass = none → s.mc.mode = .hold → s.hl.badCheckNext = false →
    ∃ t, exec (.inject 3 0 0 0) s = .next t ∧
      t = { answered 29 (okWith []) s with hl := { (answered 29 (okWith []) s).hl with badCheckNext := true } } ∧
      (answered 29 (okWith []) s).hl.replies.getLast?.map (·.badCheck) = some false) ∧
  (∀ s : State, ready s = true → s.hl.badCheckNext = true →
    ∃ t x, exec .identify s = .next t ∧ t.hl.badCheckNext = false ∧ t.hl.replies = s.hl.replies ++ [x] ∧ x.badCheck = true) ∧
  ∀ (st : BitVec 2) (x : Reply), x.badCheck = true →
    let good := replyBytes st { x with badCheck := false }
    ∃ init hi lo, good = init ++ [hi, lo] ∧ replyBytes st x = init ++ [hi, lo ^^^ 1#8]

/-! ### Reset and self-test (R156, R157, R161) -/

/-- HARD_RESET gives every block its hard-reset values and reads the straps; the part is in START with STAT 0xF; when RESET_N
returns high step 6 runs and STAT shows it. The tables stand, their timers stopped, until step 1 empties them, with urgency clear
all the while, and clock, INHIBIT input and queue are kept (log 16); every bank counts as present and the loopback note as clear
until the self-test writes them (log 17) (R24, R36, R54, R55, R108, R141, R151, R155, R156, R157, R162, R171). -/
def Obligations.HardResetTakesResetValues : Prop :=
  ∀ (station baud : BitVec 2) (s : State), ∃ t, exec (.hardReset station baud) s = .next t ∧
    t.hl = { station, baud, rx := .waitAddress, requests := [], replies := [], sending := false, overrun := false
             badCheckNext := false } ∧
    t.ft = { state := .unlocked, period := 50, syncEnable := true, frame := 0, override := none, expected := none
             lastInternal := none, prevEdge := none, run := 0 } ∧
    (t.sensors = s.sensors ∧ t.index = s.index ∧ t.ring = [] ∧ t.pass = none) ∧
    (∀ n, rowAt t.segments n = match rowAt s.segments n with
      | some (.live g) => some (.live { g with deadline := none })
      | other => other) ∧
    (∀ x, rowAt t.interrupters x = match rowAt s.interrupters x with
      | some (.live g) => some (.live { g with confirm := none })
      | other => other) ∧
    (∀ ch, t.channels.get ch = { width := 100, polarity := .high, drive := .pushPull, failed := false, pulse := none }) ∧
    t.nq = { queue := [], seq := 0, tail := 0 } ∧ urgency t = false ∧
    (∀ c, t.cb.counts.get c = 0) ∧ (∀ c, t.cb.conds.get c = false ∧ t.cb.raised.get c = false) ∧ t.cb.snapshot = none ∧
    t.cb.token = 0 ∧ t.tm = { bankMap := 0xFF, pendingCorrections := 0, firstBank := none } ∧
    t.mc = { mode := .start, selfTest := .held, hardSeen := false, fatalStep := none, loopbackGood := false, outcome := none
             failingStep := none, runEntered := false, profile := .normal, inhibitFlag := false } ∧
    t.stnPins = station ∧ t.baudPins = baud ∧
    (t.params.minHold = 2 ∧ t.params.staleLimit = 40 ∧ t.params.baseShift = 4 ∧ t.params.settleFrames = 5 ∧
      t.params.maintTail = 4 ∧ t.params.normal = ⟨819, 512, 205, 3, 30, 400, 12, 5, 20⟩ ∧
      t.params.elevated = ⟨819, 614, 154, 2, 15, 250, 6, 5, 20⟩) ∧
    statCode t = 0xF ∧ t.pending = s.pending ∧ t.now = s.now ∧ t.strapReads = s.strapReads ∧ t.inhibitPin = s.inhibitPin ∧
    exec .resetNRelease t = .next { t with mc := { t.mc with selfTest := .running .six } } ∧
    statCode { t with mc := { t.mc with selfTest := .running .six } } = 6

/-- What each self-test step found is an operand of its end, and LINK_LOOPBACK begins step 4 (log 17). The ends of steps 6 to 2:
step 6 sets the bank map and is FATAL with fewer than four banks or a bad interrupter bank, HARD with a bad record bank; steps 5, 4
and 2 are FATAL when they fail; step 3 sets the failed marks, HARD when any is set; a FATAL failure goes to step 1. The end of
step 1: tables emptied, parameters, profile, inhibit flag and channels at their defaults with the failed marks kept; after a FATAL
failure FAILED with no notice; otherwise HOLD with outcome HARD or PASS, the first frame start expected one FRAME_PERIOD later,
SELF_TEST_DONE raised. The STAT code is 0xF while RESET_N is held, a step's number while it runs (5 until step 4 begins: log 17),
0x8 in HOLD, in RUN 0x9, or 0xA with the effective inhibit set, 0xE in FAILED; GET_STATUS returns it (R24, R28, R157, R161). -/
def Obligations.SelfTestRunsAndEnds : Prop :=
  (∀ s : State, noneHeld s = true → s.mc.mode = .start →
     let fatal (k : TestStep) (t : State) : State := { t with mc := { t.mc with selfTest := .running .one, fatalStep := some k } }
     let on (x : SelfTestPhase) (hard : Bool) (t : State) : State :=
       { t with mc := { t.mc with selfTest := x, hardSeen := t.mc.hardSeen || hard } }
     let idle (t : State) : State := { t with hl := { t.hl with rx := .waitAddress } }
     (∀ bad ibad, s.mc.selfTest = .running .six →
       let t := { s with tm := { s.tm with bankMap := ~~~bad } }
       exec (.selfTestStepEnd (.pattern bad ibad)) s = .next
         (if ibad = true ∨ (List.range 8).countP (fun k => !bad.getLsbD k) < 4 then fatal .six t
           else on (.running .five) (bad != 0) t)) ∧
     (∀ ok, s.mc.selfTest = .running .five →
       exec (.selfTestStepEnd (.errorCheck ok)) s = .next (if ok then on .awaitLoopback false s else fatal .five s)) ∧
     (∀ good, s.mc.selfTest = .awaitLoopback →
       (s.hl.replies = [] → exec (.linkLoopback good) s =
         .next (idle { s with mc := { s.mc with selfTest := .running .four, loopbackGood := good } })) ∧
       (s.hl.replies ≠ [] → exec (.linkLoopback good) s = .next s)) ∧
     (s.mc.selfTest = .running .four → exec (.selfTestStepEnd .loopback) s =
       .next (if s.mc.loopbackGood then on (.running .three) false (idle s) else fatal .four (idle s))) ∧
     (∀ bad, s.mc.selfTest = .running .three → ∃ c, exec (.selfTestStepEnd (.channels bad)) s =
         .next (on (.running .two) (bad != 0) { s with channels := c }) ∧
       ∀ k : Fin 4, c.get k = { s.channels.get k with failed := bad.getLsbD k.val }) ∧
     ∀ ok, s.mc.selfTest = .running .two →
       exec (.selfTestStepEnd (.timebase ok)) s = .next (if ok then on (.running .one) false s else fatal .two s)) ∧
  (∀ s : State, noneHeld s = true → s.mc.mode = .start → s.mc.selfTest = .running .one →
     ∃ c, (∀ k : Fin 4, c.get k =
         { width := 100, polarity := .high, drive := .pushPull, failed := (s.channels.get k).failed, pulse := none }) ∧
       let empty : State := { s with
         sensors := [], index := [], segments := [], interrupters := [], params := .defaults, channels := c }
       (∀ k, s.mc.fatalStep = some k → exec (.selfTestStepEnd .tables) s = .next { empty with mc := { s.mc with
         mode := .failed, selfTest := .ended, outcome := some .fatal, failingStep := some k, profile := .normal
         inhibitFlag := false } }) ∧
       (s.mc.fatalStep = none → s.nq.queue.length < 32 →
         let outcome := if s.mc.hardSeen then TestOutcome.hard else .pass
         ∃ failed, (∀ k, k ∈ failed ↔ ∃ ch : Fin 4, ch.val = k ∧ (s.channels.get ch).failed = true) ∧
           exec (.selfTestStepEnd .tables) s = .next { empty with
             mc := { s.mc with
               mode := .hold, selfTest := .ended, outcome := some outcome, profile := .normal, inhibitFlag := false }
             ft := { s.ft with expected := some (s.now + s.ft.period * 1000), lastInternal := none }
             nq := { s.nq with
               queue := s.nq.queue ++ [⟨s.nq.seq, s.ft.frame, .selfTestDone outcome s.tm.bankMap failed⟩]
               seq := s.nq.seq + 1 } })) ∧
  ∀ s : State, (statusBytes s)[1]? = some (BitVec.ofNat 8 (statCode s)) ∧
    (s.mc.mode = .start →
      (s.mc.selfTest = .held → statCode s = 0xF) ∧ (s.mc.selfTest = .running .six → statCode s = 6) ∧
      (s.mc.selfTest = .running .five ∨ s.mc.selfTest = .awaitLoopback → statCode s = 5) ∧
      (s.mc.selfTest = .running .four → statCode s = 4) ∧ (s.mc.selfTest = .running .three → statCode s = 3) ∧
      (s.mc.selfTest = .running .two → statCode s = 2) ∧ (s.mc.selfTest = .running .one → statCode s = 1)) ∧
    (s.mc.mode = .hold → statCode s = 0x8) ∧
    (s.mc.mode = .run → s.inhibitPin = false → s.mc.inhibitFlag = false → statCode s = 0x9) ∧
    (s.mc.mode = .run → s.inhibitPin = true ∨ s.mc.inhibitFlag = true → statCode s = 0xA) ∧
    (s.mc.mode = .failed → statCode s = 0xE)

/-- FAILED is left only by HARD_RESET: every other command leaves the part in FAILED, with no reset waiting behind a reply
(R156). -/
def Obligations.FailedIsLeftOnlyByHardReset : Prop :=
  ∀ (c : Instr) (s t : State), s.mc.mode = .failed → noResetPending s = true → (∀ st b, c ≠ .hardReset st b) →
    exec c s = .next t → t.mc.mode = .failed ∧ noResetPending t = true

/-! ### Sensors (R1 to R6) -/

/-- DEFINE_SENSOR with good fields: NO_SLOT in an absent bank, IN_USE at offset 0 for a taken slot and at offset 1 for a taken
address; accepted, the slot holds the new record and the index its address (R1 to R4). -/
def Obligations.DefineSensorPlacesRecord : Prop :=
  ∀ (slot phases latency : Byte) (address : FieldAddress) (s : State), ready s = true → s.pass = none → inService s = true →
    clean s = true → fieldFault (.defineSensor slot address phases latency) = none →
    let d := slot.toNat
    let cmd := Instr.defineSensor slot address phases latency
    (s.tm.bankMap.getLsbD (d / 6) = false → exec cmd s = .next (answered 10 (refuse .noSlot) s)) ∧
    (s.tm.bankMap.getLsbD (d / 6) = true → rowAt s.sensors d ≠ none → exec cmd s = .next (answered 10 (refuseAt .inUse 0) s)) ∧
    (s.tm.bankMap.getLsbD (d / 6) = true → rowAt s.sensors d = none → rowAt s.index address.toNat ≠ none →
      exec cmd s = .next (answered 10 (refuseAt .inUse 1) s)) ∧
    (s.tm.bankMap.getLsbD (d / 6) = true → rowAt s.sensors d = none → rowAt s.index address.toNat = none →
      ∃ a b, exec cmd s = .next (answered 10 (okWith []) { s with sensors := a, index := b }) ∧
        (∀ k, rowAt a k = if k = d then
            some (.live { address, phases := ⟨phases.getLsbD 0, phases.getLsbD 1, phases.getLsbD 2⟩, latency := latency.toNat
                          status := .active, seen := false, missingRun := 0, missingTotal := 0, last := none
                          residualBase := 0, currentBase := ⟨0, 0, 0⟩, learn := 0, surge := ⟨none, none, none⟩, err := 0 })
          else rowAt s.sensors k) ∧
        ∀ k, rowAt b k = if k = address.toNat then some d else rowAt s.index k)

/-- RETIRE_SENSOR: NOT_FOUND for an empty slot; IN_USE naming the lowest segment that names the slot, else the lowest
interrupter whose boundary sensor it is; otherwise the slot is free, its address leaves the index, and the sensor leaves every
frame's expected set and reports (R5, R53). -/
def Obligations.RetireSensorFreesSlot : Prop :=
  ∀ (slot : Byte) (s : State), ready s = true → s.pass = none → inService s = true → clean s = true → slot.toNat < 48 →
    let d := slot.toNat
    let named (n : Nat) : Prop := ∃ r, segmentAt s n = some r ∧ d ∈ r.up :: r.down
    let bounds (x : Nat) : Prop := ∃ r, interrupterAt s x = some r ∧ r.boundary = d
    (rowAt s.sensors d = none → exec (.retireSensor slot) s = .next (answered 11 (refuse .notFound) s)) ∧
    (∀ n < 40, rowAt s.sensors d ≠ none → named n → (∀ m < n, ¬ named m) →
      exec (.retireSensor slot) s = .next (answered 11 (refuseNaming .inUse .segment n) s)) ∧
    (∀ x < 16, rowAt s.sensors d ≠ none → (∀ n < 40, ¬ named n) → bounds x → (∀ y < x, ¬ bounds y) →
      exec (.retireSensor slot) s = .next (answered 11 (refuseNaming .inUse .interrupter x) s)) ∧
    (rowAt s.sensors d ≠ none → (∀ n < 40, ¬ named n) → (∀ x < 16, ¬ bounds x) → tableWf s.index = true →
      ∃ a b, exec (.retireSensor slot) s = .next (answered 11 (okWith []) { s with
          sensors := a, index := b
          ring := s.ring.map fun f => { f with expected := f.expected.filter (· != d), reports := dropRow f.reports d } }) ∧
        (∀ k, rowAt a k = if k = d then none else rowAt s.sensors k) ∧
        ∀ k e, rowAt b k = some e ↔ rowAt s.index k = some e ∧ e ≠ d)

/-- The queries are taken at once, also while a pass is in flight, and change nothing but Host Link: a record's fields and
derived items for a record, in the widths of log 23, the form of log 25 for one lost, NOT_FOUND for an empty place (R6, R16, R20,
R74). -/
def Obligations.QueriesReadAndChangeNothing : Prop :=
  ∀ (b : Byte) (s : State), ready s = true → inService s = true → clean s = true →
    (b.toNat < 48 →
      (rowAt s.sensors b.toNat = none → exec (.querySensor b) s = .next (answered 12 (refuse .notFound) s)) ∧
      (∀ r, rowAt s.sensors b.toNat = some (.live r) →
        exec (.querySensor b) s = .next (answered 12 (okWith (sensorBytes s b.toNat r)) s)) ∧
      (rowAt s.sensors b.toNat = some .quarantined →
        exec (.querySensor b) s = .next (answered 12 (okWith (sensorQuarantinedBytes s b.toNat)) s))) ∧
    (b.toNat < 40 →
      (rowAt s.segments b.toNat = none → exec (.querySegment b) s = .next (answered 15 (refuse .notFound) s)) ∧
      (∀ r, rowAt s.segments b.toNat = some (.live r) →
        exec (.querySegment b) s = .next (answered 15 (okWith (segmentBytes s r)) s)) ∧
      (rowAt s.segments b.toNat = some .quarantined →
        exec (.querySegment b) s = .next (answered 15 (okWith segmentQuarantinedBytes) s))) ∧
    (b.toNat < 16 →
      (rowAt s.interrupters b.toNat = none → exec (.queryInterrupter b) s = .next (answered 20 (refuse .notFound) s)) ∧
      (∀ r, rowAt s.interrupters b.toNat = some (.live r) →
        exec (.queryInterrupter b) s = .next (answered 20 (okWith (interrupterBytes s r)) s)) ∧
      (rowAt s.interrupters b.toNat = some .tableError →
        exec (.queryInterrupter b) s = .next (answered 20 (okWith interrupterLostBytes) s)))

/-! ### Segments (R9 to R14, R103, R118) -/

/-- DEFINE_SEGMENT with good fields: NO_SLOT in an absent bank; NOT_FOUND naming the first slot with no record; STATE_CONFLICT
naming the first QUARANTINED one; STATE_CONFLICT where the number holds a segment in SUSPECT or a verdict state. Then the tree
checks in their order, the old record of the number set aside: SELF_LIST; SENSOR_SHARED for the upstream sensor, then for the
downstream sensors in order, naming the segment that has it; CYCLE for the first downstream sensor from which a path of segments
leads down to the upstream sensor; PHASE for the boundary sensors in order, the parent, then the children in order, each with
subcode, sensor and segment (what CYCLE and PHASE name: log 27; every boundary sensor is contained: log 34). Nothing but Host Link
changes (R9, R10, R11). -/
def Obligations.DefineSegmentRefusedByTablesAndTree : Prop :=
  (∀ (segment phases up policy : Byte) (budget iSurge : Half) (down : List Byte) (s : State),
     ready s = true → s.pass = none → inService s = true → clean s = true →
     fieldFault (.defineSegment segment phases up budget policy iSurge down) = none →
     let n := segment.toNat
     let cmd := Instr.defineSegment segment phases up budget policy iSurge down
     (s.tm.bankMap.getLsbD (n / 5) = false → exec cmd s = .next (answered 13 (refuse .noSlot) s)) ∧
     (s.tm.bankMap.getLsbD (n / 5) = true → ∀ before x after, up :: down = before ++ x :: after →
       ((∀ y ∈ before, rowAt s.sensors y.toNat ≠ none) → rowAt s.sensors x.toNat = none →
         exec cmd s = .next (answered 13 (refuseNaming .notFound .sensor x.toNat) s)) ∧
       ((∀ y ∈ up :: down, rowAt s.sensors y.toNat ≠ none) → (∀ y ∈ before, rowAt s.sensors y.toNat ≠ some .quarantined) →
         rowAt s.sensors x.toNat = some .quarantined →
         exec cmd s = .next (answered 13 (refuseNaming .stateConflict .sensor x.toNat) s))) ∧
     (s.tm.bankMap.getLsbD (n / 5) = true → (∀ y ∈ up :: down, (sensorAt s y.toNat).isSome = true) →
       ∀ r, segmentAt s n = some r → r.state ∈ [.suspect, .isolating, .isolated, .withheld, .isolationFailed] →
         exec cmd s = .next (answered 13 (refuse .stateConflict) s))) ∧
  (∀ (segment phases up policy : Byte) (budget iSurge : Half) (down : List Byte) (s : State),
     ready s = true → s.pass = none → inService s = true → clean s = true →
     fieldFault (.defineSegment segment phases up budget policy iSurge down) = none →
     let n := segment.toNat
     let cmd := Instr.defineSegment segment phases up budget policy iSurge down
     s.tm.bankMap.getLsbD (n / 5) = true → (∀ y ∈ up :: down, (sensorAt s y.toNat).isSome = true) →
     (∀ r, segmentAt s n = some r → r.state ∈ [.normal, .deenergized, .settling]) →
     let other (m : Nat) (q : SegRec) : Prop := m < 40 ∧ m ≠ n ∧ segmentAt s m = some q
     let fault (bytes : List Byte) : Prop := exec cmd s = .next (answered 13 (answer .topology bytes) s)
     let num (g : Nat) : Byte := BitVec.ofNat 8 g
     let taken (d : Byte) : Prop := ∃ m p, other m p ∧ d.toNat ∈ p.down
     let lacks (part whole : PhaseSet) : Prop := ∃ k : Phase, perPhase part k = true ∧ perPhase whole k = false
     let mine := phasesOfByte phases
     (up ∈ down → fault [4, 1, up, 0]) ∧
     (up ∉ down →
       (∀ g q, other g q → q.up = up.toNat → (∀ m p, other m p → p.up = up.toNat → g ≤ m) → fault [2, 1, up, 1, num g]) ∧
       ((∀ m p, other m p → p.up ≠ up.toNat) →
         (∀ before d after g q, down = before ++ d :: after → (∀ e ∈ before, ¬ taken e) → other g q → d.toNat ∈ q.down →
           (∀ m p, other m p → d.toNat ∈ p.down → g ≤ m) → fault [2, 1, d, 1, num g]) ∧
         ((∀ d ∈ down, ¬ taken d) →
           (∀ g q d, down = [d] → other g q → q.up = d.toNat → up.toNat ∈ q.down →
             (∀ m p, other m p → m ≠ g → p.up ≠ d.toNat ∧ up.toNat ∉ p.down) → fault [1, 1, d, 1, num g]) ∧
           (∀ before d after path g, sharesNoSensor s → down = before ++ d :: after →
             (∀ e ∈ before, ∀ way, ¬ leadsDown s n up.toNat e.toNat way) → leadsDown s n up.toNat d.toNat path →
             path.length ≤ 40 → path.getLast? = some g → fault [1, 1, d, 1, num g]) ∧
           ((∀ d ∈ down, ∀ way, ¬ leadsDown s n up.toNat d.toNat way) →
             (∀ before x after r, up :: down = before ++ x :: after → sensorAt s x.toNat = some r → lacks mine r.phases →
               (∀ y ∈ before, ∀ q, sensorAt s y.toNat = some q → ¬ lacks mine q.phases) → fault [3, 1, x, 0]) ∧
             ((∀ y ∈ up :: down, ∀ q, sensorAt s y.toNat = some q → ¬ lacks mine q.phases) → sharesNoSensor s →
               (∀ g q, other g q → up.toNat ∈ q.down → lacks mine q.phases → fault [3, 0, 1, num g]) ∧
               ((∀ m p, other m p → up.toNat ∈ p.down → ¬ lacks mine p.phases) →
                 ∀ before d after g q, down = before ++ d :: after → other g q → q.up = d.toNat → lacks q.phases mine →
                   (∀ e ∈ before, ∀ m p, other m p → p.up = e.toNat → ¬ lacks p.phases mine) →
                   fault [3, 0, 1, num g])))))))

/-- DEFINE_SEGMENT whose checks pass writes a fresh record, its excluded set holding the STALE boundary sensors, and answers
OK, or OK_WARNING with cause BUDGET_SHORT, with the estimate (max(MIN_HOLD, L) + N_OPEN of ELEVATED) × FRAME_PERIOD and BLIND
and DEGRADED; no other record is written (R12, R13, R115). -/
def Obligations.DefineSegmentWritesRecord : Prop :=
  ∀ (segment phases up policy : Byte) (budget iSurge : Half) (down : List Byte) (s : State),
    ready s = true → s.pass = none → inService s = true → clean s = true →
    fieldFault (.defineSegment segment phases up budget policy iSurge down) = none →
    let n := segment.toNat
    let names := up.toNat :: down.map BitVec.toNat
    let set : PhaseSet := ⟨phases.getLsbD 0, phases.getLsbD 1, phases.getLsbD 2⟩
    s.tm.bankMap.getLsbD (n / 5) = true → (∀ d ∈ names, (sensorAt s d).isSome = true) →
    (∀ r, segmentAt s n = some r → r.state ∈ [.normal, .deenergized, .settling]) →
    topologyFault s n set up.toNat (down.map BitVec.toNat) = none →
    ∃ b est large excluded, exec (.defineSegment segment phases up budget policy iSurge down) s =
        .next (answered 13 (if budget.toNat < est
          then answer .okWarning (int1 1 ++ int2 est ++ flag (decide (up.toNat ∈ excluded))
            ++ flag (decide (∃ d ∈ down.map BitVec.toNat, d ∈ excluded)))
          else okWith (int2 est ++ flag (decide (up.toNat ∈ excluded))
            ++ flag (decide (∃ d ∈ down.map BitVec.toNat, d ∈ excluded)))) { s with segments := b }) ∧
      est = (max s.params.minHold large + s.params.elevated.nOpen) * s.ft.period ∧
      ((∀ d ∈ names, ∀ r, sensorAt s d = some r → r.latency ≤ large) ∧
        (large = 0 ∨ ∃ d ∈ names, ∃ r, sensorAt s d = some r ∧ r.latency = large)) ∧
      (∀ d, d ∈ excluded ↔ d ∈ names ∧ ∃ r, sensorAt s d = some r ∧ r.status = .stale) ∧
      ∀ k, rowAt b k = if k = n then
          some (.live { phases := set, up := up.toNat, down := down.map BitVec.toNat, budget := budget.toNat
                        policy := if policy = 0 then .trip else .hold, iSurge := iSurge.toNat, state := .normal, settle := 0
                        openCount := 0, contactCount := 0, deadline := none, deadlinePassed := false, operated := noPhases
                        excluded := excluded, leakRing := [], transient := 0, verdict := none, suspect := none, err := 0 })
        else rowAt s.segments k

/-- No command breaks the law that a slot is the upstream sensor of at most one segment and stands in at most one downstream
list (R11), whatever requests it takes from the request buffer. -/
def Obligations.EveryCommandKeepsSensorLaw : Prop :=
  ∀ (c : Instr) (s t : State), clean s = true → buffersBounded s = true → sharesNoSensor s → exec c s = .next t →
    sharesNoSensor t

/-- REMOVE_SEGMENT: NOT_FOUND for a free number; STATE_CONFLICT in SUSPECT and the verdict states; otherwise, also in QUARANTINED,
the number becomes free. REMOVE_INTERRUPTER: NOT_FOUND for a free id; STATE_CONFLICT while TRIPPING; otherwise, also with
TABLE_ERROR, the id becomes free, a pulse on its channel runs on. Nothing else changes (R14, R19, R142). -/
def Obligations.RemovalsFreeNumbers : Prop :=
  (∀ (b : Byte) (s : State), ready s = true → s.pass = none → inService s = true → clean s = true → b.toNat < 40 →
     let done := ∃ g, exec (.removeSegment b) s = .next (answered 14 (okWith []) { s with segments := g }) ∧
       ∀ k, rowAt g k = if k = b.toNat then none else rowAt s.segments k
     (rowAt s.segments b.toNat = none → exec (.removeSegment b) s = .next (answered 14 (refuse .notFound) s)) ∧
     (rowAt s.segments b.toNat = some .quarantined → done) ∧
     ∀ r, rowAt s.segments b.toNat = some (.live r) →
       (r.state ∈ [.suspect, .isolating, .isolated, .withheld, .isolationFailed] →
         exec (.removeSegment b) s = .next (answered 14 (refuse .stateConflict) s)) ∧
       (r.state ∈ [.normal, .deenergized, .settling] → done)) ∧
  (∀ (b : Byte) (s : State), ready s = true → s.pass = none → inService s = true → clean s = true → b.toNat < 16 →
     let done := ∃ g, exec (.removeInterrupter b) s = .next (answered 19 (okWith []) { s with interrupters := g }) ∧
       ∀ k, rowAt g k = if k = b.toNat then none else rowAt s.interrupters k
     (rowAt s.interrupters b.toNat = none → exec (.removeInterrupter b) s = .next (answered 19 (refuse .notFound) s)) ∧
     (rowAt s.interrupters b.toNat = some .tableError → done) ∧
     ∀ r, rowAt s.interrupters b.toNat = some (.live r) →
       (r.state = .tripping → exec (.removeInterrupter b) s = .next (answered 19 (refuse .stateConflict) s)) ∧
       (r.state ≠ .tripping → done))

/-- RELEASE_SEGMENT in ISOLATED, WITHHELD and ISOLATION_FAILED: the segment is NORMAL with verdict, counts, timer, mark, leak
ring and operated set cleared, its boundary sensors are unseeded, and nothing else changes; in every other state
STATE_CONFLICT (R66, R103). -/
def Obligations.ReleaseSegmentEndsVerdict : Prop :=
  ∀ (b : Byte) (s : State), ready s = true → s.pass = none → inService s = true → clean s = true → b.toNat < 40 →
    (rowAt s.segments b.toNat = none → exec (.releaseSegment b) s = .next (answered 16 (refuse .notFound) s)) ∧
    (rowAt s.segments b.toNat = some .quarantined → exec (.releaseSegment b) s = .next (answered 16 (refuse .stateConflict) s)) ∧
    ∀ r, rowAt s.segments b.toNat = some (.live r) →
      (r.state ∈ [.normal, .suspect, .deenergized, .settling, .isolating] →
        exec (.releaseSegment b) s = .next (answered 16 (refuse .stateConflict) s)) ∧
      (r.state ∈ [.isolated, .withheld, .isolationFailed] →
        ∃ g a, exec (.releaseSegment b) s = .next (answered 16 (okWith []) { s with segments := g, sensors := a }) ∧
          (∀ k, rowAt g k = if k = b.toNat then some (.live { r with
              state := .normal, verdict := none, openCount := 0, contactCount := 0, settle := 0, deadline := none
              deadlinePassed := false, leakRing := [], operated := noPhases })
            else rowAt s.segments k) ∧
          (∀ d q, d ∈ r.up :: r.down → sensorAt s d = some q →
            rowAt a d = some (.live { q with learn := 0, residualBase := 0, currentBase := ⟨0, 0, 0⟩ })) ∧
          ∀ d, d ∉ r.up :: r.down ∨ sensorAt s d = none → rowAt a d = rowAt s.sensors d)

/-- RESTORE_SEGMENT empties the excluded set, in every state, and answers the state with BLIND and DEGRADED clear; it is
refused in QUARANTINED, and while a member is STALE or QUARANTINED, naming the first in boundary order (R118). -/
def Obligations.RestoreSegmentEmptiesExcludedSet : Prop :=
  ∀ (b : Byte) (s : State), ready s = true → s.pass = none → inService s = true → clean s = true → b.toNat < 40 →
    let lost (d : Nat) : Prop := rowAt s.sensors d = some .quarantined ∨ ∃ q, sensorAt s d = some q ∧ q.status = .stale
    (rowAt s.segments b.toNat = none → exec (.restoreSegment b) s = .next (answered 17 (refuse .notFound) s)) ∧
    (rowAt s.segments b.toNat = some .quarantined → exec (.restoreSegment b) s = .next (answered 17 (refuse .stateConflict) s)) ∧
    ∀ r, rowAt s.segments b.toNat = some (.live r) →
      (∀ before d after, r.up :: r.down = before ++ d :: after → d ∈ r.excluded → lost d →
        (∀ e ∈ before, e ∈ r.excluded → ¬ lost e) →
        exec (.restoreSegment b) s = .next (answered 17 (refuseNaming .stateConflict .sensor d) s)) ∧
      ((∀ d ∈ r.up :: r.down, d ∈ r.excluded → ¬ lost d) →
        ∃ g, exec (.restoreSegment b) s =
            .next (answered 17 (okWith (int1 (segStateByte r.state) ++ [0, 0])) { s with segments := g }) ∧
          ∀ k, rowAt g k = if k = b.toNat then some (.live { r with excluded := [] }) else rowAt s.segments k)

/-! ### Interrupters (R17 to R20, R128 to R133, R138, R139) -/

/-- DEFINE_INTERRUPTER with good fields: the refusals of checks 2 to 7 in their order; accepted, the id holds a new record in
UNKNOWN, disarmed, and nothing else changes (R17, R18). -/
def Obligations.DefineInterrupterPlacesRecord : Prop :=
  ∀ (id kind channel slot : Byte) (confirm : Half) (s : State), ready s = true → s.pass = none → inService s = true →
    clean s = true → fieldFault (.defineInterrupter id kind channel slot confirm) = none →
    let x := id.toNat
    let ch := Fin.ofNat 4 channel.toNat
    let cmd := Instr.defineInterrupter id kind channel slot confirm
    let free := ∀ y < 16, ∀ q, interrupterAt s y = some q → q.boundary ≠ slot.toNat
    (rowAt s.interrupters x ≠ none → exec cmd s = .next (answered 18 (refuse .inUse) s)) ∧
    (rowAt s.interrupters x = none → rowAt s.sensors slot.toNat = none →
      exec cmd s = .next (answered 18 (refuse .notFound) s)) ∧
    (rowAt s.interrupters x = none → rowAt s.sensors slot.toNat = some .quarantined →
      exec cmd s = .next (answered 18 (refuse .stateConflict) s)) ∧
    (∀ y q, rowAt s.interrupters x = none → (sensorAt s slot.toNat).isSome = true → y < 16 → interrupterAt s y = some q →
      q.boundary = slot.toNat → (∀ z < y, ∀ p, interrupterAt s z = some p → p.boundary ≠ slot.toNat) →
      exec cmd s = .next (answered 18 (refuseNaming .inUse .interrupter y) s)) ∧
    (rowAt s.interrupters x = none → (sensorAt s slot.toNat).isSome = true → free → kind = 0 →
      (s.channels.get ch).failed = true → exec cmd s = .next (answered 18 (refuse .noSlot) s)) ∧
    (∀ y q, rowAt s.interrupters x = none → (sensorAt s slot.toNat).isSome = true → free → kind = 0 →
      (s.channels.get ch).failed = false → y < 16 → interrupterAt s y = some q → q.kind = .loc ch →
      (∀ z < y, ∀ p, interrupterAt s z = some p → p.kind ≠ .loc ch) →
      exec cmd s = .next (answered 18 (refuseNaming .inUse .interrupter y) s)) ∧
    (rowAt s.interrupters x = none → (sensorAt s slot.toNat).isSome = true → free →
      (kind = 0 → (s.channels.get ch).failed = false ∧ ∀ y < 16, ∀ q, interrupterAt s y = some q → q.kind ≠ .loc ch) →
      ∃ g, exec cmd s = .next (answered 18 (okWith []) { s with interrupters := g }) ∧
        ∀ k, rowAt g k = if k = x then
            some (.live { kind := if kind = 0 then .loc ch else .remote, boundary := slot.toNat, confirmTime := confirm.toNat
                          state := .unknown, reason := none, armed := false, saved := false, outstanding := false
                          waiters := [], confirm := none, pulseFrame := none, err := 0 })
          else rowAt s.interrupters k)

/-- SET_ARM and ACK_TRIP are taken also while a pass is in flight: NOT_FOUND for a free id, STATE_CONFLICT with TABLE_ERROR.
SET_ARM writes saved armed while trip outstanding is set, armed otherwise; ACK_TRIP, refused in TRIPPING or with no trip
outstanding, restores armed and clears trip outstanding; both answer the three values; nothing else changes (R138, R139). -/
def Obligations.ArmingAndAcknowledgement : Prop :=
  ∀ (b : Byte) (s : State), ready s = true → inService s = true → clean s = true → b.toNat < 16 →
    let becomes (kind : BitVec 6) (i : Instr) (q : IntRec) : Prop :=
      ∃ g, exec i s = .next (answered kind (okWith (flag q.armed ++ flag q.saved ++ flag q.outstanding))
          { s with interrupters := g }) ∧
        ∀ k, rowAt g k = if k = b.toNat then some (.live q) else rowAt s.interrupters k
    (∀ on : Bool, rowAt s.interrupters b.toNat = none →
      exec (.setArm b (if on then 1 else 0)) s = .next (answered 21 (refuse .notFound) s) ∧
      exec (.ackTrip b) s = .next (answered 23 (refuse .notFound) s)) ∧
    (∀ on : Bool, rowAt s.interrupters b.toNat = some .tableError →
      exec (.setArm b (if on then 1 else 0)) s = .next (answered 21 (refuse .stateConflict) s) ∧
      exec (.ackTrip b) s = .next (answered 23 (refuse .stateConflict) s)) ∧
    ∀ r, rowAt s.interrupters b.toNat = some (.live r) →
      (∀ on : Bool, r.outstanding = true → becomes 21 (.setArm b (if on then 1 else 0)) { r with saved := on }) ∧
      (∀ on : Bool, r.outstanding = false → becomes 21 (.setArm b (if on then 1 else 0)) { r with armed := on }) ∧
      (r.outstanding = false ∨ r.state = .tripping →
        exec (.ackTrip b) s = .next (answered 23 (refuse .stateConflict) s)) ∧
      (r.outstanding = true → r.state ≠ .tripping →
        becomes 23 (.ackTrip b) { r with armed := r.saved, outstanding := false })

/-- INTERRUPTER_STATE: NOT_FOUND for a free id, STATE_CONFLICT with TABLE_ERROR; otherwise the position is applied with the
notice, mark and reply its table gives, and nothing else changes. OPEN on a TRIPPING interrupter is its own statement; FAILED on
one empties its waiters list and its waiters escalate in the order they joined, one ESCALATED notice each, here where no trip is
allowed: each is WITHHELD (R123, R130 to R133, R135, R136, R148). -/
def Obligations.PositionReportsAreApplied : Prop :=
  (∀ (b position : Byte) (s : State), ready s = true → inService s = true → clean s = true → b.toNat < 16 → position.toNat ≤ 2 →
    (rowAt s.interrupters b.toNat = none → exec (.interrupterState b position) s = .next (answered 22 (refuse .notFound) s)) ∧
    (rowAt s.interrupters b.toNat = some .tableError →
      exec (.interrupterState b position) s = .next (answered 22 (refuse .stateConflict) s))) ∧
  ∀ (b : Byte) (s : State) (r : IntRec), ready s = true → inService s = true → clean s = true → b.toNat < 16 →
    rowAt s.interrupters b.toNat = some (.live r) →
    let becomes (position : Byte) (q : IntRec) (t : State) : Prop :=
      ∃ g, exec (.interrupterState b position) s =
          .next (answered 22 (okWith (int1 (intStateByte q.state))) { t with interrupters := g }) ∧
        ∀ k, rowAt g k = if k = b.toNat then some (.live q) else rowAt s.interrupters k
    let noted (late : Bool) : State := { s with nq := { s.nq with
      queue := s.nq.queue ++ [⟨s.nq.seq, s.ft.frame, .interrupterOpened b.toNat .report 0 late⟩], seq := s.nq.seq + 1 } }
    (r.state = .failed → s.nq.queue.length < 32 →
      becomes 0 { r with state := .opened, reason := none } (noted r.outstanding)) ∧
    (r.state = .unknown ∨ r.state = .closed → s.nq.queue.length < 32 →
      becomes 0 { r with state := .opened, reason := none } (noted false)) ∧
    (r.state = .opened → exec (.interrupterState b 0) s = .next (answered 22 (okWith [0]) s)) ∧
    (r.state = .unknown ∨ r.state = .opened ∨ r.state = .failed → becomes 1 { r with state := .closed, reason := none } s) ∧
    (r.state = .closed → exec (.interrupterState b 1) s = .next (answered 22 (okWith [1]) s)) ∧
    (r.state = .tripping → exec (.interrupterState b 1) s = .next (answered 22 (answer .okWarning [2, 4]) s)) ∧
    (r.state ≠ .tripping → becomes 2 { r with state := .failed, reason := some .reported } s) ∧
    (r.state = .tripping →
      let failed : IntRec := { r with state := .failed, reason := some .reported, confirm := none, waiters := [] }
      let escalated (t : State) (notices : List NoticeBody) : Prop :=
        exec (.interrupterState b 2) s = .next (answered 22 (okWith (int1 (intStateByte .failed))) t) ∧
        t = { s with
          interrupters := t.interrupters, segments := t.segments
          nq := { s.nq with
            queue := s.nq.queue ++ notices.mapIdx fun i x => ⟨s.nq.seq + BitVec.ofNat 16 i, s.ft.frame, x⟩
            seq := s.nq.seq + BitVec.ofNat 16 notices.length
            tail := if urgencySource t then s.nq.tail else s.params.maintTail } } ∧
        ∀ k, rowAt t.interrupters k = if k = b.toNat then some (.live failed) else rowAt s.interrupters k
      (r.waiters = [] → s.nq.queue.length < 32 → ∃ t, escalated t [.escalated b.toNat .reported none none none] ∧
        ∀ k, rowAt t.segments k = rowAt s.segments k) ∧
      (r.waiters ≠ [] → s.mc.mode ≠ .run ∨ effectiveInhibit s = true → r.waiters.Nodup →
        s.nq.queue.length + r.waiters.length ≤ 32 → (∀ n ∈ r.waiters, n < 40 ∧ (segmentAt s n).isSome = true) →
        ∃ t, escalated t (r.waiters.map fun n => .escalated b.toNat .reported (some n) (some .withheld) none) ∧
          (∀ n q, n ∈ r.waiters → segmentAt s n = some q → ∃ v, rowAt t.segments n = some (.live { q with state := .withheld, verdict := v }) ∧
            (q.verdict = none → v = none) ∧
            ∀ w init e, q.verdict = some w → w.chain = init ++ [e] →
              v = some { w with chain := init ++ [{ e with outcome := .escalatedFrom }] }) ∧
          ∀ n, n ∉ r.waiters → rowAt t.segments n = rowAt s.segments n))

/-- INTERRUPTER_STATE OPEN on a TRIPPING interrupter: it is OPEN with no timer and no waiter, each waiter is ISOLATED with its
newest chain entry OPENED, one INTERRUPTER_OPENED notice carries source REPORT and their number; arming is kept, a pulse runs
on (R128, R131). -/
def Obligations.OpenReportIsolatesWaiters : Prop :=
  ∀ (b : Byte) (s : State) (r : IntRec), ready s = true → inService s = true → clean s = true → b.toNat < 16 →
    rowAt s.interrupters b.toNat = some (.live r) → r.state = .tripping → r.waiters.Nodup →
    (∀ n ∈ r.waiters, n < 40) → s.nq.queue.length < 32 →
    ∃ t, exec (.interrupterState b 0) s = .next (answered 22 (okWith [0]) t) ∧
      t = { s with
        interrupters := t.interrupters, segments := t.segments
        nq := { s.nq with
          queue := s.nq.queue ++ [⟨s.nq.seq, s.ft.frame, .interrupterOpened b.toNat .report r.waiters.length false⟩]
          seq := s.nq.seq + 1, tail := if urgencySource t then s.nq.tail else s.params.maintTail } } ∧
      (∀ k, rowAt t.interrupters k = if k = b.toNat then some (.live { r with state := .opened, confirm := none, waiters := [] })
        else rowAt s.interrupters k) ∧
      (∀ n q, n ∈ r.waiters → segmentAt s n = some q → ∃ v, rowAt t.segments n = some (.live { q with state := .isolated, verdict := v }) ∧
        (q.verdict = none → v = none) ∧
        ∀ w init e, q.verdict = some w → w.chain = init ++ [e] → v = some { w with chain := init ++ [{ e with outcome := .opened }] }) ∧
      ∀ n, n ∉ r.waiters ∨ segmentAt s n = none → rowAt t.segments n = rowAt s.segments n

/-! ### Reports (R37 to R43) -/

/-- REPORT in RUN with good fields is answered OK with the current frame number and one outcome for each entry; its effect and its
outcomes are those of its entries judged one at a time in their order, each on the state the ones before it leave, and nothing
else changes but a tail that ends or begins with the urgency source (R37, R38, R148). -/
def Obligations.ReportAnswersEveryEntry : Prop :=
  ∀ (entries : List ReportEntry) (s : State), ready s = true → s.mc.mode = .run → fieldFault (.report entries) = none →
    let out := judgeEntries entries s
    let tail := if urgencySource s && !urgencySource out.1 then out.1.params.maintTail
      else if !urgencySource s && urgencySource out.1 then 0 else out.1.nq.tail
    exec (.report entries) s = .next (answered 25
      (okWith (frameBytes s.ft.frame ++ int1 entries.length ++ out.2.flatMap fun o => int1 (entryOutcomeByte o)))
      { out.1 with nq := { out.1.nq with tail := tail } }) ∧
    out.2.length = entries.length ∧ out.1.mc = s.mc ∧ out.1.hl = s.hl ∧ out.1.ft = s.ft ∧ out.1.params = s.params ∧
    judgeEntries [] s = (s, []) ∧
    ∀ (e : ReportEntry) (rest : List ReportEntry) (u : State),
      judgeEntries (e :: rest) u = ((judgeEntries rest (judgeEntry e u).1).1, (judgeEntry e u).2 :: (judgeEntries rest (judgeEntry e u).1).2)

/-- One entry is judged by the checks in their order: FUTURE for a frame ahead, LATE for one not held OPEN or CLOSABLE,
UNKNOWN_SENSOR for an address in no index entry or a slot not expected, PHASE_MISMATCH for a VALID entry that lacks a phase,
DUPLICATE for a slot already stored; each but PHASE_MISMATCH adds 1 to its own count and changes nothing else (R38 to R42). -/
def Obligations.EntriesAreJudgedInOrder : Prop :=
  ∀ (e : ReportEntry) (s : State), clean s = true →
    let rise (n : CountName) (o : EntryOutcome) : Prop := ∃ c, judgeEntry e s = ({ s with cb := { s.cb with counts := c } }, o) ∧
      ∀ d, c.get d = if d = n then min (s.cb.counts.get d + 1) 65535 else s.cb.counts.get d
    (frameDiff s.ft.frame e.frame < 0 → rise .reportFuture .future) ∧
    (0 ≤ frameDiff s.ft.frame e.frame → (∀ f ∈ s.ring, f.number = e.frame → f.cond = .evaluating) → rise .reportLate .late) ∧
    ∀ before f after, 0 ≤ frameDiff s.ft.frame e.frame → s.ring = before ++ f :: after → f.number = e.frame →
      f.cond ≠ .evaluating → (∀ g ∈ before, g.number ≠ e.frame ∨ g.cond = .evaluating) →
      (rowAt s.index e.address.toNat = none → rise .reportUnknown .unknownSensor) ∧
      ∀ d r, rowAt s.index e.address.toNat = some d → sensorAt s d = some r →
        let lacks := ∃ p : Phase, perPhase r.phases p = true ∧ perPhase (phasesOfByte e.carried) p = false
        (d ∉ f.expected → rise .reportUnknown .unknownSensor) ∧
        (d ∈ f.expected → e.quality = 0 → lacks → judgeEntry e s = (s, .phaseMismatch)) ∧
        (d ∈ f.expected → (e.quality ≠ 0 ∨ ¬ lacks) → rowAt f.reports d ≠ none → rise .reportDuplicate .duplicate)

/-- An entry that passes every check is STORED in its frame: an INVALID one without values, a VALID one with its phases of the
sensor, V clamped to 2047, one count for an entry clamped; the sensor is seen; the frame is tested for closing with the report in
it. A frame that is not the oldest stays in the ring; the oldest, made CLOSABLE by the report with no pass in flight, closes at
once and its pass begins at stage 1 with the sensors then shadowed (R43, R48, R49, R68, R75). -/
def Obligations.StoredEntriesKeepTheirValues : Prop :=
  ∀ (e : ReportEntry) (s : State) (f : Frame) (before after : List Frame) (d : Nat) (r : SensorRec),
    clean s = true → 0 ≤ frameDiff s.ft.frame e.frame → s.ring = before ++ f :: after → f.number = e.frame →
    f.cond ≠ .evaluating → (∀ h ∈ before ++ after, h.number ≠ e.frame) →
    rowAt s.index e.address.toNat = some d → sensorAt s d = some r → d ∈ f.expected → rowAt f.reports d = none →
    (e.quality ≠ 0 ∨ phaseSubset r.phases (phasesOfByte e.carried) = true) →
    let clamped := ∃ p v, perPhase r.phases p = true ∧ entryValue e p = some v ∧ 2047 < v.v.toNat
    let report : StoredReport := if e.quality = 0 then .valid
        { phases := ofPhases fun p => if perPhase r.phases p then
            (entryValue e p).map fun v => ⟨min v.v.toNat 2047, v.i.toNat, v.surge == 1⟩ else none
          residual := e.residual.toNat } else .invalid
    ∃ t f', judgeEntry e s = (t, .stored) ∧
      t = { s with sensors := t.sensors, ring := t.ring, pass := t.pass, cb := { s.cb with counts := t.cb.counts } } ∧
      (∀ k, rowAt t.sensors k = if k = d then some (.live { r with seen := true }) else rowAt s.sensors k) ∧
      (∀ c, c = .reportClamped → e.quality = 0 → clamped → t.cb.counts.get c = min (s.cb.counts.get c + 1) 65535) ∧
      (∀ c, ¬ (c = .reportClamped ∧ e.quality = 0 ∧ clamped) → t.cb.counts.get c = s.cb.counts.get c) ∧
      (∀ k, rowAt f'.reports k = if k = d then some report else rowAt f.reports k) ∧
      f' = testFrame s { f with reports := f'.reports } ∧
      (before ≠ [] ∨ f.cond ≠ .opened ∨ f'.cond ≠ .closable ∨ s.pass ≠ none →
        t.ring = before ++ f' :: after ∧ t.pass = s.pass) ∧
      (before = [] → f.cond = .opened → f'.cond = .closable → s.pass = none →
        t.ring = { f' with cond := .evaluating } :: after ∧
        ∃ sh, t.pass = some ⟨f.number, .one, sh, [], [], [], [], []⟩ ∧
          ∀ b, b ∈ sh ↔ ∃ x q, x < 16 ∧ interrupterAt s x = some q ∧ q.boundary = b ∧ (q.state = .opened ∨ q.state = .tripping))

/-! ### Notices (R146 to R150) -/

/-- A full queue makes room by class: a TRIP notice displaces the oldest MAINT, else the oldest STATE; a STATE notice the oldest
MAINT; otherwise the new one is discarded. Each loss adds 1 to NOTICE_DROPPED and latches NOTICE_OVERFLOW; the number is taken
all the same (R146, R147). -/
def Obligations.FullQueueDisplacesByClass : Prop :=
  ∀ (frame : FrameNo) (body : NoticeBody) (s : State), s.nq.queue.length = 32 →
    let n : Notice := ⟨s.nq.seq, frame, body⟩
    let isOf (c : NoticeClass) (x : Notice) : Prop := noticeClass x.body = c
    let lost (q : List Notice) : Prop :=
      ∃ c, raiseAt frame body s = { s with nq := { s.nq with queue := q, seq := s.nq.seq + 1 }, cb := c } ∧
        (∀ d, c.counts.get d = if d = .noticeDropped then min (s.cb.counts.get d + 1) 65535 else s.cb.counts.get d) ∧
        (∀ d, c.conds.get d = (d == .noticeOverflow || s.cb.conds.get d)) ∧
        (∀ d, c.raised.get d = ((d == .noticeOverflow && s.cb.snapshot.isSome) || s.cb.raised.get d)) ∧
        c.snapshot = s.cb.snapshot ∧ c.token = s.cb.token
    (∀ before x after, s.nq.queue = before ++ x :: after → isOf .maint x → (∀ y ∈ before, ¬ isOf .maint y) →
      noticeClass body ≠ .maint → lost (before ++ after ++ [n])) ∧
    (∀ before x after, s.nq.queue = before ++ x :: after → isOf .state x → (∀ y ∈ before, isOf .trip y) →
      (∀ y ∈ after, ¬ isOf .maint y) → noticeClass body = .trip → lost (before ++ after ++ [n])) ∧
    (noticeClass body = .maint ∨ (noticeClass body = .state ∧ ∀ y ∈ s.nq.queue, ¬ isOf .maint y) ∨
      (noticeClass body = .trip ∧ ∀ y ∈ s.nq.queue, isOf .trip y) → lost s.nq.queue)

/-- FETCH_NOTICES returns the oldest fetchable notices up to the number asked and keeps the others in order, held MAINT notices
among them, and answers how many are still fetchable, how many are held, and the sequence counter; while urgency holds every
MAINT notice is held. The bytes of a notice's own fields are log 26. ATTN is asserted exactly when the queue holds a notice that
FETCH_NOTICES would return; it is low after a hard reset. In START no urgency source is read (log 16) (R148, R149, R150, R151). -/
def Obligations.FetchAndAttnFollowUrgency : Prop :=
  (∀ (n : Byte) (s : State), ready s = true → inService s = true → 1 ≤ n.toNat → n.toNat ≤ 8 →
     let may (x : Notice) : Bool := !(urgency s && noticeClass x.body == .maint)
     ∃ taken kept, exec (.fetchNotices n) s = .next (answered 26 (okWith (
         int1 (kept.countP may) ++ int1 (kept.countP fun x => !may x) ++ halfBytes s.nq.seq ++ int1 taken.length
           ++ taken.flatMap noticeBytes)) { s with nq := { s.nq with queue := kept } }) ∧
       taken = (s.nq.queue.filter may).take n.toNat ∧ kept.filter may = (s.nq.queue.filter may).drop n.toNat ∧
       kept.filter (fun x => !may x) = s.nq.queue.filter (fun x => !may x) ∧ kept.Sublist s.nq.queue) ∧
  ((∀ s : State, attn s = true ↔ ∃ n ∈ s.nq.queue,
     noticeClass n.body ≠ .maint ∨
       (s.nq.tail = 0 ∧ (s.mc.mode = .start ∨
         ((∀ k q, k < 40 → segmentAt s k = some q → q.state ≠ .suspect ∧ q.state ≠ .isolating) ∧
           ∀ x q, x < 16 → interrupterAt s x = some q → q.state ≠ .tripping)))) ∧
   ∀ (st bd : BitVec 2) (s : State), ∃ t, exec (.hardReset st bd) s = .next t ∧ attn t = false)

/-! ### Counts (R152 to R154) -/

/-- GET_COUNTS: refused with WRONG_MODE in START and FAILED; otherwise, also while a pass is in flight, the token counter rises
by 1, wrapping from 255 to 0, a snapshot of the counts and conditions is recorded under it, every raised-since-snapshot mark is
cleared, and the reply carries the token, counts and conditions; the counts go on rising and the snapshot does not follow
(R153). -/
def Obligations.GetCountsTakesSnapshot : Prop :=
  (∀ s : State, ready s = true → s.mc.mode = .start ∨ s.mc.mode = .failed →
    exec .getCounts s = .next (answered 27 (refuse .wrongMode) s)) ∧
  (∀ s : State, ready s = true → s.mc.mode = .hold ∨ s.mc.mode = .run →
    let token : BitVec 8 := if s.cb.token = 255 then 0 else s.cb.token + 1
    exec .getCounts s = .next (answered 27 (okWith ([token] ++ countsBytes s.cb.counts ++ int1 (condsByte s.cb.conds)))
      { s with cb := { s.cb with
        token, snapshot := some { token, counts := s.cb.counts, conds := s.cb.conds }
        raised := ⟨false, false, false, false⟩ } })) ∧
  ∀ (c : CountName) (s : State), (bump c s).cb.snapshot = s.cb.snapshot ∧
    ∀ d, (bump c s).cb.counts.get d = if d = c then min (s.cb.counts.get d + 1) 65535 else s.cb.counts.get d

/-- CLEAR_COUNTS: refused with WRONG_MODE in START and FAILED, with STALE_SNAPSHOT when no snapshot is held or the token differs,
Counts, conditions and snapshot kept; a matching token takes the snapshot's values from the counts, clears each condition set in
the snapshot and not raised since, drops the snapshot, and answers what is left; the same token again is refused (R154). -/
def Obligations.ClearCountsSubtractsSnapshot : Prop :=
  ∀ (token : Byte) (s : State), ready s = true →
    (s.mc.mode = .start ∨ s.mc.mode = .failed → exec (.clearCounts token) s = .next (answered 28 (refuse .wrongMode) s)) ∧
    (s.mc.mode = .hold ∨ s.mc.mode = .run →
      (s.cb.snapshot = none → exec (.clearCounts token) s = .next (answered 28 (refuse .staleSnapshot) s)) ∧
      ∀ p, s.cb.snapshot = some p →
        (token ≠ p.token → exec (.clearCounts token) s = .next (answered 28 (refuse .staleSnapshot) s)) ∧
        (token = p.token → ∃ c k, exec (.clearCounts token) s = .next (answered 28
            (okWith (countsBytes c ++ int1 (condsByte k))) { s with cb := { s.cb with counts := c, conds := k, snapshot := none } }) ∧
          (∀ d, (c.get d : Int) = max 0 ((s.cb.counts.get d : Int) - p.counts.get d)) ∧
          ∀ d, k.get d = if p.conds.get d = true ∧ s.cb.raised.get d = false then false else s.cb.conds.get d))

/-! ### Table Memory (R162, R163) -/

/-- INJECT inverts bits of the record named and nothing else: SINGLE the bit at the position, DOUBLE that bit and the next above,
or below at position 31; NOT_FOUND for an empty place, STATE_CONFLICT for a lost record; two SINGLE injections at one position
cancel, at two positions they leave a double error (R163). -/
def Obligations.InjectInvertsStoredBits : Prop :=
  (∀ (b pos : Byte) (double : Bool) (s : State), ready s = true → s.pass = none → s.mc.mode = .hold → pos.toNat ≤ 31 →
    let p := pos.toNat
    let size : Byte := if double then 1 else 0
    let flips (old new : BitVec 32) : Prop := ∀ j < 32, new.getLsbD j =
      (old.getLsbD j != decide (j = p ∨ double = true ∧ ((p < 31 ∧ j = p + 1) ∨ (p = 31 ∧ j = 30))))
    let gone (target : Byte) : Prop := exec (.inject target b size pos) s = .next (answered 29 (refuse .notFound) s)
    let lost (target : Byte) : Prop := exec (.inject target b size pos) s = .next (answered 29 (refuse .stateConflict) s)
    (b.toNat < 48 → (rowAt s.sensors b.toNat = none → gone 0) ∧ (rowAt s.sensors b.toNat = some .quarantined → lost 0) ∧
      ∀ r, rowAt s.sensors b.toNat = some (.live r) → ∃ a e, flips r.err e ∧
        exec (.inject 0 b size pos) s = .next (answered 29 (okWith []) { s with sensors := a }) ∧
        ∀ k, rowAt a k = if k = b.toNat then some (.live { r with err := e }) else rowAt s.sensors k) ∧
    (b.toNat < 40 → (rowAt s.segments b.toNat = none → gone 1) ∧ (rowAt s.segments b.toNat = some .quarantined → lost 1) ∧
      ∀ r, rowAt s.segments b.toNat = some (.live r) → ∃ a e, flips r.err e ∧
        exec (.inject 1 b size pos) s = .next (answered 29 (okWith []) { s with segments := a }) ∧
        ∀ k, rowAt a k = if k = b.toNat then some (.live { r with err := e }) else rowAt s.segments k) ∧
    (b.toNat < 16 → (rowAt s.interrupters b.toNat = none → gone 2) ∧
      (rowAt s.interrupters b.toNat = some .tableError → lost 2) ∧
      ∀ r, rowAt s.interrupters b.toNat = some (.live r) → ∃ a e, flips r.err e ∧
        exec (.inject 2 b size pos) s = .next (answered 29 (okWith []) { s with interrupters := a }) ∧
        ∀ k, rowAt a k = if k = b.toNat then some (.live { r with err := e }) else rowAt s.interrupters k)) ∧
  ∀ i j : Nat, i < 32 → j < 32 →
    injectMask false i ^^^ injectMask false i = 0 ∧ (i ≠ j → readResult (injectMask false i ^^^ injectMask false j) = .double)

/-- A read of a record with one inverted bit delivers it corrected and writes it back, counts it, and holds the first bank (the
interrupter bank by its number of log 14); with two it latches ECC_DOUBLE_SEEN, and the record is lost: the sensor leaves index
and ring, and every segment that names it and does not exclude it yet adds it, each with its SEGMENT_BLIND or SEGMENT_DEGRADED
notice in ascending number; the segment leaves every waiters list; the interrupter is lost with TABLE_ERROR, and where it was
TRIPPING the segments in ISOLATING whose newest chain entry names it escalate in ascending number, here where no trip is allowed:
each is WITHHELD. The QUARANTINED notice comes first. An edit of a waiters list without a read leaves that record's inverted bits
(log 12). So do commands meet them: a query of a record with one inverted bit answers the record corrected, with two the form of
a lost one (log 25), and leaves what the read leaves, a tail that starts with the end of the urgency source apart; a REPORT entry
whose look-up finds two is answered UNKNOWN_SENSOR and counted, with one it is judged on the corrected record (R6, R16, R20, R22,
R23, R40, R112, R113, R135, R144, R148, R162). -/
def Obligations.ReadsCorrectOrQuarantine : Prop :=
  (∀ (n : Nat) (s : State),
    let corrected (bank : Nat) (t : State) : Prop := ∃ c, t = { s with
        sensors := t.sensors, segments := t.segments, interrupters := t.interrupters, cb := { s.cb with counts := c }
        tm := { s.tm with
          pendingCorrections := min (s.tm.pendingCorrections + 1) 65535, firstBank := some (s.tm.firstBank.getD bank) } } ∧
      ∀ d, c.get d = if d = .eccCorrected then min (s.cb.counts.get d + 1) 65535 else s.cb.counts.get d
    let latched (c : CountBank) : Prop := c.counts = s.cb.counts ∧ (∀ d, c.conds.get d = (d == .eccDoubleSeen || s.cb.conds.get d)) ∧
      (∀ d, c.raised.get d = ((d == .eccDoubleSeen && s.cb.snapshot.isSome) || s.cb.raised.get d)) ∧
      c.snapshot = s.cb.snapshot ∧ c.token = s.cb.token
    let raising (notices : List NoticeBody) : NoticeQueue := { s.nq with
      queue := s.nq.queue ++ notices.mapIdx fun i b => ⟨s.nq.seq + BitVec.ofNat 16 i, s.ft.frame, b⟩
      seq := s.nq.seq + BitVec.ofNat 16 notices.length }
    (∀ r, sensorAt s n = some r → invertedBits r.err = 1 → corrected (n / 6) (readSensor n s) ∧
      (readSensor n s).segments = s.segments ∧ (readSensor n s).interrupters = s.interrupters ∧
      ∀ k, rowAt (readSensor n s).sensors k = if k = n then some (.live { r with err := 0 }) else rowAt s.sensors k) ∧
    (∀ r, segmentAt s n = some r → invertedBits r.err = 1 → corrected (n / 5) (readSegment n s) ∧
      (readSegment n s).sensors = s.sensors ∧ (readSegment n s).interrupters = s.interrupters ∧
      ∀ k, rowAt (readSegment n s).segments k = if k = n then some (.live { r with err := 0 }) else rowAt s.segments k) ∧
    (∀ r, interrupterAt s n = some r → invertedBits r.err = 1 → corrected 8 (readInterrupter n s) ∧
      (readInterrupter n s).sensors = s.sensors ∧ (readInterrupter n s).segments = s.segments ∧
      ∀ k, rowAt (readInterrupter n s).interrupters k = if k = n then some (.live { r with err := 0 }) else rowAt s.interrupters k) ∧
    (∀ (r : SensorRec) (ks : List Nat), sensorAt s n = some r → invertedBits r.err = 2 → (∀ k q, k < 40 → segmentAt s k = some q → q.err = 0) →
      ks.Pairwise (· < ·) → (∀ k, k ∈ ks ↔ k < 40 ∧ ∃ q, segmentAt s k = some q ∧ n ∈ q.up :: q.down ∧ n ∉ q.excluded) →
      s.nq.queue.length + 1 + ks.length ≤ 32 →
      let joined (k : Nat) : NoticeBody := match segmentAt s k with
        | some q =>
          let blind := decide (q.up = n ∨ q.up ∈ q.excluded)
          let degraded := decide (∃ d ∈ q.down, d = n ∨ d ∈ q.excluded)
          if q.up = n then .segmentBlind k n q.state blind degraded else .segmentDegraded k n q.state blind degraded
        | none => .quarantined .segment k
      ∃ a b g c, readSensor n s = { s with
          sensors := a, index := b, segments := g, cb := c
          ring := s.ring.map fun f => { f with expected := f.expected.filter (· != n), reports := dropRow f.reports n }
          nq := raising (.quarantined .sensor n :: ks.map joined) } ∧
        (∀ k, rowAt a k = if k = n then some .quarantined else rowAt s.sensors k) ∧
        b = s.index.filter (fun p => p.2 != n) ∧ latched c ∧ (∀ k, k ∉ ks → rowAt g k = rowAt s.segments k) ∧
        ∀ k q, k ∈ ks → segmentAt s k = some q → ∃ e, rowAt g k = some (.live { q with excluded := e }) ∧
          ∀ d, d ∈ e ↔ d = n ∨ d ∈ q.excluded) ∧
    (∀ r, segmentAt s n = some r → invertedBits r.err = 2 → s.nq.queue.length < 32 →
      ∃ g x c, readSegment n s = { s with
          segments := g, interrupters := x, cb := c
          pass := s.pass.map fun p => { p with work := dropRow p.work n }
          nq := raising [.quarantined .segment n] } ∧
        (∀ k, rowAt g k = if k = n then some .quarantined else rowAt s.segments k) ∧
        (∀ k q, rowAt s.interrupters k = some (.live q) →
          rowAt x k = some (.live { q with waiters := q.waiters.filter (· != n) })) ∧ latched c) ∧
    (∀ r, interrupterAt s n = some r → invertedBits r.err = 2 →
      let lost (x : Table IntPlace) : Prop := ∀ k, rowAt x k = if k = n then some .tableError else rowAt s.interrupters k
      (r.state ≠ .tripping → s.nq.queue.length < 32 → ∃ x c, readInterrupter n s = { s with
          interrupters := x, cb := c, nq := raising [.quarantined .interrupter n] } ∧ lost x ∧ latched c) ∧
      ∀ ws : List Nat, r.state = .tripping → s.mc.mode ≠ .run ∨ effectiveInhibit s = true →
        (∀ k q, k < 40 → segmentAt s k = some q → q.err = 0) → ws.Pairwise (· < ·) →
        (∀ k, k ∈ ws ↔ k < 40 ∧ ∃ q v e, segmentAt s k = some q ∧ q.state = .isolating ∧ q.verdict = some v ∧
          v.chain.getLast? = some e ∧ e.id = n ∧ (e.outcome = .tripped ∨ e.outcome = .joined)) →
        s.nq.queue.length + 1 + max 1 ws.length ≤ 32 →
        ∃ x g c, readInterrupter n s = { s with
            interrupters := x, segments := g, cb := c
            nq := raising (.quarantined .interrupter n :: if ws = [] then [.escalated n .tableError none none none]
              else ws.map fun k => .escalated n .tableError (some k) (some .withheld) none) } ∧
          lost x ∧ latched c ∧ (∀ k, k ∉ ws → rowAt g k = rowAt s.segments k) ∧
          ∀ k q v init e, k ∈ ws → segmentAt s k = some q → q.verdict = some v → v.chain = init ++ [e] →
            rowAt g k = some (.live { q with
              state := .withheld, verdict := some { v with chain := init ++ [{ e with outcome := .escalatedFrom }] } }))) ∧
  ∀ s : State, ready s = true →
    let ended (t : State) : State := { t with nq := { t.nq with
      tail := if urgencySource s && !urgencySource t then s.params.maintTail else t.nq.tail } }
    (∀ (b : Byte) (r : SensorRec), inService s = true → b.toNat < 48 → sensorAt s b.toNat = some r →
      (∀ k q, k < 40 → segmentAt s k = some q → q.err = 0) →
      let t := readSensor b.toNat s
      (invertedBits r.err = 1 →
        exec (.querySensor b) s = .next (answered 12 (okWith (sensorBytes t b.toNat { r with err := 0 })) t)) ∧
      (invertedBits r.err = 2 → exec (.querySensor b) s = .next (answered 12 (okWith (sensorQuarantinedBytes t b.toNat)) t))) ∧
    (∀ (b : Byte) (r : SegRec), inService s = true → b.toNat < 40 → segmentAt s b.toNat = some r →
      (∀ k q, k < 40 → k ≠ b.toNat → segmentAt s k = some q → q.err = 0) →
      let t := readSegment b.toNat s
      (invertedBits r.err = 1 → (∀ d q, d ∈ r.up :: r.down → sensorAt s d = some q → q.err = 0) →
        exec (.querySegment b) s = .next (answered 15 (okWith (segmentBytes t { r with err := 0 })) t)) ∧
      (invertedBits r.err = 2 → exec (.querySegment b) s = .next (answered 15 (okWith segmentQuarantinedBytes) (ended t)))) ∧
    (∀ (b : Byte) (r : IntRec), inService s = true → b.toNat < 16 → interrupterAt s b.toNat = some r →
      let t := readInterrupter b.toNat s
      (invertedBits r.err = 1 →
        exec (.queryInterrupter b) s = .next (answered 20 (okWith (interrupterBytes t { r with err := 0 })) t)) ∧
      (invertedBits r.err = 2 → exec (.queryInterrupter b) s = .next (answered 20 (okWith interrupterLostBytes) (ended t)))) ∧
    ∀ (e : ReportEntry) (d : Nat) (r : SensorRec), s.mc.mode = .run → fieldFault (.report [e]) = none →
      0 ≤ frameDiff s.ft.frame e.frame → (∃ f ∈ s.ring, f.number = e.frame ∧ f.cond ≠ .evaluating) →
      rowAt s.index e.address.toNat = some d → sensorAt s d = some r →
      let t := readSensor d s
      (invertedBits r.err = 1 → judgeEntry e s = judgeEntry e t) ∧
      (invertedBits r.err = 2 → ∃ c,
        exec (.report [e]) s = .next (answered 25 (okWith (frameBytes s.ft.frame ++ [1, 3]))
          (ended { t with cb := { t.cb with counts := c } })) ∧
        ∀ k, c.get k = if k = .reportUnknown then min (t.cb.counts.get k + 1) 65535 else t.cb.counts.get k)

/-! ### The pass (R58 to R96) -/

/-- PASS_STAGE_1: each expected slot with a record takes its missing-run step; an ACTIVE sensor whose run reaches STALE_LIMIT is
STALE and unseeded; a valid report makes a STALE sensor ACTIVE and writes last values and surge marks; other slots are not
visited. Every segment record is as before but for its excluded set, which gains exactly the sensors newly STALE that the segment
names. The pass goes on to stage 2 and queues, slot by slot in the order of the expected set, for a sensor newly STALE its
SENSOR_STALE and then, in ascending number, a SEGMENT_BLIND or SEGMENT_DEGRADED for each segment that names it and did not exclude
it, with BLIND and DEGRADED after the addition; for a sensor that resumes its SENSOR_RESUMED with the segments that exclude it; for
every other slot none. Nothing else changes (R51, R58, R61, R78, R111, R112, R114). -/
def Obligations.PassStage1AccountsForReports : Prop :=
  ∀ (p : Pass) (f : Frame) (s : State), noneHeld s = true → clean s = true → s.pass = some p → p.stage = .one →
    evaluated s = some f → f.expected.Nodup →
    let missed (r : SensorRec) : SensorRec :=
      { r with missingRun := min (r.missingRun + 1) 255, missingTotal := min (r.missingTotal + 1) 65535 }
    let newlyStale (d : Nat) (r : SensorRec) : Prop := d ∈ f.expected ∧ sensorAt s d = some r ∧ validReport s d = none ∧
      r.status = .active ∧ s.params.staleLimit ≤ (missed r).missingRun
    let resumes (d : Nat) (r : SensorRec) : Prop := sensorAt s d = some r ∧ r.status = .stale ∧ validReport s d ≠ none
    ∃ t q notices, exec .passStage1 s = .next t ∧ t.pass = some q ∧
      q = { p with stage := .two, sensorNotices := p.sensorNotices ++ notices } ∧
      t = { s with sensors := t.sensors, segments := t.segments, pass := t.pass } ∧
      (∀ d, d ∉ f.expected ∨ sensorAt s d = none → rowAt t.sensors d = rowAt s.sensors d) ∧
      (∀ d r, d ∈ f.expected → sensorAt s d = some r →
        (validReport s d = none → r.status = .stale ∨ (missed r).missingRun < s.params.staleLimit →
          rowAt t.sensors d = some (.live (missed r))) ∧
        (newlyStale d r → rowAt t.sensors d = some (.live { missed r with
          status := .stale, learn := 0, residualBase := 0, currentBase := ⟨0, 0, 0⟩ })) ∧
        ∀ v, validReport s d = some v → ∃ marks, rowAt t.sensors d = some (.live { r with
            missingRun := 0, status := .active, surge := marks
            last := some ⟨mapPhases (fun _ x => x.map fun y => ⟨y.v, y.i⟩) v.phases, v.residual, f.number⟩ }) ∧
          ∀ k, perPhase marks k = match perPhase v.phases k with
            | some x => if x.surge || (surgePickup s d).any (fun limit => decide (limit ≤ x.i)) then some f.number
                else perPhase r.surge k
            | none => perPhase r.surge k) ∧
      (∀ n, 40 ≤ n ∨ segmentAt s n = none → rowAt t.segments n = rowAt s.segments n) ∧
      (∀ n g, n < 40 → segmentAt s n = some g → ∃ e, rowAt t.segments n = some (.live { g with excluded := e }) ∧
        ∀ d, d ∈ e ↔ d ∈ g.excluded ∨ (d ∈ g.up :: g.down ∧ ∃ r, newlyStale d r)) ∧
      ∃ block : Nat → List NoticeBody, notices = f.expected.flatMap block ∧
        ∀ before d after, f.expected = before ++ d :: after →
          (∀ r, newlyStale d r → ∃ (ns : List Nat) (joined : Nat → NoticeBody),
            block d = .sensorStale d (missed r).missingRun (missed r).missingTotal :: ns.map joined ∧ ns.Pairwise (· < ·) ∧
            (∀ n, n ∈ ns ↔ n < 40 ∧ ∃ g, segmentAt s n = some g ∧ d ∈ g.up :: g.down ∧ d ∉ g.excluded) ∧
            ∀ n g, n ∈ ns → segmentAt s n = some g →
              let out (e : Nat) : Prop := e = d ∨ e ∈ g.excluded ∨ (e ∈ before ∧ ∃ q, newlyStale e q)
              ∃ blind degraded, (blind = true ↔ out g.up) ∧ (degraded = true ↔ ∃ e ∈ g.down, out e) ∧
                joined n = if g.up = d then .segmentBlind n d g.state blind degraded
                  else .segmentDegraded n d g.state blind degraded) ∧
          (∀ r, resumes d r → ∃ ns : List Nat, block d = [.sensorResumed d r.missingTotal ns] ∧ ns.Pairwise (· < ·) ∧
            ∀ n, n ∈ ns ↔ n < 40 ∧ ∃ g, segmentAt s n = some g ∧ d ∈ g.excluded) ∧
          ((∀ r, ¬ newlyStale d r ∧ ¬ resumes d r) → block d = [])

/-- PASS_STAGE_2 works on the segments in NORMAL and SUSPECT that are not BLIND. A phase is tested when it is LIVE at the upstream
sensor and not in the operated set. It is found PRESENT where a participating downstream sensor shows it COLLAPSED or backfed, and
on a leaf where the seeded upstream sensor has a current baseline of LOAD_MIN or more and a current of I_DEAD or less; judged and
not so found it is ABSENT. A PRESENT phase whose last surge frame lies 0 to 3 frames back joins the operated set, gives no
evidence and queues PROTECTIVE_OPERATION; an operated phase leaves the set when it is LIVE again at every participating sensor, on
a leaf when its current is above I_DEAD. PRESENT adds 1 to a count up to 15 or 63, ABSENT sets it to 0, NOT_PERFORMED holds it.
With an increment at the upstream sensor the leak, less the downstream increments, is appended to the ring of the last eight and
is PRESENT at LEAK_PICKUP. The suspect details follow the outcomes, and with no open count they, the deadline timer and its mark
are cleared. The outcomes are kept for the pass; every other record is unchanged (R60, R67, R69, R70, R79 to R87, R97, R98,
R116). -/
def Obligations.PassStage2MovesCounts : Prop :=
  ∀ (p : Pass) (s : State), noneHeld s = true → clean s = true → s.pass = some p → p.stage = .two →
    let limits := selectedProfile s
    let vOpen := min limits.vOpen (limits.vLive - 1)
    let live (d : Nat) (k : Phase) : Prop := ∃ x, phaseReport s d k = some x ∧ limits.vLive ≤ x.v
    let collapsed (d : Nat) (k : Phase) : Prop := ∃ x, phaseReport s d k = some x ∧ x.v < limits.vLive ∧ x.v ≤ vOpen
    let backfed (r : SegRec) (d : Nat) (k : Phase) : Prop :=
      (∃ x, phaseReport s d k = some x ∧ x.v < limits.vLive ∧ vOpen < x.v ∧
        ∀ j, perPhase r.phases j = true → j ≠ k → live d j ∧ ∀ y, phaseReport s d j = some y → x.v ≤ y.v - limits.unbalGap) ∧
      ∃ j, perPhase r.phases j = true ∧ j ≠ k
    let takesPart (r : SegRec) (d : Nat) (k : Phase) : Prop :=
      d ∈ r.down ∧ (phaseReport s d k).isSome = true ∧ d ∉ r.excluded ∧ (sensorAt s d).isSome = true ∧ d ∉ p.shadowed
    let loaded (r : SegRec) (k : Phase) : Prop :=
      ∃ u, sensorAt s r.up = some u ∧ u.learn = 2 ^ s.params.baseShift ∧ limits.loadMin ≤ perPhase u.currentBase k
    let tested (r : SegRec) (k : Phase) : Prop := perPhase r.phases k = true ∧ live r.up k ∧ perPhase r.operated k = false
    let judged (r : SegRec) (k : Phase) : Prop :=
      tested r k ∧ ((r.down = [] ∧ loaded r k) ∨ (r.down ≠ [] ∧ ∃ d, takesPart r d k))
    let found (r : SegRec) (k : Phase) : Prop := judged r k ∧
      ((r.down = [] ∧ ∃ x, phaseReport s r.up k = some x ∧ x.i ≤ limits.iDead) ∨
        ∃ d, takesPart r d k ∧ (collapsed d k ∨ backfed r d k))
    let surge (r : SegRec) (k : Phase) (g : FrameNo) : Prop := ∃ u, sensorAt s r.up = some u ∧ perPhase u.surge k = some g ∧
      0 ≤ frameDiff p.frame g ∧ frameDiff p.frame g ≤ 3
    let operation (r : SegRec) (k : Phase) : Prop := found r k ∧ ∃ g, surge r k g
    let counted (r : SegRec) (k : Phase) : Prop := found r k ∧ ¬ ∃ g, surge r k g
    let present (r : SegRec) : Prop := ∃ k, counted r k
    let absent (r : SegRec) : Prop := ¬ present r ∧ ∃ k, judged r k ∧ ¬ found r k
    let released (r : SegRec) (k : Phase) : Prop := live r.up k ∧
      ((r.down = [] ∧ ∃ x, phaseReport s r.up k = some x ∧ limits.iDead < x.i) ∨
        ((∃ d, takesPart r d k) ∧ ∀ d, takesPart r d k → live d k))
    let share (r : SegRec) (d : Nat) : Nat := if d ∈ p.shadowed ∨ d ∈ r.excluded then 0 else (increment s d).getD 0
    let coarse (r : SegRec) : Prop := ∃ d ∈ r.down, d ∉ p.shadowed ∧ (d ∈ r.excluded ∨ increment s d = none)
    ∃ t q, exec .passStage2 s = .next t ∧ t.pass = some q ∧
      q = { p with stage := .three, work := q.work, segmentNotices := q.segmentNotices } ∧
      t = { s with segments := t.segments, pass := t.pass } ∧
      (∀ n, 40 ≤ n ∨ segmentAt s n = none → rowAt t.segments n = rowAt s.segments n ∧ rowAt q.work n = rowAt p.work n ∧
        rowAt q.segmentNotices n = rowAt p.segmentNotices n) ∧
      ∀ n r, n < 40 → segmentAt s n = some r →
        ((r.state ≠ .normal ∧ r.state ≠ .suspect) ∨ r.up ∈ r.excluded → rowAt t.segments n = some (.live r) ∧
          rowAt q.work n = rowAt p.work n ∧ rowAt q.segmentNotices n = rowAt p.segmentNotices n) ∧
        (r.state = .normal ∨ r.state = .suspect → r.up ∉ r.excluded →
          ∃ g w notices, rowAt t.segments n = some (.live g) ∧ rowAt q.work n = some w ∧
          (rowAt q.segmentNotices n).getD [] = (rowAt p.segmentNotices n).getD [] ++ notices ∧
          (∀ b, b ∈ notices ↔ ∃ k h, operation r k ∧ surge r k h ∧ b = .protectiveOperation n k h) ∧
          g = { r with
            openCount := g.openCount, contactCount := g.contactCount, leakRing := g.leakRing, operated := g.operated
            suspect := g.suspect, deadline := g.deadline, deadlinePassed := g.deadlinePassed } ∧
          (present r → g.openCount = min (r.openCount + 1) 15 ∧ w.openResult = .present) ∧
          (absent r → g.openCount = 0 ∧ w.openResult = .absent) ∧
          (¬ present r → ¬ absent r → g.openCount = r.openCount ∧ w.openResult = .notPerformed) ∧
          (∀ k, perPhase w.openPhases k = true ↔ counted r k) ∧
          (w.backfed = true ↔ ∃ k d, counted r k ∧ takesPart r d k ∧ backfed r d k) ∧
          (w.firstOpen = true ↔ r.openCount = 0 ∧ 0 < g.openCount) ∧
          (∀ k, perPhase g.operated k = true ↔ (perPhase r.operated k = true ∨ operation r k) ∧ ¬ released r k) ∧
          (increment s r.up = none → g.leakRing = r.leakRing ∧ g.contactCount = r.contactCount ∧
            w.contactResult = .notPerformed ∧ w.arc = none) ∧
          (∀ x, increment s r.up = some x →
            let leak := x - (r.down.map (share r)).sum
            g.leakRing = (r.leakRing ++ [leak]).drop (r.leakRing.length + 1 - 8) ∧ w.arc = some (arcScore g.leakRing) ∧
            (w.coarse = true ↔ coarse r) ∧
            (limits.leakPickup ≤ leak → g.contactCount = min (r.contactCount + 1) 63 ∧ w.contactResult = .present) ∧
            (leak < limits.leakPickup → g.contactCount = 0 ∧ w.contactResult = .absent)) ∧
          (r.state = .normal → g.suspect = r.suspect ∧ g.deadline = r.deadline ∧ g.deadlinePassed = r.deadlinePassed) ∧
          (r.state = .suspect → (g.openCount = 0 → g.deadline = none ∧ g.deadlinePassed = false) ∧
            (g.openCount ≠ 0 → g.deadline = r.deadline ∧ g.deadlinePassed = r.deadlinePassed) ∧
            ∀ d, r.suspect = some d → ∃ e, g.suspect = some e ∧ e.first = d.first ∧
              (g.openCount = 0 → e.openPhases = noPhases ∧ e.backfed = false ∧ e.loadLoss = false) ∧
              (g.openCount ≠ 0 → (∀ k, perPhase e.openPhases k = true ↔ perPhase d.openPhases k = true ∨ counted r k) ∧
                e.backfed = (d.backfed || w.backfed) ∧ (e.loadLoss = true ↔ d.loadLoss = true ∨ (r.down = [] ∧ present r))) ∧
              (g.contactCount = 0 → e.coarse = false) ∧
              (g.contactCount ≠ 0 → (e.coarse = true ↔ d.coarse = true ∨ (w.contactResult = .present ∧ coarse r)))))

/-- PASS_STAGE_3 moves each segment by its state: BLIND and verdict segments are unchanged; NORMAL and SUSPECT go DEENERGIZED
when every phase is COLLAPSED upstream; otherwise NORMAL goes SUSPECT on PRESENT evidence with its details filled, and the
segment is confirmed by the first class that holds: both outcomes PRESENT with counts of 2 or more, or both thresholds met; the
open count at N_OPEN; the contact count at N_CONTACT, or at half of it with four leaks and the arc score at ARC_PICKUP. With every
downstream sensor of a segment that has some excluded, only the contact condition confirms it, as DOWNED_CONDUCTOR, whatever open
count it holds. A SUSPECT segment not confirmed clears or stays as it is; DEENERGIZED leaves on a LIVE phase; SETTLING counts down;
each move queues its notice, and nothing else is queued. The tail follows the urgency source (R88, R90 to R94, R116, R117, R148). -/
def Obligations.PassStage3MovesStates : Prop :=
  ∀ (p : Pass) (s : State), noneHeld s = true → clean s = true → s.pass = some p → p.stage = .three →
    ∃ t q, exec .passStage3 s = .next t ∧ t.pass = some q ∧
      q = { p with stage := .four, confirmed := q.confirmed, segmentNotices := q.segmentNotices } ∧
      t = { s with
        segments := t.segments, pass := t.pass
        nq := { s.nq with tail :=
          if urgencySource s && !urgencySource t then s.params.maintTail
          else if !urgencySource s && urgencySource t then 0 else s.nq.tail } } ∧
      (∀ n, 40 ≤ n ∨ segmentAt s n = none → rowAt t.segments n = rowAt s.segments n ∧ rowAt q.confirmed n = rowAt p.confirmed n ∧
        rowAt q.segmentNotices n = rowAt p.segmentNotices n) ∧
      ∀ n r, n < 40 → segmentAt s n = some r →
        let w := workOf p n
        let limits := selectedProfile s
        let byOpen := limits.nOpen ≤ r.openCount
        let byContact := limits.nContact ≤ r.contactCount ∨ (w.arc.isSome = true ∧ (limits.nContact + 1) / 2 ≤ r.contactCount ∧
          4 ≤ r.leakRing.length ∧ limits.arcPickup ≤ w.arc.getD 0)
        let bothNow := w.openResult = .present ∧ w.contactResult = .present ∧ 2 ≤ r.openCount ∧ 2 ≤ r.contactCount
        let contactAlone := r.down ≠ [] ∧ ∀ d ∈ r.down, d ∈ r.excluded
        let verdict : Option VerdictClass := if contactAlone then (if byContact then some .downedConductor else none)
          else if bothNow ∨ (byOpen ∧ byContact) then some .brokenAndDown
          else if byOpen then some .brokenConductor
          else if byContact then some .downedConductor
          else none
        let clears := (w.openResult = .absent ∧ (w.contactResult = .absent ∨ r.contactCount = 0)) ∨
          (w.contactResult = .absent ∧ r.openCount = 0)
        let moved (g : SegRec) (k : Option VerdictClass) (notices : List NoticeBody) : Prop :=
          rowAt t.segments n = some (.live g) ∧ rowAt q.confirmed n = k ∧
          (rowAt q.segmentNotices n).getD [] = (rowAt p.segmentNotices n).getD [] ++ notices
        let before := rowAt p.confirmed n
        let stays := moved r before []
        let dead : SegRec := { r with
          state := .deenergized, openCount := 0, contactCount := 0, settle := 0, deadline := none, deadlinePassed := false
          leakRing := [], suspect := none }
        let collapsed := allCollapsedAt s r.up r.phases
        let judged := r.up ∉ r.excluded ∧ collapsed = false
        (r.up ∈ r.excluded ∨ r.state ∈ [.isolating, .isolated, .withheld, .isolationFailed] → stays) ∧
        (r.up ∉ r.excluded → r.state ∈ [.normal, .suspect, .settling] → collapsed = true →
          moved dead before [.deenergized n r.state]) ∧
        (judged → r.state = .normal → w.openResult ≠ .present → w.contactResult ≠ .present →
          moved r (if verdict = none then before else verdict) []) ∧
        (judged → r.state = .normal → w.openResult = .present ∨ w.contactResult = .present →
          (w.openResult = .present → 0 < r.openCount) → (w.contactResult = .present → 0 < r.contactCount) →
          moved
            { r with
              state := .suspect
              suspect := some { first := p.frame
                                openPhases := if r.openCount = 0 then noPhases else w.openPhases
                                backfed := decide (r.openCount ≠ 0) && w.backfed
                                loadLoss := decide (r.openCount ≠ 0 ∧ r.down = [] ∧ w.openResult = .present)
                                coarse := decide (r.contactCount ≠ 0 ∧ w.contactResult = .present) && w.coarse } }
            (if verdict = none then before else verdict)
            [.suspectBegin n (decide (w.openResult = .present)) (decide (w.contactResult = .present)) w.openPhases]) ∧
        (judged → r.state = .suspect → verdict ≠ none → moved r verdict []) ∧
        (judged → r.state = .suspect → verdict = none → ¬ clears → stays) ∧
        (judged → r.state = .suspect → verdict = none → clears →
          moved
            { r with
              state := .normal, suspect := none, openCount := 0, contactCount := 0, deadline := none, deadlinePassed := false
              transient := min (r.transient + 1) 65535 }
            before [.suspectCleared n (min (r.transient + 1) 65535)]) ∧
        (r.up ∉ r.excluded → r.state = .deenergized →
          ((∃ k, perPhase r.phases k = true ∧ liveAt s r.up k = true) → moved
            { r with
              state := if s.params.settleFrames = 0 then .normal else .settling, settle := s.params.settleFrames }
            before [.reenergized n s.params.settleFrames]) ∧
          ((∀ k, perPhase r.phases k = true → liveAt s r.up k = false) → stays)) ∧
        (r.up ∉ r.excluded → r.state = .settling →
          (validReport s r.up = none → stays) ∧
          (validReport s r.up ≠ none → collapsed = false → moved
            { r with settle := r.settle - 1, state := if r.settle ≤ 1 then .normal else .settling } before []))

/-- PASS_STAGE_4: an ACTIVE expected sensor with a valid report, every segment that names it NORMAL, learns: the first sample
sets each baseline, a later one moves it by d / 2^BASE_SHIFT rounded to the nearest with halves away from zero, never past the
input, and the learn count rises to 2^BASE_SHIFT; no other record changes. Of the pass only its stage and its list of newly seeded
sensors change: each sensor that so becomes seeded joins it once, in the order of the expected set, with its residual baseline (R63
to R65). -/
def Obligations.PassStage4LearnsBaselines : Prop :=
  (∀ (p : Pass) (f : Frame) (s : State), noneHeld s = true → clean s = true → s.pass = some p → p.stage = .four →
    evaluated s = some f → f.expected.Nodup →
    let k := s.params.baseShift
    let quiet (d : Nat) (r : SensorRec) : Prop := d ∈ f.expected ∧ sensorAt s d = some r ∧ r.status = .active ∧
      ∀ n g, n < 40 → segmentAt s n = some g → d ∈ g.up :: g.down → g.state = .normal
    let step (r : SensorRec) (b x : Nat) : Nat :=
      if r.learn = 0 then x
      else if b ≤ x then b + (x - b + 2 ^ (k - 1)) / 2 ^ k else b - (b - x + 2 ^ (k - 1)) / 2 ^ k
    ∃ t q added, exec .passStage4 s = .next t ∧ t.pass = some q ∧
      q = { p with stage := .completion, seeded := p.seeded ++ added } ∧ (added.map (·.1)).Sublist f.expected ∧
      (∀ d b, (d, b) ∈ added ↔ ∃ r v, quiet d r ∧ validReport s d = some v ∧ r.learn ≠ 2 ^ k ∧ 2 ^ k ≤ r.learn + 1 ∧
        b = step r r.residualBase v.residual) ∧
      t = { s with sensors := t.sensors, pass := t.pass } ∧
      (∀ d, (∀ r, quiet d r → validReport s d = none) → rowAt t.sensors d = rowAt s.sensors d) ∧
      ∀ d r v, quiet d r → validReport s d = some v →
        ∃ c, rowAt t.sensors d = some (.live { r with
            residualBase := step r r.residualBase v.residual, currentBase := c
            learn := if r.learn < 2 ^ k then r.learn + 1 else 2 ^ k }) ∧
          ∀ j, perPhase c j = match perPhase v.phases j with
            | some x => step r (perPhase r.currentBase j) x.i
            | none => perPhase r.currentBase j) ∧
  ∀ k b x : Nat, 1 ≤ k → min b x ≤ learnStep k b x ∧ learnStep k b x ≤ max b x

/-- PASS_COMPLETION. The notices of stage 1, of the segments in ascending number, the BASELINE_READY notices and the ECC_CORRECTED
notice are raised in this order with the evaluated frame's number; the frame leaves the ring, and a CLOSABLE next frame closes.
Where these are none: a segment SUSPECT on first open evidence has its deadline started with its budget less the frame's age, and
where nothing is left it expires at once, under HOLD with its mark and DEADLINE_PASSED, under TRIP with a BROKEN_CONDUCTOR
verdict. The segments confirmed in the pass are walked in ascending number: with no trip allowed each is WITHHELD; with one armed
REMOTE interrupter the first on every path, the first of them trips it and the others join it, TRIP_STARTED coming before the
first VERDICT. A TRIPPING interrupter with a measurement proof opens, its waiters are ISOLATED and INTERRUPTER_OPENED carries the
evaluated frame; one without is left (R50, R65, R72, R89, R95, R96, R99, R100, R125, R128, R129, R162). -/
def Obligations.PassCompletionTakesItsSteps : Prop :=
  ∀ (k : Fin 3) (p : Pass) (g : Frame) (rest : List Frame) (s : State), noneHeld s = true → clean s = true →
    s.pass = some p → p.stage = .completion → s.ring = g :: rest → g.cond = .evaluating →
    let moves (t : State) : Prop :=
      ((∀ h, rest.head? = some h → h.cond ≠ .closable) → t.ring = rest ∧ t.pass = none) ∧
      ∀ h more, rest = h :: more → h.cond = .closable → t.ring = { h with cond := .evaluating } :: more ∧
        ∃ n, t.pass = some n ∧ n.frame = h.number ∧ n.stage = .one
    let bodies := p.sensorNotices ++ (allSegments.flatMap fun n => (rowAt p.segmentNotices n).getD [])
      ++ (p.seeded.map fun x => .baselineReady x.1 x.2)
      ++ if s.tm.pendingCorrections = 0 then []
        else [.eccCorrected s.tm.pendingCorrections (s.tm.firstBank.getD 0)]
    let numbered (frame : FrameNo) (notices : List NoticeBody) : List Notice :=
      notices.mapIdx fun i b => ⟨s.nq.seq + BitVec.ofNat 16 i, frame, b⟩
    let tail (t : State) : Nat := if urgencySource s && !urgencySource t then s.params.maintTail else s.nq.tail
    let raising (frame : FrameNo) (notices : List NoticeBody) (t : State) : NoticeQueue := { s.nq with
      queue := s.nq.queue ++ numbered frame notices, seq := s.nq.seq + BitVec.ofNat 16 notices.length, tail := tail t }
    let proof (r : IntRec) : Prop := r.state = .tripping ∧ ∃ c b v, r.pulseFrame = some c ∧ 1 ≤ frameDiff p.frame c ∧
      sensorAt s r.boundary = some b ∧ validReport s r.boundary = some v ∧ r.boundary ∈ g.expected ∧
      (∀ j, perPhase b.phases j = true → collapsedAt s r.boundary j = true) ∧
      ∀ j y, perPhase v.phases j = some y → y.i ≤ (selectedProfile s).iDead
    let noProof := ∀ x r, x < 16 → interrupterAt s x = some r → ¬ proof r
    let noSuspect := ∀ n r, n < 40 → segmentAt s n = some r → r.state ≠ .suspect
    let allowed := s.mc.mode = .run ∧ effectiveInhibit s = false
    let marksOf (d : SuspectDetails) (expired : Bool) : Marks := ⟨expired, d.coarse, d.backfed, d.loadLoss⟩
    (noSuspect → noProof → s.nq.queue.length + bodies.length ≤ 32 →
      ∃ t, exec (.passCompletion k) s = .next t ∧ moves t ∧
        t = { s with
          ring := t.ring, pass := t.pass, nq := { raising p.frame bodies t with tail := s.nq.tail }
          tm := if s.tm.pendingCorrections = 0 then s.tm else { s.tm with pendingCorrections := 0, firstBank := none } }) ∧
    (bodies = [] → noProof → ∀ n r d, n < 40 → segmentAt s n = some r → r.state = .suspect → r.suspect = some d →
      r.deadline = none → rowAt p.confirmed n = none → (workOf p n).firstOpen = true →
      (∀ m q, m < 40 → m ≠ n → segmentAt s m = some q → q.state ≠ .suspect) →
      let left := (r.budget : Int) - frameDiff s.ft.frame p.frame * s.ft.period
      let rows (t : State) (q : SegRec) : Prop :=
        ∀ m, rowAt t.segments m = if m = n then some (.live q) else rowAt s.segments m
      (0 < left → ∃ t, exec (.passCompletion k) s = .next t ∧ moves t ∧
        t = { s with segments := t.segments, ring := t.ring, pass := t.pass } ∧
        rows t { r with deadline := some (s.now + left.toNat * 1000) }) ∧
      (left ≤ 0 → s.nq.queue.length < 32 →
        (s.mc.profile = .normal → r.policy = .hold → ∃ t, exec (.passCompletion k) s = .next t ∧ moves t ∧
          rows t { r with deadlinePassed := true } ∧
          t = { s with
            segments := t.segments, ring := t.ring, pass := t.pass
            nq := raising s.ft.frame [.deadlinePassed n r.openCount r.contactCount d.first] t }) ∧
        (s.mc.profile = .elevated ∨ r.policy = .trip → ¬ allowed → ∃ t, exec (.passCompletion k) s = .next t ∧ moves t ∧
          rows t { r with
            state := .withheld, suspect := none
            verdict := some ⟨.brokenConductor, d.openPhases, d.first, s.ft.frame, marksOf d true, []⟩ } ∧
          t = { s with
            segments := t.segments, ring := t.ring, pass := t.pass
            nq := raising s.ft.frame [.verdict n .withheld .brokenConductor d.openPhases d.first s.ft.frame (marksOf d true)
              r.openCount r.contactCount none] t }))) ∧
    (bodies = [] → noProof → ∀ (ns : List Nat) (rec : Nat → SegRec) (det : Nat → SuspectDetails) (kind : Nat → VerdictClass),
      ns ≠ [] → ns.Pairwise (· < ·) →
      (∀ n, n ∈ ns ↔ n < 40 ∧ ∃ r, segmentAt s n = some r ∧ r.state = .suspect) →
      (∀ n ∈ ns, segmentAt s n = some (rec n) ∧ (rec n).suspect = some (det n) ∧ rowAt p.confirmed n = some (kind n)) →
      let named (n : Nat) : PhaseSet := if kind n = .downedConductor then (rec n).phases else (det n).openPhases
      let decided (n : Nat) (st : SegState) (chain : List ChainEntry) : SegRec := { rec n with
        state := st, suspect := none, deadline := none
        verdict := some ⟨kind n, named n, (det n).first, p.frame, marksOf (det n) false, chain⟩ }
      let verdict (st : SegState) (n : Nat) : NoticeBody := .verdict n st (kind n) (named n) (det n).first p.frame
        (marksOf (det n) false) (rec n).openCount (rec n).contactCount ((workOf p n).arc.map (min · 65535))
      (¬ allowed → s.nq.queue.length + ns.length ≤ 32 → ∃ t, exec (.passCompletion k) s = .next t ∧ moves t ∧
        (∀ m, rowAt t.segments m = if m ∈ ns then some (.live (decided m .withheld [])) else rowAt s.segments m) ∧
        t = { s with
          segments := t.segments, ring := t.ring, pass := t.pass, nq := raising s.ft.frame (ns.map (verdict .withheld)) t }) ∧
      ∀ x q first others, allowed → ns = first :: others → x < 16 → interrupterAt s x = some q → q.kind = .remote →
        q.armed = true → q.state = .unknown ∨ q.state = .closed → frameDiff p.frame s.ft.frame ≤ 0 →
        (∀ y z, y < 16 → interrupterAt s y = some z → z.boundary = q.boundary → y = x) →
        (∀ n ∈ ns, ∃ below above, candidateBoundaries s n = below ++ q.boundary :: above ∧
          ∀ b ∈ below, ∀ y z, y < 16 → interrupterAt s y = some z → z.boundary ≠ b) →
        s.nq.queue.length + 1 + ns.length ≤ 32 →
        ∃ t, exec (.passCompletion k) s = .next t ∧ moves t ∧
          (∀ m, rowAt t.segments m = if m = first then some (.live (decided m .isolating [⟨x, .tripped⟩]))
            else if m ∈ others then some (.live (decided m .isolating [⟨x, .joined⟩])) else rowAt s.segments m) ∧
          (∀ y, rowAt t.interrupters y = if y = x then some (.live { q with
              state := .tripping, waiters := ns, saved := true, armed := false, outstanding := true
              confirm := some (s.now + q.confirmTime * 1000), pulseFrame := some s.ft.frame })
            else rowAt s.interrupters y) ∧
          t = { s with
            segments := t.segments, interrupters := t.interrupters, ring := t.ring, pass := t.pass
            nq := raising s.ft.frame
              (.tripStarted x .remote q.boundary q.confirmTime first .verdict :: ns.map (verdict .isolating)) t }) ∧
    (bodies = [] → noSuspect → ∀ x r, x < 16 → interrupterAt s x = some r → proof r →
      (∀ y q, y < 16 → y ≠ x → interrupterAt s y = some q → ¬ proof q) → r.waiters.Nodup → (∀ n ∈ r.waiters, n < 40) →
      s.nq.queue.length < 32 →
      ∃ t, exec (.passCompletion k) s = .next t ∧ moves t ∧
        t = { s with
          segments := t.segments, interrupters := t.interrupters, ring := t.ring, pass := t.pass
          nq := raising p.frame [.interrupterOpened x .measurement r.waiters.length false] t } ∧
        (∀ y, rowAt t.interrupters y = if y = x then some (.live { r with state := .opened, confirm := none, waiters := [] })
          else rowAt s.interrupters y) ∧
        (∀ n q, n ∈ r.waiters → segmentAt s n = some q → ∃ v, rowAt t.segments n = some (.live { q with state := .isolated, verdict := v }) ∧
          (q.verdict = none → v = none) ∧
          ∀ w init e, q.verdict = some w → w.chain = init ++ [e] → v = some { w with chain := init ++ [{ e with outcome := .opened }] }) ∧
        ∀ n, n ∉ r.waiters ∨ segmentAt s n = none → rowAt t.segments n = rowAt s.segments n)

/-! ### Verdicts and isolation (R89, R97 to R101, R122 to R137, R141, R142) -/

/-- DEADLINE_EXPIRY of a SUSPECT segment. Under HOLD the mark is set and DEADLINE_PASSED raised. Under TRIP (its own policy, or
ELEVATED) it is BROKEN_CONDUCTOR with the DEADLINE mark: outside RUN or inhibited it goes WITHHELD; an armed UNKNOWN or CLOSED
interrupter at its upstream sensor trips, with TRIP_STARTED then VERDICT; one TRIPPING is joined; with no interrupter and no
parent it goes ISOLATION_FAILED; one FAILED, OPEN or disarmed is passed with its chain entry, and the walk goes on to the parent's
boundary, where an armed REMOTE interrupter trips, or ends past the root. The clock at the expiry is log 4 (R89, R97, R100, R101,
R123 to R127, R137, R142, R148). -/
def Obligations.DeadlineExpiryDecides : Prop :=
  ∀ (n : Fin 40) (s : State) (r : SegRec) (d : SuspectDetails) (due : Nat), noneHeld s = true → clean s = true →
    segmentAt s n = some r → r.state = .suspect → r.suspect = some d → r.deadline = some due → s.nq.queue.length ≤ 30 →
    let now := max s.now due
    let note (i : Nat) (b : NoticeBody) : Notice := ⟨s.nq.seq + BitVec.ofNat 16 i, s.ft.frame, b⟩
    let marks : Marks := ⟨true, d.coarse, d.backfed, d.loadLoss⟩
    let decided (st : SegState) (chain : List ChainEntry) : SegRec := { r with
      state := st, suspect := none, deadline := none
      verdict := some ⟨.brokenConductor, d.openPhases, d.first, s.ft.frame, marks, chain⟩ }
    let verdict (st : SegState) : NoticeBody :=
      .verdict n st .brokenConductor d.openPhases d.first s.ft.frame marks r.openCount r.contactCount none
    let rows (t : State) (q : SegRec) : Prop :=
      ∀ k, rowAt t.segments k = if k = n.val then some (.live q) else rowAt s.segments k
    let tail (t : State) : Nat := if urgencySource s && !urgencySource t then s.params.maintTail else s.nq.tail
    let allowed := s.mc.mode = .run ∧ effectiveInhibit s = false
    (s.mc.profile = .normal → r.policy = .hold → ∃ t, exec (.deadlineExpiry n) s = .next t ∧
      t = { s with
        now, segments := t.segments
        nq := { s.nq with
          queue := s.nq.queue ++ [note 0 (.deadlinePassed n r.openCount r.contactCount d.first)], seq := s.nq.seq + 1 } } ∧
      rows t { r with deadline := none, deadlinePassed := true }) ∧
    (s.mc.profile = .elevated ∨ r.policy = .trip →
      (¬ allowed → ∃ t, exec (.deadlineExpiry n) s = .next t ∧ rows t (decided .withheld []) ∧
        t = { s with
          now, segments := t.segments
          nq := { s.nq with queue := s.nq.queue ++ [note 0 (verdict .withheld)], seq := s.nq.seq + 1, tail := tail t } }) ∧
      (allowed → (∀ y q, y < 16 → interrupterAt s y = some q → q.boundary ≠ r.up) →
        (∀ m q, m < 40 → segmentAt s m = some q → r.up ∉ q.down) →
        ∃ t, exec (.deadlineExpiry n) s = .next t ∧ rows t (decided .isolationFailed []) ∧
          t = { s with
            now, segments := t.segments
            nq := { s.nq with
              queue := s.nq.queue ++ [note 0 (verdict .isolationFailed), note 1 (.isolationFailed n .brokenConductor 0)]
              seq := s.nq.seq + 2, tail := tail t } }) ∧
      ∀ x q, allowed → x < 16 → interrupterAt s x = some q → q.boundary = r.up →
        (∀ y q', y < 16 → interrupterAt s y = some q' → q'.boundary = r.up → y = x) →
        (∀ o, (q.state = .failed ∧ o = .skippedFailed) ∨ (q.state = .opened ∧ o = .skippedOpen) ∨
            ((q.state = .unknown ∨ q.state = .closed) ∧ q.armed = false ∧ o = .skippedDisarmed) →
          ((∀ m g, m < 40 → segmentAt s m = some g → r.up ∉ g.down) →
            ∃ t, exec (.deadlineExpiry n) s = .next t ∧ rows t (decided .isolationFailed [⟨x, o⟩]) ∧
              t = { s with
                now, segments := t.segments
                nq := { s.nq with
                  queue := s.nq.queue ++ [note 0 (verdict .isolationFailed), note 1 (.isolationFailed n .brokenConductor 1)]
                  seq := s.nq.seq + 2, tail := tail t } }) ∧
          ∀ m g y z, m < 40 → segmentAt s m = some g → r.up ∈ g.down →
            (∀ l h, l < 40 → segmentAt s l = some h → r.up ∈ h.down → l = m) → g.up ≠ r.up → y < 16 →
            interrupterAt s y = some z → z.boundary = g.up → z.kind = .remote → z.armed = true →
            z.state = .unknown ∨ z.state = .closed →
            (∀ y' z', y' < 16 → interrupterAt s y' = some z' → z'.boundary = g.up → y' = y) →
            ∃ t, exec (.deadlineExpiry n) s = .next t ∧ rows t (decided .isolating [⟨x, o⟩, ⟨y, .tripped⟩]) ∧
              (∀ k, rowAt t.interrupters k = if k = y then some (.live { z with
                  state := .tripping, waiters := [n.val], saved := true, armed := false, outstanding := true
                  confirm := some (now + z.confirmTime * 1000), pulseFrame := some s.ft.frame })
                else rowAt s.interrupters k) ∧
              t = { s with
                now, segments := t.segments, interrupters := t.interrupters
                nq := { s.nq with
                  queue := s.nq.queue ++
                    [note 0 (.tripStarted y .remote z.boundary z.confirmTime n .verdict), note 1 (verdict .isolating)]
                  seq := s.nq.seq + 2 } }) ∧
        (q.state = .tripping → ∃ t, exec (.deadlineExpiry n) s = .next t ∧ rows t (decided .isolating [⟨x, .joined⟩]) ∧
          (∀ k, rowAt t.interrupters k = if k = x then some (.live { q with waiters := q.waiters ++ [n.val] })
            else rowAt s.interrupters k) ∧
          t = { s with
            now, segments := t.segments, interrupters := t.interrupters
            nq := { s.nq with queue := s.nq.queue ++ [note 0 (verdict .isolating)], seq := s.nq.seq + 1 } }) ∧
        (q.state = .unknown ∨ q.state = .closed → q.armed = true →
          ∃ t, exec (.deadlineExpiry n) s = .next t ∧ rows t (decided .isolating [⟨x, .tripped⟩]) ∧
            (∀ k, rowAt t.interrupters k = if k = x then some (.live { q with
                state := .tripping, waiters := [n.val], saved := true, armed := false, outstanding := true
                confirm := some (now + q.confirmTime * 1000), pulseFrame := some s.ft.frame })
              else rowAt s.interrupters k) ∧
            (∀ c, t.channels.get c = if q.kind = .loc c ∧ (s.channels.get c).failed = false
              then { s.channels.get c with pulse := some (now + (s.channels.get c).width * 1000) } else s.channels.get c) ∧
            t = { s with
              now, segments := t.segments, interrupters := t.interrupters, channels := t.channels
              nq := { s.nq with
                queue := s.nq.queue ++
                  [note 0 (.tripStarted x q.kind q.boundary q.confirmTime n .verdict), note 1 (verdict .isolating)]
                seq := s.nq.seq + 2 } }))

/-- PULSE_TIMER_EXPIRY ends its pulse and nothing else; a TRIP pin is at the active level of its polarity and drive while its
pulse runs on a good channel, else at the inactive one. CONFIRM_TIMER_EXPIRY of a TRIPPING interrupter: FAILED with NO_OPEN, no
timer, no waiter, ESCALATED; a single waiter goes WITHHELD outside RUN or inhibited; with no parent above its boundary it goes
ISOLATION_FAILED; an armed REMOTE interrupter at the parent's boundary trips. Several waiters escalate in the order they joined,
each to its end before the next begins: the first trips the armed REMOTE interrupter above, the others then join it; with no trip
allowed each is WITHHELD. The clock at an expiry is log 4 (R134 to R137, R141, R142). -/
def Obligations.TimersExpire : Prop :=
  (∀ (ch : Fin 4) (due : Nat) (s : State), noneHeld s = true → (s.channels.get ch).pulse = some due →
    ∃ c, exec (.pulseTimerExpiry ch) s = .next { s with now := max s.now due, channels := c } ∧
      ∀ k, c.get k = if k = ch then { s.channels.get ch with pulse := none } else s.channels.get k) ∧
  (∀ (ch : Fin 4) (s : State), let c := s.channels.get ch
    tripPin s ch = match c.polarity, c.drive, c.pulse.isSome && !c.failed with
      | .high, .pushPull, true => .drivenHigh
      | .high, .pushPull, false => .drivenLow
      | .low, .pushPull, true => .drivenLow
      | .low, .pushPull, false => .drivenHigh
      | .high, .openDrain, true => .released
      | .high, .openDrain, false => .drivenLow
      | .low, .openDrain, true => .drivenLow
      | .low, .openDrain, false => .released) ∧
  ∀ (x : Fin 16) (s : State) (r : IntRec) (due : Nat), noneHeld s = true → clean s = true →
    interrupterAt s x = some r → r.state = .tripping → r.confirm = some due → s.nq.queue.length ≤ 30 →
    let now := max s.now due
    let note (i : Nat) (b : NoticeBody) : Notice := ⟨s.nq.seq + BitVec.ofNat 16 i, s.ft.frame, b⟩
    let failed : IntRec := { r with state := .failed, reason := some .noOpen, confirm := none, waiters := [] }
    let tail (t : State) : Nat := if urgencySource s && !urgencySource t then s.params.maintTail else s.nq.tail
    let allowed := s.mc.mode = .run ∧ effectiveInhibit s = false
    (r.waiters = [] → ∃ t, exec (.confirmTimerExpiry x) s = .next t ∧
      (∀ k, rowAt t.interrupters k = if k = x.val then some (.live failed) else rowAt s.interrupters k) ∧
      t = { s with
        now, interrupters := t.interrupters
        nq := { s.nq with
          queue := s.nq.queue ++ [note 0 (.escalated x .noOpen none none none)], seq := s.nq.seq + 1, tail := tail t } }) ∧
    (∀ (rec : Nat → SegRec) (v : Nat → Verdict) (init : Nat → List ChainEntry) (e : Nat → ChainEntry),
      r.waiters ≠ [] → r.waiters.Nodup → s.nq.queue.length + 1 + r.waiters.length ≤ 32 →
      (∀ n ∈ r.waiters, n < 40 ∧ segmentAt s n = some (rec n) ∧ (rec n).verdict = some (v n) ∧ (v n).chain = init n ++ [e n]) →
      let notes (bodies : List NoticeBody) : List Notice := bodies.mapIdx note
      let became (n : Nat) (st : SegState) (more : List ChainEntry) : SegRec := { rec n with
        state := st, verdict := some { v n with chain := init n ++ [{ e n with outcome := .escalatedFrom }] ++ more } }
      (¬ allowed → ∃ t, exec (.confirmTimerExpiry x) s = .next t ∧
        (∀ k, rowAt t.segments k = if k ∈ r.waiters then some (.live (became k .withheld [])) else rowAt s.segments k) ∧
        (∀ k, rowAt t.interrupters k = if k = x.val then some (.live failed) else rowAt s.interrupters k) ∧
        t = { s with
          now, interrupters := t.interrupters, segments := t.segments
          nq := { s.nq with
            queue := s.nq.queue ++ notes (r.waiters.map fun n => .escalated x .noOpen (some n) (some .withheld) none)
            seq := s.nq.seq + BitVec.ofNat 16 r.waiters.length, tail := tail t } }) ∧
      ∀ first others y p, allowed → r.waiters = first :: others → y < 16 → interrupterAt s y = some p → p.kind = .remote →
        p.armed = true → p.state = .unknown ∨ p.state = .closed →
        (∀ z p', z < 16 → interrupterAt s z = some p' → p'.boundary = p.boundary → z = y) →
        (∀ n ∈ r.waiters, (init n).length < 15 ∧ ∃ below above, candidateBoundaries s n = below ++ r.boundary :: p.boundary :: above ∧
          r.boundary ∉ below) →
        ∃ t, exec (.confirmTimerExpiry x) s = .next t ∧
          (∀ k, rowAt t.segments k = if k = first then some (.live (became k .isolating [⟨y, .tripped⟩]))
            else if k ∈ others then some (.live (became k .isolating [⟨y, .joined⟩])) else rowAt s.segments k) ∧
          (∀ k, rowAt t.interrupters k = if k = x.val then some (.live failed) else if k = y then some (.live { p with
              state := .tripping, waiters := r.waiters, saved := true, armed := false, outstanding := true
              confirm := some (now + p.confirmTime * 1000), pulseFrame := some s.ft.frame })
            else rowAt s.interrupters k) ∧
          t = { s with
            now, interrupters := t.interrupters, segments := t.segments
            nq := { s.nq with
              queue := s.nq.queue ++ notes (.tripStarted y .remote p.boundary p.confirmTime first .escalation ::
                r.waiters.map fun n => .escalated x .noOpen (some n) (some .isolating) (some y))
              seq := s.nq.seq + BitVec.ofNat 16 (1 + r.waiters.length) } }) ∧
    ∀ n q v init e, r.waiters = [n] → n < 40 → segmentAt s n = some q → q.verdict = some v → v.chain = init ++ [e] →
      let chain := init ++ [{ e with outcome := .escalatedFrom }]
      let rows (t : State) (st : SegState) (ch : List ChainEntry) : Prop := ∀ k, rowAt t.segments k =
        if k = n then some (.live { q with state := st, verdict := some { v with chain := ch } }) else rowAt s.segments k
      (¬ allowed → ∃ t, exec (.confirmTimerExpiry x) s = .next t ∧ rows t .withheld chain ∧
        (∀ k, rowAt t.interrupters k = if k = x.val then some (.live failed) else rowAt s.interrupters k) ∧
        t = { s with
          now, interrupters := t.interrupters, segments := t.segments
          nq := { s.nq with
            queue := s.nq.queue ++ [note 0 (.escalated x .noOpen (some n) (some .withheld) none)]
            seq := s.nq.seq + 1, tail := tail t } }) ∧
      (allowed → q.up = r.boundary → (∀ m g, m < 40 → segmentAt s m = some g → q.up ∉ g.down) →
        ∃ t, exec (.confirmTimerExpiry x) s = .next t ∧ rows t .isolationFailed chain ∧
          (∀ k, rowAt t.interrupters k = if k = x.val then some (.live failed) else rowAt s.interrupters k) ∧
          t = { s with
            now, interrupters := t.interrupters, segments := t.segments
            nq := { s.nq with
              queue := s.nq.queue ++ [note 0 (.escalated x .noOpen (some n) (some .isolationFailed) none),
                note 1 (.isolationFailed n v.verdictClass chain.length)]
              seq := s.nq.seq + 2, tail := tail t } }) ∧
      ∀ m g y p, allowed → q.up = r.boundary → m < 40 → m ≠ n → segmentAt s m = some g → q.up ∈ g.down →
        (∀ k g', k < 40 → segmentAt s k = some g' → q.up ∈ g'.down → k = m) → g.up ≠ r.boundary →
        y < 16 → interrupterAt s y = some p → p.boundary = g.up → p.kind = .remote → p.armed = true → p.state = .closed →
        (∀ z p', z < 16 → interrupterAt s z = some p' → p'.boundary = g.up → z = y) → chain.length < 16 →
        ∃ t, exec (.confirmTimerExpiry x) s = .next t ∧ rows t .isolating (chain ++ [⟨y, .tripped⟩]) ∧
          (∀ k, rowAt t.interrupters k = if k = x.val then some (.live failed) else if k = y then some (.live { p with
              state := .tripping, waiters := [n], saved := true, armed := false, outstanding := true
              confirm := some (now + p.confirmTime * 1000), pulseFrame := some s.ft.frame })
            else rowAt s.interrupters k) ∧
          t = { s with
            now, interrupters := t.interrupters, segments := t.segments
            nq := { s.nq with
              queue := s.nq.queue ++ [note 0 (.tripStarted y .remote p.boundary p.confirmTime n .escalation),
                note 1 (.escalated x .noOpen (some n) (some .isolating) (some y))]
              seq := s.nq.seq + 2 } }

/-- A walk treats the interrupter at each candidate boundary by its state and arming: TRIPPING is joined, FAILED, OPEN and a
disarmed one are passed with their chain entries, an armed UNKNOWN or CLOSED one trips; past the last boundary the segment is
ISOLATION_FAILED; a chain keeps its 16 newest entries, the last visit newest (R122, R124, R126, R137). -/
def Obligations.WalkTreatsCandidates : Prop :=
  (∀ (n : Nat) (cause : TripCause) (b : Nat) (rest : List Nat) (s : State), clean s = true →
    walk n cause [] s = setSegState n .isolationFailed s ∧
    (interrupterOn s b = none → walk n cause (b :: rest) s = walk n cause rest s) ∧
    ∀ x r, interrupterOn s b = some x → interrupterAt s x = some r →
      let passed (o : ChainOutcome) : Prop := walk n cause (b :: rest) s = walk n cause rest (recordVisit n x o s)
      (r.state = .tripping → walk n cause (b :: rest) s = recordVisit n x .joined (setSegState n .isolating
        (writeInterrupter x { r with waiters := r.waiters ++ [n] } s))) ∧
      (r.state = .failed → passed .skippedFailed) ∧ (r.state = .opened → passed .skippedOpen) ∧
      (r.state = .unknown ∨ r.state = .closed → r.armed = false → passed .skippedDisarmed) ∧
      (r.state = .unknown ∨ r.state = .closed → r.armed = true → walk n cause (b :: rest) s = startTrip x r n cause s)) ∧
  ∀ (e : ChainEntry) (c : List ChainEntry), c.length ≤ 16 →
    appendEntry e c = (c ++ [e]).drop (c.length + 1 - 16) ∧ (appendEntry e c).length ≤ 16 ∧ (appendEntry e c).getLast? = some e

/-- A pulse begins only in RUN with the effective inhibit clear, on a good channel to which an armed interrupter is bound; where
the step also takes held requests, one of which may arm, uninhibit or enter RUN before the next, that holds at the moment the part
of the step that begins the pulse itself begins. Outside START no command but its own timer's expiry or a hard reset ends one
(R142). -/
def Obligations.PulsesBeginOnlyWhenAllowed : Prop :=
  (∀ (c : Instr) (s t : State) (ch : Fin 4), clean s = true → noneHeld s = true → exec c s = .next t →
    (t.channels.get ch).pulse ≠ none → (t.channels.get ch).pulse = (s.channels.get ch).pulse ∨ mayPulse s ch) ∧
  (∀ (c : Instr) (s : State), exec c s = .next (serve (beforeTaking c s))) ∧
  (∀ (c : Instr) (s t : State) (ch : Fin 4), clean s = true → buffersBounded s = true → exec c s = .next t →
    (t.channels.get ch).pulse ≠ none → (t.channels.get ch).pulse = (s.channels.get ch).pulse ∨
      ∃ u ∈ moments c s, mayPulse u ch) ∧
  ∀ (c : Instr) (s t : State) (ch : Fin 4), s.mc.mode ≠ .start → noResetPending s = true → exec c s = .next t →
    (s.channels.get ch).pulse ≠ none → c ≠ .pulseTimerExpiry ch → (∀ st b, c ≠ .hardReset st b) →
    (t.channels.get ch).pulse ≠ none

/-! ### What every step keeps (R27, R44, R106, R141, R147, R152, R168, R169) -/

/-- Every step keeps at most 32 notices, each count at 65535 or less, at most two requests and two replies, at most eight
frames, and every table in its canonical form (R44, R150, R152, R168, R169). From a state with no inverted bit it keeps the laws
of the records: the verdict part present exactly in the verdict states, the suspect details exactly in SUSPECT, the deadline timer
only there, and the waiters lists exactly the segments in ISOLATING, each on the one TRIPPING interrupter that its newest chain
entry names (R87, R89, R97, R121, R122). -/
def Obligations.EveryStepKeepsBoundsAndTables : Prop :=
  ∀ s t : State, step s = .next t →
    (noticesBounded s = true → noticesBounded t = true) ∧ (countsBounded s = true → countsBounded t = true) ∧
    (buffersBounded s = true → buffersBounded t = true) ∧ (ringBounded s = true → ringBounded t = true) ∧
    (tablesCanonical s = true → tablesCanonical t = true) ∧
    (clean s = true → buffersBounded s = true → recordLaws s → recordLaws t)

/-- Every step keeps every parameter, the frame period, every channel width and the tail count in their ranges (R27, R106, R141,
R148). -/
def Obligations.EveryStepKeepsSettingsLegal : Prop :=
  ∀ s t : State, settingsLegal s = true → step s = .next t → settingsLegal t = true

/-- The state after reset meets every invariant stated here. -/
def Obligations.ResetMeetsInvariants : Prop :=
  noticesBounded State.reset = true ∧ countsBounded State.reset = true ∧ buffersBounded State.reset = true ∧
  ringBounded State.reset = true ∧ tablesCanonical State.reset = true ∧ settingsLegal State.reset = true ∧
  sharesNoSensor State.reset ∧ recordLaws State.reset ∧ clean State.reset = true

end
end

