-- ==== Sys2Proof/Laws/State.lean ====
section
/-! SUPPORT. What each named update of the state leaves: one lemma per field it does not touch. -/

namespace Sys2Proof.Machine

/-! ### bump -/

@[simp] theorem bump_pending (c : CountName) (s : State) : (bump c s).pending = s.pending := rfl
@[simp] theorem bump_now (c : CountName) (s : State) : (bump c s).now = s.now := rfl
@[simp] theorem bump_inhibitPin (c : CountName) (s : State) : (bump c s).inhibitPin = s.inhibitPin := rfl
@[simp] theorem bump_stnPins (c : CountName) (s : State) : (bump c s).stnPins = s.stnPins := rfl
@[simp] theorem bump_baudPins (c : CountName) (s : State) : (bump c s).baudPins = s.baudPins := rfl
@[simp] theorem bump_strapReads (c : CountName) (s : State) : (bump c s).strapReads = s.strapReads := rfl
@[simp] theorem bump_hl (c : CountName) (s : State) : (bump c s).hl = s.hl := rfl
@[simp] theorem bump_ft (c : CountName) (s : State) : (bump c s).ft = s.ft := rfl
@[simp] theorem bump_sensors (c : CountName) (s : State) : (bump c s).sensors = s.sensors := rfl
@[simp] theorem bump_index (c : CountName) (s : State) : (bump c s).index = s.index := rfl
@[simp] theorem bump_segments (c : CountName) (s : State) : (bump c s).segments = s.segments := rfl
@[simp] theorem bump_interrupters (c : CountName) (s : State) : (bump c s).interrupters = s.interrupters := rfl
@[simp] theorem bump_ring (c : CountName) (s : State) : (bump c s).ring = s.ring := rfl
@[simp] theorem bump_pass (c : CountName) (s : State) : (bump c s).pass = s.pass := rfl
@[simp] theorem bump_channels (c : CountName) (s : State) : (bump c s).channels = s.channels := rfl
@[simp] theorem bump_nq (c : CountName) (s : State) : (bump c s).nq = s.nq := rfl
@[simp] theorem bump_tm (c : CountName) (s : State) : (bump c s).tm = s.tm := rfl
@[simp] theorem bump_mc (c : CountName) (s : State) : (bump c s).mc = s.mc := rfl
@[simp] theorem bump_params (c : CountName) (s : State) : (bump c s).params = s.params := rfl

/-! ### latch -/

@[simp] theorem latch_pending (c : CondName) (s : State) : (latch c s).pending = s.pending := rfl
@[simp] theorem latch_now (c : CondName) (s : State) : (latch c s).now = s.now := rfl
@[simp] theorem latch_inhibitPin (c : CondName) (s : State) : (latch c s).inhibitPin = s.inhibitPin := rfl
@[simp] theorem latch_stnPins (c : CondName) (s : State) : (latch c s).stnPins = s.stnPins := rfl
@[simp] theorem latch_baudPins (c : CondName) (s : State) : (latch c s).baudPins = s.baudPins := rfl
@[simp] theorem latch_strapReads (c : CondName) (s : State) : (latch c s).strapReads = s.strapReads := rfl
@[simp] theorem latch_hl (c : CondName) (s : State) : (latch c s).hl = s.hl := rfl
@[simp] theorem latch_ft (c : CondName) (s : State) : (latch c s).ft = s.ft := rfl
@[simp] theorem latch_sensors (c : CondName) (s : State) : (latch c s).sensors = s.sensors := rfl
@[simp] theorem latch_index (c : CondName) (s : State) : (latch c s).index = s.index := rfl
@[simp] theorem latch_segments (c : CondName) (s : State) : (latch c s).segments = s.segments := rfl
@[simp] theorem latch_interrupters (c : CondName) (s : State) : (latch c s).interrupters = s.interrupters := rfl
@[simp] theorem latch_ring (c : CondName) (s : State) : (latch c s).ring = s.ring := rfl
@[simp] theorem latch_pass (c : CondName) (s : State) : (latch c s).pass = s.pass := rfl
@[simp] theorem latch_channels (c : CondName) (s : State) : (latch c s).channels = s.channels := rfl
@[simp] theorem latch_nq (c : CondName) (s : State) : (latch c s).nq = s.nq := rfl
@[simp] theorem latch_tm (c : CondName) (s : State) : (latch c s).tm = s.tm := rfl
@[simp] theorem latch_mc (c : CondName) (s : State) : (latch c s).mc = s.mc := rfl
@[simp] theorem latch_params (c : CondName) (s : State) : (latch c s).params = s.params := rfl

/-! ### writeSensor -/

@[simp] theorem writeSensor_pending (n : Nat) (r : SensorRec) (s : State) : (writeSensor n r s).pending = s.pending := rfl
@[simp] theorem writeSensor_now (n : Nat) (r : SensorRec) (s : State) : (writeSensor n r s).now = s.now := rfl
@[simp] theorem writeSensor_inhibitPin (n : Nat) (r : SensorRec) (s : State) : (writeSensor n r s).inhibitPin = s.inhibitPin := rfl
@[simp] theorem writeSensor_stnPins (n : Nat) (r : SensorRec) (s : State) : (writeSensor n r s).stnPins = s.stnPins := rfl
@[simp] theorem writeSensor_baudPins (n : Nat) (r : SensorRec) (s : State) : (writeSensor n r s).baudPins = s.baudPins := rfl
@[simp] theorem writeSensor_strapReads (n : Nat) (r : SensorRec) (s : State) : (writeSensor n r s).strapReads = s.strapReads := rfl
@[simp] theorem writeSensor_hl (n : Nat) (r : SensorRec) (s : State) : (writeSensor n r s).hl = s.hl := rfl
@[simp] theorem writeSensor_ft (n : Nat) (r : SensorRec) (s : State) : (writeSensor n r s).ft = s.ft := rfl
@[simp] theorem writeSensor_index (n : Nat) (r : SensorRec) (s : State) : (writeSensor n r s).index = s.index := rfl
@[simp] theorem writeSensor_segments (n : Nat) (r : SensorRec) (s : State) : (writeSensor n r s).segments = s.segments := rfl
@[simp] theorem writeSensor_interrupters (n : Nat) (r : SensorRec) (s : State) : (writeSensor n r s).interrupters = s.interrupters := rfl
@[simp] theorem writeSensor_ring (n : Nat) (r : SensorRec) (s : State) : (writeSensor n r s).ring = s.ring := rfl
@[simp] theorem writeSensor_pass (n : Nat) (r : SensorRec) (s : State) : (writeSensor n r s).pass = s.pass := rfl
@[simp] theorem writeSensor_channels (n : Nat) (r : SensorRec) (s : State) : (writeSensor n r s).channels = s.channels := rfl
@[simp] theorem writeSensor_nq (n : Nat) (r : SensorRec) (s : State) : (writeSensor n r s).nq = s.nq := rfl
@[simp] theorem writeSensor_cb (n : Nat) (r : SensorRec) (s : State) : (writeSensor n r s).cb = s.cb := rfl
@[simp] theorem writeSensor_tm (n : Nat) (r : SensorRec) (s : State) : (writeSensor n r s).tm = s.tm := rfl
@[simp] theorem writeSensor_mc (n : Nat) (r : SensorRec) (s : State) : (writeSensor n r s).mc = s.mc := rfl
@[simp] theorem writeSensor_params (n : Nat) (r : SensorRec) (s : State) : (writeSensor n r s).params = s.params := rfl

/-! ### writeSegment -/

@[simp] theorem writeSegment_pending (n : Nat) (r : SegRec) (s : State) : (writeSegment n r s).pending = s.pending := rfl
@[simp] theorem writeSegment_now (n : Nat) (r : SegRec) (s : State) : (writeSegment n r s).now = s.now := rfl
@[simp] theorem writeSegment_inhibitPin (n : Nat) (r : SegRec) (s : State) : (writeSegment n r s).inhibitPin = s.inhibitPin := rfl
@[simp] theorem writeSegment_stnPins (n : Nat) (r : SegRec) (s : State) : (writeSegment n r s).stnPins = s.stnPins := rfl
@[simp] theorem writeSegment_baudPins (n : Nat) (r : SegRec) (s : State) : (writeSegment n r s).baudPins = s.baudPins := rfl
@[simp] theorem writeSegment_strapReads (n : Nat) (r : SegRec) (s : State) : (writeSegment n r s).strapReads = s.strapReads := rfl
@[simp] theorem writeSegment_hl (n : Nat) (r : SegRec) (s : State) : (writeSegment n r s).hl = s.hl := rfl
@[simp] theorem writeSegment_ft (n : Nat) (r : SegRec) (s : State) : (writeSegment n r s).ft = s.ft := rfl
@[simp] theorem writeSegment_sensors (n : Nat) (r : SegRec) (s : State) : (writeSegment n r s).sensors = s.sensors := rfl
@[simp] theorem writeSegment_index (n : Nat) (r : SegRec) (s : State) : (writeSegment n r s).index = s.index := rfl
@[simp] theorem writeSegment_interrupters (n : Nat) (r : SegRec) (s : State) : (writeSegment n r s).interrupters = s.interrupters := rfl
@[simp] theorem writeSegment_ring (n : Nat) (r : SegRec) (s : State) : (writeSegment n r s).ring = s.ring := rfl
@[simp] theorem writeSegment_pass (n : Nat) (r : SegRec) (s : State) : (writeSegment n r s).pass = s.pass := rfl
@[simp] theorem writeSegment_channels (n : Nat) (r : SegRec) (s : State) : (writeSegment n r s).channels = s.channels := rfl
@[simp] theorem writeSegment_nq (n : Nat) (r : SegRec) (s : State) : (writeSegment n r s).nq = s.nq := rfl
@[simp] theorem writeSegment_cb (n : Nat) (r : SegRec) (s : State) : (writeSegment n r s).cb = s.cb := rfl
@[simp] theorem writeSegment_tm (n : Nat) (r : SegRec) (s : State) : (writeSegment n r s).tm = s.tm := rfl
@[simp] theorem writeSegment_mc (n : Nat) (r : SegRec) (s : State) : (writeSegment n r s).mc = s.mc := rfl
@[simp] theorem writeSegment_params (n : Nat) (r : SegRec) (s : State) : (writeSegment n r s).params = s.params := rfl

/-! ### writeInterrupter -/

@[simp] theorem writeInterrupter_pending (n : Nat) (r : IntRec) (s : State) : (writeInterrupter n r s).pending = s.pending := rfl
@[simp] theorem writeInterrupter_now (n : Nat) (r : IntRec) (s : State) : (writeInterrupter n r s).now = s.now := rfl
@[simp] theorem writeInterrupter_inhibitPin (n : Nat) (r : IntRec) (s : State) : (writeInterrupter n r s).inhibitPin = s.inhibitPin := rfl
@[simp] theorem writeInterrupter_stnPins (n : Nat) (r : IntRec) (s : State) : (writeInterrupter n r s).stnPins = s.stnPins := rfl
@[simp] theorem writeInterrupter_baudPins (n : Nat) (r : IntRec) (s : State) : (writeInterrupter n r s).baudPins = s.baudPins := rfl
@[simp] theorem writeInterrupter_strapReads (n : Nat) (r : IntRec) (s : State) : (writeInterrupter n r s).strapReads = s.strapReads := rfl
@[simp] theorem writeInterrupter_hl (n : Nat) (r : IntRec) (s : State) : (writeInterrupter n r s).hl = s.hl := rfl
@[simp] theorem writeInterrupter_ft (n : Nat) (r : IntRec) (s : State) : (writeInterrupter n r s).ft = s.ft := rfl
@[simp] theorem writeInterrupter_sensors (n : Nat) (r : IntRec) (s : State) : (writeInterrupter n r s).sensors = s.sensors := rfl
@[simp] theorem writeInterrupter_index (n : Nat) (r : IntRec) (s : State) : (writeInterrupter n r s).index = s.index := rfl
@[simp] theorem writeInterrupter_segments (n : Nat) (r : IntRec) (s : State) : (writeInterrupter n r s).segments = s.segments := rfl
@[simp] theorem writeInterrupter_ring (n : Nat) (r : IntRec) (s : State) : (writeInterrupter n r s).ring = s.ring := rfl
@[simp] theorem writeInterrupter_pass (n : Nat) (r : IntRec) (s : State) : (writeInterrupter n r s).pass = s.pass := rfl
@[simp] theorem writeInterrupter_channels (n : Nat) (r : IntRec) (s : State) : (writeInterrupter n r s).channels = s.channels := rfl
@[simp] theorem writeInterrupter_nq (n : Nat) (r : IntRec) (s : State) : (writeInterrupter n r s).nq = s.nq := rfl
@[simp] theorem writeInterrupter_cb (n : Nat) (r : IntRec) (s : State) : (writeInterrupter n r s).cb = s.cb := rfl
@[simp] theorem writeInterrupter_tm (n : Nat) (r : IntRec) (s : State) : (writeInterrupter n r s).tm = s.tm := rfl
@[simp] theorem writeInterrupter_mc (n : Nat) (r : IntRec) (s : State) : (writeInterrupter n r s).mc = s.mc := rfl
@[simp] theorem writeInterrupter_params (n : Nat) (r : IntRec) (s : State) : (writeInterrupter n r s).params = s.params := rfl

/-! ### modifyChannel -/

@[simp] theorem modifyChannel_pending (ch : Fin 4) (f : Channel → Channel) (s : State) : (modifyChannel ch f s).pending = s.pending := rfl
@[simp] theorem modifyChannel_now (ch : Fin 4) (f : Channel → Channel) (s : State) : (modifyChannel ch f s).now = s.now := rfl
@[simp] theorem modifyChannel_inhibitPin (ch : Fin 4) (f : Channel → Channel) (s : State) : (modifyChannel ch f s).inhibitPin = s.inhibitPin := rfl
@[simp] theorem modifyChannel_stnPins (ch : Fin 4) (f : Channel → Channel) (s : State) : (modifyChannel ch f s).stnPins = s.stnPins := rfl
@[simp] theorem modifyChannel_baudPins (ch : Fin 4) (f : Channel → Channel) (s : State) : (modifyChannel ch f s).baudPins = s.baudPins := rfl
@[simp] theorem modifyChannel_strapReads (ch : Fin 4) (f : Channel → Channel) (s : State) : (modifyChannel ch f s).strapReads = s.strapReads := rfl
@[simp] theorem modifyChannel_hl (ch : Fin 4) (f : Channel → Channel) (s : State) : (modifyChannel ch f s).hl = s.hl := rfl
@[simp] theorem modifyChannel_ft (ch : Fin 4) (f : Channel → Channel) (s : State) : (modifyChannel ch f s).ft = s.ft := rfl
@[simp] theorem modifyChannel_sensors (ch : Fin 4) (f : Channel → Channel) (s : State) : (modifyChannel ch f s).sensors = s.sensors := rfl
@[simp] theorem modifyChannel_index (ch : Fin 4) (f : Channel → Channel) (s : State) : (modifyChannel ch f s).index = s.index := rfl
@[simp] theorem modifyChannel_segments (ch : Fin 4) (f : Channel → Channel) (s : State) : (modifyChannel ch f s).segments = s.segments := rfl
@[simp] theorem modifyChannel_interrupters (ch : Fin 4) (f : Channel → Channel) (s : State) : (modifyChannel ch f s).interrupters = s.interrupters := rfl
@[simp] theorem modifyChannel_ring (ch : Fin 4) (f : Channel → Channel) (s : State) : (modifyChannel ch f s).ring = s.ring := rfl
@[simp] theorem modifyChannel_pass (ch : Fin 4) (f : Channel → Channel) (s : State) : (modifyChannel ch f s).pass = s.pass := rfl
@[simp] theorem modifyChannel_nq (ch : Fin 4) (f : Channel → Channel) (s : State) : (modifyChannel ch f s).nq = s.nq := rfl
@[simp] theorem modifyChannel_cb (ch : Fin 4) (f : Channel → Channel) (s : State) : (modifyChannel ch f s).cb = s.cb := rfl
@[simp] theorem modifyChannel_tm (ch : Fin 4) (f : Channel → Channel) (s : State) : (modifyChannel ch f s).tm = s.tm := rfl
@[simp] theorem modifyChannel_mc (ch : Fin 4) (f : Channel → Channel) (s : State) : (modifyChannel ch f s).mc = s.mc := rfl
@[simp] theorem modifyChannel_params (ch : Fin 4) (f : Channel → Channel) (s : State) : (modifyChannel ch f s).params = s.params := rfl

/-! ### setRx -/

@[simp] theorem setRx_pending (x : RxState) (s : State) : (setRx x s).pending = s.pending := rfl
@[simp] theorem setRx_now (x : RxState) (s : State) : (setRx x s).now = s.now := rfl
@[simp] theorem setRx_inhibitPin (x : RxState) (s : State) : (setRx x s).inhibitPin = s.inhibitPin := rfl
@[simp] theorem setRx_stnPins (x : RxState) (s : State) : (setRx x s).stnPins = s.stnPins := rfl
@[simp] theorem setRx_baudPins (x : RxState) (s : State) : (setRx x s).baudPins = s.baudPins := rfl
@[simp] theorem setRx_strapReads (x : RxState) (s : State) : (setRx x s).strapReads = s.strapReads := rfl
@[simp] theorem setRx_ft (x : RxState) (s : State) : (setRx x s).ft = s.ft := rfl
@[simp] theorem setRx_sensors (x : RxState) (s : State) : (setRx x s).sensors = s.sensors := rfl
@[simp] theorem setRx_index (x : RxState) (s : State) : (setRx x s).index = s.index := rfl
@[simp] theorem setRx_segments (x : RxState) (s : State) : (setRx x s).segments = s.segments := rfl
@[simp] theorem setRx_interrupters (x : RxState) (s : State) : (setRx x s).interrupters = s.interrupters := rfl
@[simp] theorem setRx_ring (x : RxState) (s : State) : (setRx x s).ring = s.ring := rfl
@[simp] theorem setRx_pass (x : RxState) (s : State) : (setRx x s).pass = s.pass := rfl
@[simp] theorem setRx_channels (x : RxState) (s : State) : (setRx x s).channels = s.channels := rfl
@[simp] theorem setRx_nq (x : RxState) (s : State) : (setRx x s).nq = s.nq := rfl
@[simp] theorem setRx_cb (x : RxState) (s : State) : (setRx x s).cb = s.cb := rfl
@[simp] theorem setRx_tm (x : RxState) (s : State) : (setRx x s).tm = s.tm := rfl
@[simp] theorem setRx_mc (x : RxState) (s : State) : (setRx x s).mc = s.mc := rfl
@[simp] theorem setRx_params (x : RxState) (s : State) : (setRx x s).params = s.params := rfl

/-! ### setPartMode -/

@[simp] theorem setPartMode_pending (m : PartMode) (s : State) : (setPartMode m s).pending = s.pending := rfl
@[simp] theorem setPartMode_now (m : PartMode) (s : State) : (setPartMode m s).now = s.now := rfl
@[simp] theorem setPartMode_inhibitPin (m : PartMode) (s : State) : (setPartMode m s).inhibitPin = s.inhibitPin := rfl
@[simp] theorem setPartMode_stnPins (m : PartMode) (s : State) : (setPartMode m s).stnPins = s.stnPins := rfl
@[simp] theorem setPartMode_baudPins (m : PartMode) (s : State) : (setPartMode m s).baudPins = s.baudPins := rfl
@[simp] theorem setPartMode_strapReads (m : PartMode) (s : State) : (setPartMode m s).strapReads = s.strapReads := rfl
@[simp] theorem setPartMode_hl (m : PartMode) (s : State) : (setPartMode m s).hl = s.hl := rfl
@[simp] theorem setPartMode_ft (m : PartMode) (s : State) : (setPartMode m s).ft = s.ft := rfl
@[simp] theorem setPartMode_sensors (m : PartMode) (s : State) : (setPartMode m s).sensors = s.sensors := rfl
@[simp] theorem setPartMode_index (m : PartMode) (s : State) : (setPartMode m s).index = s.index := rfl
@[simp] theorem setPartMode_segments (m : PartMode) (s : State) : (setPartMode m s).segments = s.segments := rfl
@[simp] theorem setPartMode_interrupters (m : PartMode) (s : State) : (setPartMode m s).interrupters = s.interrupters := rfl
@[simp] theorem setPartMode_ring (m : PartMode) (s : State) : (setPartMode m s).ring = s.ring := rfl
@[simp] theorem setPartMode_pass (m : PartMode) (s : State) : (setPartMode m s).pass = s.pass := rfl
@[simp] theorem setPartMode_channels (m : PartMode) (s : State) : (setPartMode m s).channels = s.channels := rfl
@[simp] theorem setPartMode_nq (m : PartMode) (s : State) : (setPartMode m s).nq = s.nq := rfl
@[simp] theorem setPartMode_cb (m : PartMode) (s : State) : (setPartMode m s).cb = s.cb := rfl
@[simp] theorem setPartMode_tm (m : PartMode) (s : State) : (setPartMode m s).tm = s.tm := rfl
@[simp] theorem setPartMode_params (m : PartMode) (s : State) : (setPartMode m s).params = s.params := rfl

/-! ### setSelfTest -/

@[simp] theorem setSelfTest_pending (x : SelfTestPhase) (s : State) : (setSelfTest x s).pending = s.pending := rfl
@[simp] theorem setSelfTest_now (x : SelfTestPhase) (s : State) : (setSelfTest x s).now = s.now := rfl
@[simp] theorem setSelfTest_inhibitPin (x : SelfTestPhase) (s : State) : (setSelfTest x s).inhibitPin = s.inhibitPin := rfl
@[simp] theorem setSelfTest_stnPins (x : SelfTestPhase) (s : State) : (setSelfTest x s).stnPins = s.stnPins := rfl
@[simp] theorem setSelfTest_baudPins (x : SelfTestPhase) (s : State) : (setSelfTest x s).baudPins = s.baudPins := rfl
@[simp] theorem setSelfTest_strapReads (x : SelfTestPhase) (s : State) : (setSelfTest x s).strapReads = s.strapReads := rfl
@[simp] theorem setSelfTest_hl (x : SelfTestPhase) (s : State) : (setSelfTest x s).hl = s.hl := rfl
@[simp] theorem setSelfTest_ft (x : SelfTestPhase) (s : State) : (setSelfTest x s).ft = s.ft := rfl
@[simp] theorem setSelfTest_sensors (x : SelfTestPhase) (s : State) : (setSelfTest x s).sensors = s.sensors := rfl
@[simp] theorem setSelfTest_index (x : SelfTestPhase) (s : State) : (setSelfTest x s).index = s.index := rfl
@[simp] theorem setSelfTest_segments (x : SelfTestPhase) (s : State) : (setSelfTest x s).segments = s.segments := rfl
@[simp] theorem setSelfTest_interrupters (x : SelfTestPhase) (s : State) : (setSelfTest x s).interrupters = s.interrupters := rfl
@[simp] theorem setSelfTest_ring (x : SelfTestPhase) (s : State) : (setSelfTest x s).ring = s.ring := rfl
@[simp] theorem setSelfTest_pass (x : SelfTestPhase) (s : State) : (setSelfTest x s).pass = s.pass := rfl
@[simp] theorem setSelfTest_channels (x : SelfTestPhase) (s : State) : (setSelfTest x s).channels = s.channels := rfl
@[simp] theorem setSelfTest_nq (x : SelfTestPhase) (s : State) : (setSelfTest x s).nq = s.nq := rfl
@[simp] theorem setSelfTest_cb (x : SelfTestPhase) (s : State) : (setSelfTest x s).cb = s.cb := rfl
@[simp] theorem setSelfTest_tm (x : SelfTestPhase) (s : State) : (setSelfTest x s).tm = s.tm := rfl
@[simp] theorem setSelfTest_params (x : SelfTestPhase) (s : State) : (setSelfTest x s).params = s.params := rfl

/-! ### handOver -/

@[simp] theorem handOver_pending (x : Reply) (s : State) : (handOver x s).pending = s.pending := rfl
@[simp] theorem handOver_now (x : Reply) (s : State) : (handOver x s).now = s.now := rfl
@[simp] theorem handOver_inhibitPin (x : Reply) (s : State) : (handOver x s).inhibitPin = s.inhibitPin := rfl
@[simp] theorem handOver_stnPins (x : Reply) (s : State) : (handOver x s).stnPins = s.stnPins := rfl
@[simp] theorem handOver_baudPins (x : Reply) (s : State) : (handOver x s).baudPins = s.baudPins := rfl
@[simp] theorem handOver_strapReads (x : Reply) (s : State) : (handOver x s).strapReads = s.strapReads := rfl
@[simp] theorem handOver_ft (x : Reply) (s : State) : (handOver x s).ft = s.ft := rfl
@[simp] theorem handOver_sensors (x : Reply) (s : State) : (handOver x s).sensors = s.sensors := rfl
@[simp] theorem handOver_index (x : Reply) (s : State) : (handOver x s).index = s.index := rfl
@[simp] theorem handOver_segments (x : Reply) (s : State) : (handOver x s).segments = s.segments := rfl
@[simp] theorem handOver_interrupters (x : Reply) (s : State) : (handOver x s).interrupters = s.interrupters := rfl
@[simp] theorem handOver_ring (x : Reply) (s : State) : (handOver x s).ring = s.ring := rfl
@[simp] theorem handOver_pass (x : Reply) (s : State) : (handOver x s).pass = s.pass := rfl
@[simp] theorem handOver_channels (x : Reply) (s : State) : (handOver x s).channels = s.channels := rfl
@[simp] theorem handOver_nq (x : Reply) (s : State) : (handOver x s).nq = s.nq := rfl
@[simp] theorem handOver_cb (x : Reply) (s : State) : (handOver x s).cb = s.cb := rfl
@[simp] theorem handOver_tm (x : Reply) (s : State) : (handOver x s).tm = s.tm := rfl
@[simp] theorem handOver_mc (x : Reply) (s : State) : (handOver x s).mc = s.mc := rfl
@[simp] theorem handOver_params (x : Reply) (s : State) : (handOver x s).params = s.params := rfl

/-! ### spendBadCheck -/

@[simp] theorem spendBadCheck_pending (s : State) : (spendBadCheck s).pending = s.pending := rfl
@[simp] theorem spendBadCheck_now (s : State) : (spendBadCheck s).now = s.now := rfl
@[simp] theorem spendBadCheck_inhibitPin (s : State) : (spendBadCheck s).inhibitPin = s.inhibitPin := rfl
@[simp] theorem spendBadCheck_stnPins (s : State) : (spendBadCheck s).stnPins = s.stnPins := rfl
@[simp] theorem spendBadCheck_baudPins (s : State) : (spendBadCheck s).baudPins = s.baudPins := rfl
@[simp] theorem spendBadCheck_strapReads (s : State) : (spendBadCheck s).strapReads = s.strapReads := rfl
@[simp] theorem spendBadCheck_ft (s : State) : (spendBadCheck s).ft = s.ft := rfl
@[simp] theorem spendBadCheck_sensors (s : State) : (spendBadCheck s).sensors = s.sensors := rfl
@[simp] theorem spendBadCheck_index (s : State) : (spendBadCheck s).index = s.index := rfl
@[simp] theorem spendBadCheck_segments (s : State) : (spendBadCheck s).segments = s.segments := rfl
@[simp] theorem spendBadCheck_interrupters (s : State) : (spendBadCheck s).interrupters = s.interrupters := rfl
@[simp] theorem spendBadCheck_ring (s : State) : (spendBadCheck s).ring = s.ring := rfl
@[simp] theorem spendBadCheck_pass (s : State) : (spendBadCheck s).pass = s.pass := rfl
@[simp] theorem spendBadCheck_channels (s : State) : (spendBadCheck s).channels = s.channels := rfl
@[simp] theorem spendBadCheck_nq (s : State) : (spendBadCheck s).nq = s.nq := rfl
@[simp] theorem spendBadCheck_cb (s : State) : (spendBadCheck s).cb = s.cb := rfl
@[simp] theorem spendBadCheck_tm (s : State) : (spendBadCheck s).tm = s.tm := rfl
@[simp] theorem spendBadCheck_mc (s : State) : (spendBadCheck s).mc = s.mc := rfl
@[simp] theorem spendBadCheck_params (s : State) : (spendBadCheck s).params = s.params := rfl

/-! ### arriveAt -/

@[simp] theorem arriveAt_pending (t : Nat) (s : State) : (arriveAt t s).pending = s.pending := rfl
@[simp] theorem arriveAt_inhibitPin (t : Nat) (s : State) : (arriveAt t s).inhibitPin = s.inhibitPin := rfl
@[simp] theorem arriveAt_stnPins (t : Nat) (s : State) : (arriveAt t s).stnPins = s.stnPins := rfl
@[simp] theorem arriveAt_baudPins (t : Nat) (s : State) : (arriveAt t s).baudPins = s.baudPins := rfl
@[simp] theorem arriveAt_strapReads (t : Nat) (s : State) : (arriveAt t s).strapReads = s.strapReads := rfl
@[simp] theorem arriveAt_hl (t : Nat) (s : State) : (arriveAt t s).hl = s.hl := rfl
@[simp] theorem arriveAt_ft (t : Nat) (s : State) : (arriveAt t s).ft = s.ft := rfl
@[simp] theorem arriveAt_sensors (t : Nat) (s : State) : (arriveAt t s).sensors = s.sensors := rfl
@[simp] theorem arriveAt_index (t : Nat) (s : State) : (arriveAt t s).index = s.index := rfl
@[simp] theorem arriveAt_segments (t : Nat) (s : State) : (arriveAt t s).segments = s.segments := rfl
@[simp] theorem arriveAt_interrupters (t : Nat) (s : State) : (arriveAt t s).interrupters = s.interrupters := rfl
@[simp] theorem arriveAt_ring (t : Nat) (s : State) : (arriveAt t s).ring = s.ring := rfl
@[simp] theorem arriveAt_pass (t : Nat) (s : State) : (arriveAt t s).pass = s.pass := rfl
@[simp] theorem arriveAt_channels (t : Nat) (s : State) : (arriveAt t s).channels = s.channels := rfl
@[simp] theorem arriveAt_nq (t : Nat) (s : State) : (arriveAt t s).nq = s.nq := rfl
@[simp] theorem arriveAt_cb (t : Nat) (s : State) : (arriveAt t s).cb = s.cb := rfl
@[simp] theorem arriveAt_tm (t : Nat) (s : State) : (arriveAt t s).tm = s.tm := rfl
@[simp] theorem arriveAt_mc (t : Nat) (s : State) : (arriveAt t s).mc = s.mc := rfl
@[simp] theorem arriveAt_params (t : Nat) (s : State) : (arriveAt t s).params = s.params := rfl

/-! ### emptyHistory -/

@[simp] theorem emptyHistory_pending (s : State) : (emptyHistory s).pending = s.pending := rfl
@[simp] theorem emptyHistory_now (s : State) : (emptyHistory s).now = s.now := rfl
@[simp] theorem emptyHistory_inhibitPin (s : State) : (emptyHistory s).inhibitPin = s.inhibitPin := rfl
@[simp] theorem emptyHistory_stnPins (s : State) : (emptyHistory s).stnPins = s.stnPins := rfl
@[simp] theorem emptyHistory_baudPins (s : State) : (emptyHistory s).baudPins = s.baudPins := rfl
@[simp] theorem emptyHistory_strapReads (s : State) : (emptyHistory s).strapReads = s.strapReads := rfl
@[simp] theorem emptyHistory_hl (s : State) : (emptyHistory s).hl = s.hl := rfl
@[simp] theorem emptyHistory_sensors (s : State) : (emptyHistory s).sensors = s.sensors := rfl
@[simp] theorem emptyHistory_index (s : State) : (emptyHistory s).index = s.index := rfl
@[simp] theorem emptyHistory_segments (s : State) : (emptyHistory s).segments = s.segments := rfl
@[simp] theorem emptyHistory_interrupters (s : State) : (emptyHistory s).interrupters = s.interrupters := rfl
@[simp] theorem emptyHistory_ring (s : State) : (emptyHistory s).ring = s.ring := rfl
@[simp] theorem emptyHistory_pass (s : State) : (emptyHistory s).pass = s.pass := rfl
@[simp] theorem emptyHistory_channels (s : State) : (emptyHistory s).channels = s.channels := rfl
@[simp] theorem emptyHistory_nq (s : State) : (emptyHistory s).nq = s.nq := rfl
@[simp] theorem emptyHistory_cb (s : State) : (emptyHistory s).cb = s.cb := rfl
@[simp] theorem emptyHistory_tm (s : State) : (emptyHistory s).tm = s.tm := rfl
@[simp] theorem emptyHistory_mc (s : State) : (emptyHistory s).mc = s.mc := rfl
@[simp] theorem emptyHistory_params (s : State) : (emptyHistory s).params = s.params := rfl

/-! ### leaveRing -/

@[simp] theorem leaveRing_pending (n : Nat) (s : State) : (leaveRing n s).pending = s.pending := rfl
@[simp] theorem leaveRing_now (n : Nat) (s : State) : (leaveRing n s).now = s.now := rfl
@[simp] theorem leaveRing_inhibitPin (n : Nat) (s : State) : (leaveRing n s).inhibitPin = s.inhibitPin := rfl
@[simp] theorem leaveRing_stnPins (n : Nat) (s : State) : (leaveRing n s).stnPins = s.stnPins := rfl
@[simp] theorem leaveRing_baudPins (n : Nat) (s : State) : (leaveRing n s).baudPins = s.baudPins := rfl
@[simp] theorem leaveRing_strapReads (n : Nat) (s : State) : (leaveRing n s).strapReads = s.strapReads := rfl
@[simp] theorem leaveRing_hl (n : Nat) (s : State) : (leaveRing n s).hl = s.hl := rfl
@[simp] theorem leaveRing_ft (n : Nat) (s : State) : (leaveRing n s).ft = s.ft := rfl
@[simp] theorem leaveRing_sensors (n : Nat) (s : State) : (leaveRing n s).sensors = s.sensors := rfl
@[simp] theorem leaveRing_index (n : Nat) (s : State) : (leaveRing n s).index = s.index := rfl
@[simp] theorem leaveRing_segments (n : Nat) (s : State) : (leaveRing n s).segments = s.segments := rfl
@[simp] theorem leaveRing_interrupters (n : Nat) (s : State) : (leaveRing n s).interrupters = s.interrupters := rfl
@[simp] theorem leaveRing_pass (n : Nat) (s : State) : (leaveRing n s).pass = s.pass := rfl
@[simp] theorem leaveRing_channels (n : Nat) (s : State) : (leaveRing n s).channels = s.channels := rfl
@[simp] theorem leaveRing_nq (n : Nat) (s : State) : (leaveRing n s).nq = s.nq := rfl
@[simp] theorem leaveRing_cb (n : Nat) (s : State) : (leaveRing n s).cb = s.cb := rfl
@[simp] theorem leaveRing_tm (n : Nat) (s : State) : (leaveRing n s).tm = s.tm := rfl
@[simp] theorem leaveRing_mc (n : Nat) (s : State) : (leaveRing n s).mc = s.mc := rfl
@[simp] theorem leaveRing_params (n : Nat) (s : State) : (leaveRing n s).params = s.params := rfl

/-! ### leaveIndex -/

@[simp] theorem leaveIndex_pending (n : Nat) (s : State) : (leaveIndex n s).pending = s.pending := rfl
@[simp] theorem leaveIndex_now (n : Nat) (s : State) : (leaveIndex n s).now = s.now := rfl
@[simp] theorem leaveIndex_inhibitPin (n : Nat) (s : State) : (leaveIndex n s).inhibitPin = s.inhibitPin := rfl
@[simp] theorem leaveIndex_stnPins (n : Nat) (s : State) : (leaveIndex n s).stnPins = s.stnPins := rfl
@[simp] theorem leaveIndex_baudPins (n : Nat) (s : State) : (leaveIndex n s).baudPins = s.baudPins := rfl
@[simp] theorem leaveIndex_strapReads (n : Nat) (s : State) : (leaveIndex n s).strapReads = s.strapReads := rfl
@[simp] theorem leaveIndex_hl (n : Nat) (s : State) : (leaveIndex n s).hl = s.hl := rfl
@[simp] theorem leaveIndex_ft (n : Nat) (s : State) : (leaveIndex n s).ft = s.ft := rfl
@[simp] theorem leaveIndex_sensors (n : Nat) (s : State) : (leaveIndex n s).sensors = s.sensors := rfl
@[simp] theorem leaveIndex_segments (n : Nat) (s : State) : (leaveIndex n s).segments = s.segments := rfl
@[simp] theorem leaveIndex_interrupters (n : Nat) (s : State) : (leaveIndex n s).interrupters = s.interrupters := rfl
@[simp] theorem leaveIndex_ring (n : Nat) (s : State) : (leaveIndex n s).ring = s.ring := rfl
@[simp] theorem leaveIndex_pass (n : Nat) (s : State) : (leaveIndex n s).pass = s.pass := rfl
@[simp] theorem leaveIndex_channels (n : Nat) (s : State) : (leaveIndex n s).channels = s.channels := rfl
@[simp] theorem leaveIndex_nq (n : Nat) (s : State) : (leaveIndex n s).nq = s.nq := rfl
@[simp] theorem leaveIndex_cb (n : Nat) (s : State) : (leaveIndex n s).cb = s.cb := rfl
@[simp] theorem leaveIndex_tm (n : Nat) (s : State) : (leaveIndex n s).tm = s.tm := rfl
@[simp] theorem leaveIndex_mc (n : Nat) (s : State) : (leaveIndex n s).mc = s.mc := rfl
@[simp] theorem leaveIndex_params (n : Nat) (s : State) : (leaveIndex n s).params = s.params := rfl

/-! ### forgetWork -/

@[simp] theorem forgetWork_pending (n : Nat) (s : State) : (forgetWork n s).pending = s.pending := rfl
@[simp] theorem forgetWork_now (n : Nat) (s : State) : (forgetWork n s).now = s.now := rfl
@[simp] theorem forgetWork_inhibitPin (n : Nat) (s : State) : (forgetWork n s).inhibitPin = s.inhibitPin := rfl
@[simp] theorem forgetWork_stnPins (n : Nat) (s : State) : (forgetWork n s).stnPins = s.stnPins := rfl
@[simp] theorem forgetWork_baudPins (n : Nat) (s : State) : (forgetWork n s).baudPins = s.baudPins := rfl
@[simp] theorem forgetWork_strapReads (n : Nat) (s : State) : (forgetWork n s).strapReads = s.strapReads := rfl
@[simp] theorem forgetWork_hl (n : Nat) (s : State) : (forgetWork n s).hl = s.hl := rfl
@[simp] theorem forgetWork_ft (n : Nat) (s : State) : (forgetWork n s).ft = s.ft := rfl
@[simp] theorem forgetWork_sensors (n : Nat) (s : State) : (forgetWork n s).sensors = s.sensors := rfl
@[simp] theorem forgetWork_index (n : Nat) (s : State) : (forgetWork n s).index = s.index := rfl
@[simp] theorem forgetWork_segments (n : Nat) (s : State) : (forgetWork n s).segments = s.segments := rfl
@[simp] theorem forgetWork_interrupters (n : Nat) (s : State) : (forgetWork n s).interrupters = s.interrupters := rfl
@[simp] theorem forgetWork_ring (n : Nat) (s : State) : (forgetWork n s).ring = s.ring := rfl
@[simp] theorem forgetWork_channels (n : Nat) (s : State) : (forgetWork n s).channels = s.channels := rfl
@[simp] theorem forgetWork_nq (n : Nat) (s : State) : (forgetWork n s).nq = s.nq := rfl
@[simp] theorem forgetWork_cb (n : Nat) (s : State) : (forgetWork n s).cb = s.cb := rfl
@[simp] theorem forgetWork_tm (n : Nat) (s : State) : (forgetWork n s).tm = s.tm := rfl
@[simp] theorem forgetWork_mc (n : Nat) (s : State) : (forgetWork n s).mc = s.mc := rfl
@[simp] theorem forgetWork_params (n : Nat) (s : State) : (forgetWork n s).params = s.params := rfl

/-! ### leaveWaiters -/

@[simp] theorem leaveWaiters_pending (n : Nat) (s : State) : (leaveWaiters n s).pending = s.pending := rfl
@[simp] theorem leaveWaiters_now (n : Nat) (s : State) : (leaveWaiters n s).now = s.now := rfl
@[simp] theorem leaveWaiters_inhibitPin (n : Nat) (s : State) : (leaveWaiters n s).inhibitPin = s.inhibitPin := rfl
@[simp] theorem leaveWaiters_stnPins (n : Nat) (s : State) : (leaveWaiters n s).stnPins = s.stnPins := rfl
@[simp] theorem leaveWaiters_baudPins (n : Nat) (s : State) : (leaveWaiters n s).baudPins = s.baudPins := rfl
@[simp] theorem leaveWaiters_strapReads (n : Nat) (s : State) : (leaveWaiters n s).strapReads = s.strapReads := rfl
@[simp] theorem leaveWaiters_hl (n : Nat) (s : State) : (leaveWaiters n s).hl = s.hl := rfl
@[simp] theorem leaveWaiters_ft (n : Nat) (s : State) : (leaveWaiters n s).ft = s.ft := rfl
@[simp] theorem leaveWaiters_sensors (n : Nat) (s : State) : (leaveWaiters n s).sensors = s.sensors := rfl
@[simp] theorem leaveWaiters_index (n : Nat) (s : State) : (leaveWaiters n s).index = s.index := rfl
@[simp] theorem leaveWaiters_segments (n : Nat) (s : State) : (leaveWaiters n s).segments = s.segments := rfl
@[simp] theorem leaveWaiters_ring (n : Nat) (s : State) : (leaveWaiters n s).ring = s.ring := rfl
@[simp] theorem leaveWaiters_pass (n : Nat) (s : State) : (leaveWaiters n s).pass = s.pass := rfl
@[simp] theorem leaveWaiters_channels (n : Nat) (s : State) : (leaveWaiters n s).channels = s.channels := rfl
@[simp] theorem leaveWaiters_nq (n : Nat) (s : State) : (leaveWaiters n s).nq = s.nq := rfl
@[simp] theorem leaveWaiters_cb (n : Nat) (s : State) : (leaveWaiters n s).cb = s.cb := rfl
@[simp] theorem leaveWaiters_tm (n : Nat) (s : State) : (leaveWaiters n s).tm = s.tm := rfl
@[simp] theorem leaveWaiters_mc (n : Nat) (s : State) : (leaveWaiters n s).mc = s.mc := rfl
@[simp] theorem leaveWaiters_params (n : Nat) (s : State) : (leaveWaiters n s).params = s.params := rfl

/-! ### noteCorrection -/

@[simp] theorem noteCorrection_pending (k : Nat) (s : State) : (noteCorrection k s).pending = s.pending := rfl
@[simp] theorem noteCorrection_now (k : Nat) (s : State) : (noteCorrection k s).now = s.now := rfl
@[simp] theorem noteCorrection_inhibitPin (k : Nat) (s : State) : (noteCorrection k s).inhibitPin = s.inhibitPin := rfl
@[simp] theorem noteCorrection_stnPins (k : Nat) (s : State) : (noteCorrection k s).stnPins = s.stnPins := rfl
@[simp] theorem noteCorrection_baudPins (k : Nat) (s : State) : (noteCorrection k s).baudPins = s.baudPins := rfl
@[simp] theorem noteCorrection_strapReads (k : Nat) (s : State) : (noteCorrection k s).strapReads = s.strapReads := rfl
@[simp] theorem noteCorrection_hl (k : Nat) (s : State) : (noteCorrection k s).hl = s.hl := rfl
@[simp] theorem noteCorrection_ft (k : Nat) (s : State) : (noteCorrection k s).ft = s.ft := rfl
@[simp] theorem noteCorrection_sensors (k : Nat) (s : State) : (noteCorrection k s).sensors = s.sensors := rfl
@[simp] theorem noteCorrection_index (k : Nat) (s : State) : (noteCorrection k s).index = s.index := rfl
@[simp] theorem noteCorrection_segments (k : Nat) (s : State) : (noteCorrection k s).segments = s.segments := rfl
@[simp] theorem noteCorrection_interrupters (k : Nat) (s : State) : (noteCorrection k s).interrupters = s.interrupters := rfl
@[simp] theorem noteCorrection_ring (k : Nat) (s : State) : (noteCorrection k s).ring = s.ring := rfl
@[simp] theorem noteCorrection_pass (k : Nat) (s : State) : (noteCorrection k s).pass = s.pass := rfl
@[simp] theorem noteCorrection_channels (k : Nat) (s : State) : (noteCorrection k s).channels = s.channels := rfl
@[simp] theorem noteCorrection_nq (k : Nat) (s : State) : (noteCorrection k s).nq = s.nq := rfl
@[simp] theorem noteCorrection_mc (k : Nat) (s : State) : (noteCorrection k s).mc = s.mc := rfl
@[simp] theorem noteCorrection_params (k : Nat) (s : State) : (noteCorrection k s).params = s.params := rfl

/-! ### modifyPass -/

@[simp] theorem modifyPass_pending (f : Pass → Pass) (s : State) : (modifyPass f s).pending = s.pending := rfl
@[simp] theorem modifyPass_now (f : Pass → Pass) (s : State) : (modifyPass f s).now = s.now := rfl
@[simp] theorem modifyPass_inhibitPin (f : Pass → Pass) (s : State) : (modifyPass f s).inhibitPin = s.inhibitPin := rfl
@[simp] theorem modifyPass_stnPins (f : Pass → Pass) (s : State) : (modifyPass f s).stnPins = s.stnPins := rfl
@[simp] theorem modifyPass_baudPins (f : Pass → Pass) (s : State) : (modifyPass f s).baudPins = s.baudPins := rfl
@[simp] theorem modifyPass_strapReads (f : Pass → Pass) (s : State) : (modifyPass f s).strapReads = s.strapReads := rfl
@[simp] theorem modifyPass_hl (f : Pass → Pass) (s : State) : (modifyPass f s).hl = s.hl := rfl
@[simp] theorem modifyPass_ft (f : Pass → Pass) (s : State) : (modifyPass f s).ft = s.ft := rfl
@[simp] theorem modifyPass_sensors (f : Pass → Pass) (s : State) : (modifyPass f s).sensors = s.sensors := rfl
@[simp] theorem modifyPass_index (f : Pass → Pass) (s : State) : (modifyPass f s).index = s.index := rfl
@[simp] theorem modifyPass_segments (f : Pass → Pass) (s : State) : (modifyPass f s).segments = s.segments := rfl
@[simp] theorem modifyPass_interrupters (f : Pass → Pass) (s : State) : (modifyPass f s).interrupters = s.interrupters := rfl
@[simp] theorem modifyPass_ring (f : Pass → Pass) (s : State) : (modifyPass f s).ring = s.ring := rfl
@[simp] theorem modifyPass_channels (f : Pass → Pass) (s : State) : (modifyPass f s).channels = s.channels := rfl
@[simp] theorem modifyPass_nq (f : Pass → Pass) (s : State) : (modifyPass f s).nq = s.nq := rfl
@[simp] theorem modifyPass_cb (f : Pass → Pass) (s : State) : (modifyPass f s).cb = s.cb := rfl
@[simp] theorem modifyPass_tm (f : Pass → Pass) (s : State) : (modifyPass f s).tm = s.tm := rfl
@[simp] theorem modifyPass_mc (f : Pass → Pass) (s : State) : (modifyPass f s).mc = s.mc := rfl
@[simp] theorem modifyPass_params (f : Pass → Pass) (s : State) : (modifyPass f s).params = s.params := rfl

/-! ### enqueue -/

@[simp] theorem enqueue_pending (n : Notice) (s : State) : (enqueue n s).pending = s.pending := by
  unfold enqueue noticeLost
  split
  · rfl
  · split <;> rfl
@[simp] theorem enqueue_now (n : Notice) (s : State) : (enqueue n s).now = s.now := by
  unfold enqueue noticeLost
  split
  · rfl
  · split <;> rfl
@[simp] theorem enqueue_inhibitPin (n : Notice) (s : State) : (enqueue n s).inhibitPin = s.inhibitPin := by
  unfold enqueue noticeLost
  split
  · rfl
  · split <;> rfl
@[simp] theorem enqueue_stnPins (n : Notice) (s : State) : (enqueue n s).stnPins = s.stnPins := by
  unfold enqueue noticeLost
  split
  · rfl
  · split <;> rfl
@[simp] theorem enqueue_baudPins (n : Notice) (s : State) : (enqueue n s).baudPins = s.baudPins := by
  unfold enqueue noticeLost
  split
  · rfl
  · split <;> rfl
@[simp] theorem enqueue_strapReads (n : Notice) (s : State) : (enqueue n s).strapReads = s.strapReads := by
  unfold enqueue noticeLost
  split
  · rfl
  · split <;> rfl
@[simp] theorem enqueue_hl (n : Notice) (s : State) : (enqueue n s).hl = s.hl := by
  unfold enqueue noticeLost
  split
  · rfl
  · split <;> rfl
@[simp] theorem enqueue_ft (n : Notice) (s : State) : (enqueue n s).ft = s.ft := by
  unfold enqueue noticeLost
  split
  · rfl
  · split <;> rfl
@[simp] theorem enqueue_sensors (n : Notice) (s : State) : (enqueue n s).sensors = s.sensors := by
  unfold enqueue noticeLost
  split
  · rfl
  · split <;> rfl
@[simp] theorem enqueue_index (n : Notice) (s : State) : (enqueue n s).index = s.index := by
  unfold enqueue noticeLost
  split
  · rfl
  · split <;> rfl
@[simp] theorem enqueue_segments (n : Notice) (s : State) : (enqueue n s).segments = s.segments := by
  unfold enqueue noticeLost
  split
  · rfl
  · split <;> rfl
@[simp] theorem enqueue_interrupters (n : Notice) (s : State) : (enqueue n s).interrupters = s.interrupters := by
  unfold enqueue noticeLost
  split
  · rfl
  · split <;> rfl
@[simp] theorem enqueue_ring (n : Notice) (s : State) : (enqueue n s).ring = s.ring := by
  unfold enqueue noticeLost
  split
  · rfl
  · split <;> rfl
@[simp] theorem enqueue_pass (n : Notice) (s : State) : (enqueue n s).pass = s.pass := by
  unfold enqueue noticeLost
  split
  · rfl
  · split <;> rfl
@[simp] theorem enqueue_channels (n : Notice) (s : State) : (enqueue n s).channels = s.channels := by
  unfold enqueue noticeLost
  split
  · rfl
  · split <;> rfl
@[simp] theorem enqueue_tm (n : Notice) (s : State) : (enqueue n s).tm = s.tm := by
  unfold enqueue noticeLost
  split
  · rfl
  · split <;> rfl
@[simp] theorem enqueue_mc (n : Notice) (s : State) : (enqueue n s).mc = s.mc := by
  unfold enqueue noticeLost
  split
  · rfl
  · split <;> rfl
@[simp] theorem enqueue_params (n : Notice) (s : State) : (enqueue n s).params = s.params := by
  unfold enqueue noticeLost
  split
  · rfl
  · split <;> rfl

/-! ### raiseAt -/

@[simp] theorem raiseAt_pending (f : FrameNo) (b : NoticeBody) (s : State) : (raiseAt f b s).pending = s.pending := by
  simp [raiseAt]
@[simp] theorem raiseAt_now (f : FrameNo) (b : NoticeBody) (s : State) : (raiseAt f b s).now = s.now := by
  simp [raiseAt]
@[simp] theorem raiseAt_inhibitPin (f : FrameNo) (b : NoticeBody) (s : State) : (raiseAt f b s).inhibitPin = s.inhibitPin := by
  simp [raiseAt]
@[simp] theorem raiseAt_stnPins (f : FrameNo) (b : NoticeBody) (s : State) : (raiseAt f b s).stnPins = s.stnPins := by
  simp [raiseAt]
@[simp] theorem raiseAt_baudPins (f : FrameNo) (b : NoticeBody) (s : State) : (raiseAt f b s).baudPins = s.baudPins := by
  simp [raiseAt]
@[simp] theorem raiseAt_strapReads (f : FrameNo) (b : NoticeBody) (s : State) : (raiseAt f b s).strapReads = s.strapReads := by
  simp [raiseAt]
@[simp] theorem raiseAt_hl (f : FrameNo) (b : NoticeBody) (s : State) : (raiseAt f b s).hl = s.hl := by
  simp [raiseAt]
@[simp] theorem raiseAt_ft (f : FrameNo) (b : NoticeBody) (s : State) : (raiseAt f b s).ft = s.ft := by
  simp [raiseAt]
@[simp] theorem raiseAt_sensors (f : FrameNo) (b : NoticeBody) (s : State) : (raiseAt f b s).sensors = s.sensors := by
  simp [raiseAt]
@[simp] theorem raiseAt_index (f : FrameNo) (b : NoticeBody) (s : State) : (raiseAt f b s).index = s.index := by
  simp [raiseAt]
@[simp] theorem raiseAt_segments (f : FrameNo) (b : NoticeBody) (s : State) : (raiseAt f b s).segments = s.segments := by
  simp [raiseAt]
@[simp] theorem raiseAt_interrupters (f : FrameNo) (b : NoticeBody) (s : State) : (raiseAt f b s).interrupters = s.interrupters := by
  simp [raiseAt]
@[simp] theorem raiseAt_ring (f : FrameNo) (b : NoticeBody) (s : State) : (raiseAt f b s).ring = s.ring := by
  simp [raiseAt]
@[simp] theorem raiseAt_pass (f : FrameNo) (b : NoticeBody) (s : State) : (raiseAt f b s).pass = s.pass := by
  simp [raiseAt]
@[simp] theorem raiseAt_channels (f : FrameNo) (b : NoticeBody) (s : State) : (raiseAt f b s).channels = s.channels := by
  simp [raiseAt]
@[simp] theorem raiseAt_tm (f : FrameNo) (b : NoticeBody) (s : State) : (raiseAt f b s).tm = s.tm := by
  simp [raiseAt]
@[simp] theorem raiseAt_mc (f : FrameNo) (b : NoticeBody) (s : State) : (raiseAt f b s).mc = s.mc := by
  simp [raiseAt]
@[simp] theorem raiseAt_params (f : FrameNo) (b : NoticeBody) (s : State) : (raiseAt f b s).params = s.params := by
  simp [raiseAt]

/-! ### raiseNow -/

@[simp] theorem raiseNow_pending (b : NoticeBody) (s : State) : (raiseNow b s).pending = s.pending := by
  simp [raiseNow]
@[simp] theorem raiseNow_now (b : NoticeBody) (s : State) : (raiseNow b s).now = s.now := by
  simp [raiseNow]
@[simp] theorem raiseNow_inhibitPin (b : NoticeBody) (s : State) : (raiseNow b s).inhibitPin = s.inhibitPin := by
  simp [raiseNow]
@[simp] theorem raiseNow_stnPins (b : NoticeBody) (s : State) : (raiseNow b s).stnPins = s.stnPins := by
  simp [raiseNow]
@[simp] theorem raiseNow_baudPins (b : NoticeBody) (s : State) : (raiseNow b s).baudPins = s.baudPins := by
  simp [raiseNow]
@[simp] theorem raiseNow_strapReads (b : NoticeBody) (s : State) : (raiseNow b s).strapReads = s.strapReads := by
  simp [raiseNow]
@[simp] theorem raiseNow_hl (b : NoticeBody) (s : State) : (raiseNow b s).hl = s.hl := by
  simp [raiseNow]
@[simp] theorem raiseNow_ft (b : NoticeBody) (s : State) : (raiseNow b s).ft = s.ft := by
  simp [raiseNow]
@[simp] theorem raiseNow_sensors (b : NoticeBody) (s : State) : (raiseNow b s).sensors = s.sensors := by
  simp [raiseNow]
@[simp] theorem raiseNow_index (b : NoticeBody) (s : State) : (raiseNow b s).index = s.index := by
  simp [raiseNow]
@[simp] theorem raiseNow_segments (b : NoticeBody) (s : State) : (raiseNow b s).segments = s.segments := by
  simp [raiseNow]
@[simp] theorem raiseNow_interrupters (b : NoticeBody) (s : State) : (raiseNow b s).interrupters = s.interrupters := by
  simp [raiseNow]
@[simp] theorem raiseNow_ring (b : NoticeBody) (s : State) : (raiseNow b s).ring = s.ring := by
  simp [raiseNow]
@[simp] theorem raiseNow_pass (b : NoticeBody) (s : State) : (raiseNow b s).pass = s.pass := by
  simp [raiseNow]
@[simp] theorem raiseNow_channels (b : NoticeBody) (s : State) : (raiseNow b s).channels = s.channels := by
  simp [raiseNow]
@[simp] theorem raiseNow_tm (b : NoticeBody) (s : State) : (raiseNow b s).tm = s.tm := by
  simp [raiseNow]
@[simp] theorem raiseNow_mc (b : NoticeBody) (s : State) : (raiseNow b s).mc = s.mc := by
  simp [raiseNow]
@[simp] theorem raiseNow_params (b : NoticeBody) (s : State) : (raiseNow b s).params = s.params := by
  simp [raiseNow]

/-! ### settleUrgency -/

@[simp] theorem settleUrgency_pending (u : Bool) (s : State) : (settleUrgency u s).pending = s.pending := by
  unfold settleUrgency
  split
  · rfl
  · split <;> rfl
@[simp] theorem settleUrgency_now (u : Bool) (s : State) : (settleUrgency u s).now = s.now := by
  unfold settleUrgency
  split
  · rfl
  · split <;> rfl
@[simp] theorem settleUrgency_inhibitPin (u : Bool) (s : State) : (settleUrgency u s).inhibitPin = s.inhibitPin := by
  unfold settleUrgency
  split
  · rfl
  · split <;> rfl
@[simp] theorem settleUrgency_stnPins (u : Bool) (s : State) : (settleUrgency u s).stnPins = s.stnPins := by
  unfold settleUrgency
  split
  · rfl
  · split <;> rfl
@[simp] theorem settleUrgency_baudPins (u : Bool) (s : State) : (settleUrgency u s).baudPins = s.baudPins := by
  unfold settleUrgency
  split
  · rfl
  · split <;> rfl
@[simp] theorem settleUrgency_strapReads (u : Bool) (s : State) : (settleUrgency u s).strapReads = s.strapReads := by
  unfold settleUrgency
  split
  · rfl
  · split <;> rfl
@[simp] theorem settleUrgency_hl (u : Bool) (s : State) : (settleUrgency u s).hl = s.hl := by
  unfold settleUrgency
  split
  · rfl
  · split <;> rfl
@[simp] theorem settleUrgency_ft (u : Bool) (s : State) : (settleUrgency u s).ft = s.ft := by
  unfold settleUrgency
  split
  · rfl
  · split <;> rfl
@[simp] theorem settleUrgency_sensors (u : Bool) (s : State) : (settleUrgency u s).sensors = s.sensors := by
  unfold settleUrgency
  split
  · rfl
  · split <;> rfl
@[simp] theorem settleUrgency_index (u : Bool) (s : State) : (settleUrgency u s).index = s.index := by
  unfold settleUrgency
  split
  · rfl
  · split <;> rfl
@[simp] theorem settleUrgency_segments (u : Bool) (s : State) : (settleUrgency u s).segments = s.segments := by
  unfold settleUrgency
  split
  · rfl
  · split <;> rfl
@[simp] theorem settleUrgency_interrupters (u : Bool) (s : State) : (settleUrgency u s).interrupters = s.interrupters := by
  unfold settleUrgency
  split
  · rfl
  · split <;> rfl
@[simp] theorem settleUrgency_ring (u : Bool) (s : State) : (settleUrgency u s).ring = s.ring := by
  unfold settleUrgency
  split
  · rfl
  · split <;> rfl
@[simp] theorem settleUrgency_pass (u : Bool) (s : State) : (settleUrgency u s).pass = s.pass := by
  unfold settleUrgency
  split
  · rfl
  · split <;> rfl
@[simp] theorem settleUrgency_channels (u : Bool) (s : State) : (settleUrgency u s).channels = s.channels := by
  unfold settleUrgency
  split
  · rfl
  · split <;> rfl
@[simp] theorem settleUrgency_cb (u : Bool) (s : State) : (settleUrgency u s).cb = s.cb := by
  unfold settleUrgency
  split
  · rfl
  · split <;> rfl
@[simp] theorem settleUrgency_tm (u : Bool) (s : State) : (settleUrgency u s).tm = s.tm := by
  unfold settleUrgency
  split
  · rfl
  · split <;> rfl
@[simp] theorem settleUrgency_mc (u : Bool) (s : State) : (settleUrgency u s).mc = s.mc := by
  unfold settleUrgency
  split
  · rfl
  · split <;> rfl
@[simp] theorem settleUrgency_params (u : Bool) (s : State) : (settleUrgency u s).params = s.params := by
  unfold settleUrgency
  split
  · rfl
  · split <;> rfl

/-! ### modifySensor -/

@[simp] theorem modifySensor_pending (n : Nat) (f : SensorRec → SensorRec) (s : State) : (modifySensor n f s).pending = s.pending := by
  unfold modifySensor
  split <;> rfl
@[simp] theorem modifySensor_now (n : Nat) (f : SensorRec → SensorRec) (s : State) : (modifySensor n f s).now = s.now := by
  unfold modifySensor
  split <;> rfl
@[simp] theorem modifySensor_inhibitPin (n : Nat) (f : SensorRec → SensorRec) (s : State) : (modifySensor n f s).inhibitPin = s.inhibitPin := by
  unfold modifySensor
  split <;> rfl
@[simp] theorem modifySensor_stnPins (n : Nat) (f : SensorRec → SensorRec) (s : State) : (modifySensor n f s).stnPins = s.stnPins := by
  unfold modifySensor
  split <;> rfl
@[simp] theorem modifySensor_baudPins (n : Nat) (f : SensorRec → SensorRec) (s : State) : (modifySensor n f s).baudPins = s.baudPins := by
  unfold modifySensor
  split <;> rfl
@[simp] theorem modifySensor_strapReads (n : Nat) (f : SensorRec → SensorRec) (s : State) : (modifySensor n f s).strapReads = s.strapReads := by
  unfold modifySensor
  split <;> rfl
@[simp] theorem modifySensor_hl (n : Nat) (f : SensorRec → SensorRec) (s : State) : (modifySensor n f s).hl = s.hl := by
  unfold modifySensor
  split <;> rfl
@[simp] theorem modifySensor_ft (n : Nat) (f : SensorRec → SensorRec) (s : State) : (modifySensor n f s).ft = s.ft := by
  unfold modifySensor
  split <;> rfl
@[simp] theorem modifySensor_index (n : Nat) (f : SensorRec → SensorRec) (s : State) : (modifySensor n f s).index = s.index := by
  unfold modifySensor
  split <;> rfl
@[simp] theorem modifySensor_segments (n : Nat) (f : SensorRec → SensorRec) (s : State) : (modifySensor n f s).segments = s.segments := by
  unfold modifySensor
  split <;> rfl
@[simp] theorem modifySensor_interrupters (n : Nat) (f : SensorRec → SensorRec) (s : State) : (modifySensor n f s).interrupters = s.interrupters := by
  unfold modifySensor
  split <;> rfl
@[simp] theorem modifySensor_ring (n : Nat) (f : SensorRec → SensorRec) (s : State) : (modifySensor n f s).ring = s.ring := by
  unfold modifySensor
  split <;> rfl
@[simp] theorem modifySensor_pass (n : Nat) (f : SensorRec → SensorRec) (s : State) : (modifySensor n f s).pass = s.pass := by
  unfold modifySensor
  split <;> rfl
@[simp] theorem modifySensor_channels (n : Nat) (f : SensorRec → SensorRec) (s : State) : (modifySensor n f s).channels = s.channels := by
  unfold modifySensor
  split <;> rfl
@[simp] theorem modifySensor_nq (n : Nat) (f : SensorRec → SensorRec) (s : State) : (modifySensor n f s).nq = s.nq := by
  unfold modifySensor
  split <;> rfl
@[simp] theorem modifySensor_cb (n : Nat) (f : SensorRec → SensorRec) (s : State) : (modifySensor n f s).cb = s.cb := by
  unfold modifySensor
  split <;> rfl
@[simp] theorem modifySensor_tm (n : Nat) (f : SensorRec → SensorRec) (s : State) : (modifySensor n f s).tm = s.tm := by
  unfold modifySensor
  split <;> rfl
@[simp] theorem modifySensor_mc (n : Nat) (f : SensorRec → SensorRec) (s : State) : (modifySensor n f s).mc = s.mc := by
  unfold modifySensor
  split <;> rfl
@[simp] theorem modifySensor_params (n : Nat) (f : SensorRec → SensorRec) (s : State) : (modifySensor n f s).params = s.params := by
  unfold modifySensor
  split <;> rfl

/-! ### modifySegment -/

@[simp] theorem modifySegment_pending (n : Nat) (f : SegRec → SegRec) (s : State) : (modifySegment n f s).pending = s.pending := by
  unfold modifySegment
  split <;> rfl
@[simp] theorem modifySegment_now (n : Nat) (f : SegRec → SegRec) (s : State) : (modifySegment n f s).now = s.now := by
  unfold modifySegment
  split <;> rfl
@[simp] theorem modifySegment_inhibitPin (n : Nat) (f : SegRec → SegRec) (s : State) : (modifySegment n f s).inhibitPin = s.inhibitPin := by
  unfold modifySegment
  split <;> rfl
@[simp] theorem modifySegment_stnPins (n : Nat) (f : SegRec → SegRec) (s : State) : (modifySegment n f s).stnPins = s.stnPins := by
  unfold modifySegment
  split <;> rfl
@[simp] theorem modifySegment_baudPins (n : Nat) (f : SegRec → SegRec) (s : State) : (modifySegment n f s).baudPins = s.baudPins := by
  unfold modifySegment
  split <;> rfl
@[simp] theorem modifySegment_strapReads (n : Nat) (f : SegRec → SegRec) (s : State) : (modifySegment n f s).strapReads = s.strapReads := by
  unfold modifySegment
  split <;> rfl
@[simp] theorem modifySegment_hl (n : Nat) (f : SegRec → SegRec) (s : State) : (modifySegment n f s).hl = s.hl := by
  unfold modifySegment
  split <;> rfl
@[simp] theorem modifySegment_ft (n : Nat) (f : SegRec → SegRec) (s : State) : (modifySegment n f s).ft = s.ft := by
  unfold modifySegment
  split <;> rfl
@[simp] theorem modifySegment_sensors (n : Nat) (f : SegRec → SegRec) (s : State) : (modifySegment n f s).sensors = s.sensors := by
  unfold modifySegment
  split <;> rfl
@[simp] theorem modifySegment_index (n : Nat) (f : SegRec → SegRec) (s : State) : (modifySegment n f s).index = s.index := by
  unfold modifySegment
  split <;> rfl
@[simp] theorem modifySegment_interrupters (n : Nat) (f : SegRec → SegRec) (s : State) : (modifySegment n f s).interrupters = s.interrupters := by
  unfold modifySegment
  split <;> rfl
@[simp] theorem modifySegment_ring (n : Nat) (f : SegRec → SegRec) (s : State) : (modifySegment n f s).ring = s.ring := by
  unfold modifySegment
  split <;> rfl
@[simp] theorem modifySegment_pass (n : Nat) (f : SegRec → SegRec) (s : State) : (modifySegment n f s).pass = s.pass := by
  unfold modifySegment
  split <;> rfl
@[simp] theorem modifySegment_channels (n : Nat) (f : SegRec → SegRec) (s : State) : (modifySegment n f s).channels = s.channels := by
  unfold modifySegment
  split <;> rfl
@[simp] theorem modifySegment_nq (n : Nat) (f : SegRec → SegRec) (s : State) : (modifySegment n f s).nq = s.nq := by
  unfold modifySegment
  split <;> rfl
@[simp] theorem modifySegment_cb (n : Nat) (f : SegRec → SegRec) (s : State) : (modifySegment n f s).cb = s.cb := by
  unfold modifySegment
  split <;> rfl
@[simp] theorem modifySegment_tm (n : Nat) (f : SegRec → SegRec) (s : State) : (modifySegment n f s).tm = s.tm := by
  unfold modifySegment
  split <;> rfl
@[simp] theorem modifySegment_mc (n : Nat) (f : SegRec → SegRec) (s : State) : (modifySegment n f s).mc = s.mc := by
  unfold modifySegment
  split <;> rfl
@[simp] theorem modifySegment_params (n : Nat) (f : SegRec → SegRec) (s : State) : (modifySegment n f s).params = s.params := by
  unfold modifySegment
  split <;> rfl

/-! ### modifyInterrupter -/

@[simp] theorem modifyInterrupter_pending (n : Nat) (f : IntRec → IntRec) (s : State) : (modifyInterrupter n f s).pending = s.pending := by
  unfold modifyInterrupter
  split <;> rfl
@[simp] theorem modifyInterrupter_now (n : Nat) (f : IntRec → IntRec) (s : State) : (modifyInterrupter n f s).now = s.now := by
  unfold modifyInterrupter
  split <;> rfl
@[simp] theorem modifyInterrupter_inhibitPin (n : Nat) (f : IntRec → IntRec) (s : State) : (modifyInterrupter n f s).inhibitPin = s.inhibitPin := by
  unfold modifyInterrupter
  split <;> rfl
@[simp] theorem modifyInterrupter_stnPins (n : Nat) (f : IntRec → IntRec) (s : State) : (modifyInterrupter n f s).stnPins = s.stnPins := by
  unfold modifyInterrupter
  split <;> rfl
@[simp] theorem modifyInterrupter_baudPins (n : Nat) (f : IntRec → IntRec) (s : State) : (modifyInterrupter n f s).baudPins = s.baudPins := by
  unfold modifyInterrupter
  split <;> rfl
@[simp] theorem modifyInterrupter_strapReads (n : Nat) (f : IntRec → IntRec) (s : State) : (modifyInterrupter n f s).strapReads = s.strapReads := by
  unfold modifyInterrupter
  split <;> rfl
@[simp] theorem modifyInterrupter_hl (n : Nat) (f : IntRec → IntRec) (s : State) : (modifyInterrupter n f s).hl = s.hl := by
  unfold modifyInterrupter
  split <;> rfl
@[simp] theorem modifyInterrupter_ft (n : Nat) (f : IntRec → IntRec) (s : State) : (modifyInterrupter n f s).ft = s.ft := by
  unfold modifyInterrupter
  split <;> rfl
@[simp] theorem modifyInterrupter_sensors (n : Nat) (f : IntRec → IntRec) (s : State) : (modifyInterrupter n f s).sensors = s.sensors := by
  unfold modifyInterrupter
  split <;> rfl
@[simp] theorem modifyInterrupter_index (n : Nat) (f : IntRec → IntRec) (s : State) : (modifyInterrupter n f s).index = s.index := by
  unfold modifyInterrupter
  split <;> rfl
@[simp] theorem modifyInterrupter_segments (n : Nat) (f : IntRec → IntRec) (s : State) : (modifyInterrupter n f s).segments = s.segments := by
  unfold modifyInterrupter
  split <;> rfl
@[simp] theorem modifyInterrupter_ring (n : Nat) (f : IntRec → IntRec) (s : State) : (modifyInterrupter n f s).ring = s.ring := by
  unfold modifyInterrupter
  split <;> rfl
@[simp] theorem modifyInterrupter_pass (n : Nat) (f : IntRec → IntRec) (s : State) : (modifyInterrupter n f s).pass = s.pass := by
  unfold modifyInterrupter
  split <;> rfl
@[simp] theorem modifyInterrupter_channels (n : Nat) (f : IntRec → IntRec) (s : State) : (modifyInterrupter n f s).channels = s.channels := by
  unfold modifyInterrupter
  split <;> rfl
@[simp] theorem modifyInterrupter_nq (n : Nat) (f : IntRec → IntRec) (s : State) : (modifyInterrupter n f s).nq = s.nq := by
  unfold modifyInterrupter
  split <;> rfl
@[simp] theorem modifyInterrupter_cb (n : Nat) (f : IntRec → IntRec) (s : State) : (modifyInterrupter n f s).cb = s.cb := by
  unfold modifyInterrupter
  split <;> rfl
@[simp] theorem modifyInterrupter_tm (n : Nat) (f : IntRec → IntRec) (s : State) : (modifyInterrupter n f s).tm = s.tm := by
  unfold modifyInterrupter
  split <;> rfl
@[simp] theorem modifyInterrupter_mc (n : Nat) (f : IntRec → IntRec) (s : State) : (modifyInterrupter n f s).mc = s.mc := by
  unfold modifyInterrupter
  split <;> rfl
@[simp] theorem modifyInterrupter_params (n : Nat) (f : IntRec → IntRec) (s : State) : (modifyInterrupter n f s).params = s.params := by
  unfold modifyInterrupter
  split <;> rfl

/-! ### hardReset -/

@[simp] theorem hardReset_pending (station baud : BitVec 2) (s : State) : (hardReset station baud s).pending = s.pending := rfl
@[simp] theorem hardReset_now (station baud : BitVec 2) (s : State) : (hardReset station baud s).now = s.now := rfl
@[simp] theorem hardReset_inhibitPin (station baud : BitVec 2) (s : State) : (hardReset station baud s).inhibitPin = s.inhibitPin := rfl
@[simp] theorem hardReset_sensors (station baud : BitVec 2) (s : State) : (hardReset station baud s).sensors = s.sensors := rfl
@[simp] theorem hardReset_index (station baud : BitVec 2) (s : State) : (hardReset station baud s).index = s.index := rfl
@[simp] theorem hardReset_stnPins (station baud : BitVec 2) (s : State) : (hardReset station baud s).stnPins = station := rfl
@[simp] theorem hardReset_baudPins (station baud : BitVec 2) (s : State) : (hardReset station baud s).baudPins = baud := rfl
@[simp] theorem hardReset_strapReads (station baud : BitVec 2) (s : State) : (hardReset station baud s).strapReads = s.strapReads := rfl
@[simp] theorem hardReset_hl (station baud : BitVec 2) (s : State) : (hardReset station baud s).hl = .reset station baud := rfl
@[simp] theorem hardReset_ft (station baud : BitVec 2) (s : State) : (hardReset station baud s).ft = .reset := rfl
@[simp] theorem hardReset_ring (station baud : BitVec 2) (s : State) : (hardReset station baud s).ring = [] := rfl
@[simp] theorem hardReset_pass (station baud : BitVec 2) (s : State) : (hardReset station baud s).pass = none := rfl
@[simp] theorem hardReset_channels (station baud : BitVec 2) (s : State) : (hardReset station baud s).channels = .defaults := rfl
@[simp] theorem hardReset_nq (station baud : BitVec 2) (s : State) : (hardReset station baud s).nq = .reset := rfl
@[simp] theorem hardReset_cb (station baud : BitVec 2) (s : State) : (hardReset station baud s).cb = .reset := rfl
@[simp] theorem hardReset_tm (station baud : BitVec 2) (s : State) : (hardReset station baud s).tm = .reset := rfl
@[simp] theorem hardReset_mc (station baud : BitVec 2) (s : State) : (hardReset station baud s).mc = .reset := rfl
@[simp] theorem hardReset_params (station baud : BitVec 2) (s : State) : (hardReset station baud s).params = .defaults := rfl
@[simp] theorem hardReset_segments (station baud : BitVec 2) (s : State) :
    (hardReset station baud s).segments = s.segments.map fun p => (p.1, stopDeadline p.2) := rfl
@[simp] theorem hardReset_interrupters (station baud : BitVec 2) (s : State) :
    (hardReset station baud s).interrupters = s.interrupters.map fun p => (p.1, stopConfirm p.2) := rfl

/-! ### dropOther -/

@[simp] theorem dropOther_pending (address : Byte) (s : State) : (dropOther address s).pending = s.pending := by
  unfold dropOther
  split <;> try split
  all_goals rfl
@[simp] theorem dropOther_now (address : Byte) (s : State) : (dropOther address s).now = s.now := by
  unfold dropOther
  split <;> try split
  all_goals rfl
@[simp] theorem dropOther_inhibitPin (address : Byte) (s : State) : (dropOther address s).inhibitPin = s.inhibitPin := by
  unfold dropOther
  split <;> try split
  all_goals rfl
@[simp] theorem dropOther_stnPins (address : Byte) (s : State) : (dropOther address s).stnPins = s.stnPins := by
  unfold dropOther
  split <;> try split
  all_goals rfl
@[simp] theorem dropOther_baudPins (address : Byte) (s : State) : (dropOther address s).baudPins = s.baudPins := by
  unfold dropOther
  split <;> try split
  all_goals rfl
@[simp] theorem dropOther_strapReads (address : Byte) (s : State) : (dropOther address s).strapReads = s.strapReads := by
  unfold dropOther
  split <;> try split
  all_goals rfl
@[simp] theorem dropOther_ft (address : Byte) (s : State) : (dropOther address s).ft = s.ft := by
  unfold dropOther
  split <;> try split
  all_goals rfl
@[simp] theorem dropOther_sensors (address : Byte) (s : State) : (dropOther address s).sensors = s.sensors := by
  unfold dropOther
  split <;> try split
  all_goals rfl
@[simp] theorem dropOther_index (address : Byte) (s : State) : (dropOther address s).index = s.index := by
  unfold dropOther
  split <;> try split
  all_goals rfl
@[simp] theorem dropOther_segments (address : Byte) (s : State) : (dropOther address s).segments = s.segments := by
  unfold dropOther
  split <;> try split
  all_goals rfl
@[simp] theorem dropOther_interrupters (address : Byte) (s : State) : (dropOther address s).interrupters = s.interrupters := by
  unfold dropOther
  split <;> try split
  all_goals rfl
@[simp] theorem dropOther_ring (address : Byte) (s : State) : (dropOther address s).ring = s.ring := by
  unfold dropOther
  split <;> try split
  all_goals rfl
@[simp] theorem dropOther_pass (address : Byte) (s : State) : (dropOther address s).pass = s.pass := by
  unfold dropOther
  split <;> try split
  all_goals rfl
@[simp] theorem dropOther_channels (address : Byte) (s : State) : (dropOther address s).channels = s.channels := by
  unfold dropOther
  split <;> try split
  all_goals rfl
@[simp] theorem dropOther_nq (address : Byte) (s : State) : (dropOther address s).nq = s.nq := by
  unfold dropOther
  split <;> try split
  all_goals rfl
@[simp] theorem dropOther_tm (address : Byte) (s : State) : (dropOther address s).tm = s.tm := by
  unfold dropOther
  split <;> try split
  all_goals rfl
@[simp] theorem dropOther_mc (address : Byte) (s : State) : (dropOther address s).mc = s.mc := by
  unfold dropOther
  split <;> try split
  all_goals rfl
@[simp] theorem dropOther_params (address : Byte) (s : State) : (dropOther address s).params = s.params := by
  unfold dropOther
  split <;> try split
  all_goals rfl

end Sys2Proof.Machine
end

