-- ==== Sys2Proof/Laws/Ops.lean ====
section
/-! SUPPORT. What the shared operations do: tables, phases, counts, channels, records, notices, lists of numbers. -/

namespace Sys2Proof.Machine

/-! ### Tables -/

@[simp] theorem rowAt_setRow_self {α : Type} (t : Table α) (k : Nat) (v : α) : rowAt (setRow t k v) k = some v := by
  induction t with
  | nil => simp [setRow, rowAt]
  | cons p rest ih =>
    obtain ⟨j, w⟩ := p
    unfold setRow
    split
    · rename_i h
      simp [rowAt, Nat.ne_of_lt h, ih]
    · split
      · simp [rowAt]
      · simp [rowAt]

theorem rowAt_setRow_ne {α : Type} (t : Table α) {k m : Nat} (v : α) (h : m ≠ k) :
    rowAt (setRow t k v) m = rowAt t m := by
  induction t with
  | nil => simp [setRow, rowAt, h.symm]
  | cons p rest ih =>
    obtain ⟨j, w⟩ := p
    unfold setRow
    split
    · simp [rowAt, ih]
    · split
      · rename_i hjk
        subst hjk
        simp [rowAt, h.symm]
      · simp [rowAt, h.symm]

/-- A written table reads the new value at its number and the old one elsewhere. -/
theorem rowAt_setRow {α : Type} (t : Table α) (k m : Nat) (v : α) :
    rowAt (setRow t k v) m = if m = k then some v else rowAt t m := by
  split
  · subst m
    simp
  · rename_i h
    exact rowAt_setRow_ne t v h

/-- A table with a number dropped reads nothing there, and as before elsewhere. -/
theorem rowAt_dropRow {α : Type} (t : Table α) (k m : Nat) :
    rowAt (dropRow t k) m = if m = k then none else rowAt t m := by
  induction t with
  | nil => simp [dropRow, rowAt]
  | cons p rest ih =>
    obtain ⟨j, w⟩ := p
    unfold dropRow at ih ⊢
    rw [List.filter_cons]
    by_cases hj : j = k
    · subst hj
      simp only [bne_self_eq_false, Bool.false_eq_true, if_false, ih, rowAt]
      by_cases hm : m = j
      · simp [hm]
      · simp [hm, Ne.symm hm]
    · by_cases hm : j = m
      · subst hm
        simp [rowAt, hj]
      · simp [rowAt, hj, hm, ih]

theorem rowAt_mem {α : Type} {t : Table α} {k : Nat} {v : α} (h : rowAt t k = some v) : (k, v) ∈ t := by
  induction t with
  | nil => simp [rowAt] at h
  | cons p rest ih =>
    obtain ⟨j, w⟩ := p
    unfold rowAt at h
    split at h
    · rename_i hj
      simp_all
    · exact List.mem_cons_of_mem _ (ih h)

theorem tableWf_cons {α : Type} (p : Nat × α) (t : Table α) :
    tableWf (p :: t) = true ↔ (∀ q, t.head? = some q → p.1 < q.1) ∧ tableWf t = true := by
  cases t <;> simp [tableWf]

theorem head_setRow {α : Type} (t : Table α) (k : Nat) (v : α) (q : Nat × α) (h : (setRow t k v).head? = some q) :
    q.1 = k ∨ ∃ p, t.head? = some p ∧ q.1 = p.1 := by
  cases t with
  | nil =>
    cases h
    exact .inl rfl
  | cons p rest =>
    unfold setRow at h
    split at h
    · cases h
      exact .inr ⟨_, rfl, rfl⟩
    · split at h
      · cases h
        exact .inl rfl
      · cases h
        exact .inl rfl

/-- A write keeps the numbers rising. -/
theorem tableWf_setRow {α : Type} (t : Table α) (k : Nat) (v : α) (h : tableWf t = true) :
    tableWf (setRow t k v) = true := by
  induction t with
  | nil => rfl
  | cons p rest ih =>
    obtain ⟨j, w⟩ := p
    rw [tableWf_cons] at h
    unfold setRow
    split
    · rename_i hjk
      rw [tableWf_cons]
      refine ⟨fun q hq => ?_, ih h.2⟩
      rcases head_setRow rest k v q hq with hk | ⟨p', hp', he⟩
      · simpa [hk] using hjk
      · rw [he]
        exact h.1 p' hp'
    · split
      · rename_i hjk
        subst hjk
        rw [tableWf_cons]
        exact h
      · rename_i h1 h2
        rw [tableWf_cons]
        refine ⟨fun q hq => ?_, by rw [tableWf_cons]; exact h⟩
        simp only [List.head?_cons, Option.some.injEq] at hq
        subst hq
        simp only
        omega

theorem tableWf_pairwise {α : Type} (t : Table α) : tableWf t = true ↔ t.Pairwise (fun p q => p.1 < q.1) := by
  induction t with
  | nil => simp [tableWf]
  | cons p rest ih =>
    rw [tableWf_cons, List.pairwise_cons, ih]
    constructor
    · rintro ⟨h1, h2⟩
      refine ⟨fun q hq => ?_, h2⟩
      cases rest with
      | nil => simp at hq
      | cons r rest' =>
        have hr := h1 r rfl
        rcases List.mem_cons.mp hq with rfl | hq'
        · exact hr
        · exact Nat.lt_trans hr ((List.pairwise_cons.mp h2).1 q hq')
    · rintro ⟨h1, h2⟩
      refine ⟨fun q hq => ?_, h2⟩
      cases rest with
      | nil => simp at hq
      | cons r rest' =>
        simp only [List.head?_cons, Option.some.injEq] at hq
        subst hq
        exact h1 _ (by simp)

theorem tableWf_filter {α : Type} (t : Table α) (f : Nat × α → Bool) (h : tableWf t = true) :
    tableWf (t.filter f) = true := by
  rw [tableWf_pairwise] at *
  exact h.filter f

/-- Dropping a number keeps the numbers rising. -/
theorem tableWf_dropRow {α : Type} (t : Table α) (k : Nat) (h : tableWf t = true) : tableWf (dropRow t k) = true :=
  tableWf_filter t _ h

/-! ### Lists of numbers -/

@[simp] theorem forEach_nil (f : Nat → State → State) (s : State) : forEach [] f s = s := rfl

@[simp] theorem forEach_cons (n : Nat) (ns : List Nat) (f : Nat → State → State) (s : State) :
    forEach (n :: ns) f s = forEach ns f (f n s) := rfl

/-- What every turn keeps, the whole list keeps. -/
theorem forEach_keeps {ns : List Nat} {f : Nat → State → State} {P : State → Prop}
    (h : ∀ n ∈ ns, ∀ s, P s → P (f n s)) {s : State} (hs : P s) : P (forEach ns f s) := by
  induction ns generalizing s with
  | nil => exact hs
  | cons n ns ih =>
    exact ih (fun m hm => h m (List.mem_cons_of_mem _ hm)) (h n (by simp) s hs)

theorem forEach_id {ns : List Nat} {f : Nat → State → State} {s : State} (h : ∀ n ∈ ns, f n s = s) :
    forEach ns f s = s := by
  induction ns with
  | nil => rfl
  | cons n ns ih =>
    rw [forEach_cons, h n (by simp)]
    exact ih fun m hm => h m (List.mem_cons_of_mem _ hm)

@[simp] theorem mem_allSlots {n : Nat} : n ∈ allSlots ↔ n < 48 := List.mem_range

@[simp] theorem mem_allSegments {n : Nat} : n ∈ allSegments ↔ n < 40 := List.mem_range

@[simp] theorem mem_allInterrupters {n : Nat} : n ∈ allInterrupters ↔ n < 16 := List.mem_range

/-! ### Phases, counts, conditions, channels -/

@[simp] theorem perPhase_ofPhases {α : Type} (f : Phase → α) (p : Phase) : perPhase (ofPhases f) p = f p := by
  cases p <;> rfl

@[simp] theorem perPhase_mapPhases {α β : Type} (f : Phase → α → β) (x : PerPhase α) (p : Phase) :
    perPhase (mapPhases f x) p = f p (perPhase x p) := by
  cases p <;> rfl

@[simp] theorem get_countsOf (f : CountName → Nat) (c : CountName) : (countsOf f).get c = f c := by
  cases c <;> rfl

@[simp] theorem countsOf_get (c : Counts) : countsOf c.get = c := rfl

@[simp] theorem get_condsOf (f : CondName → Bool) (c : CondName) : (condsOf f).get c = f c := by
  cases c <;> rfl

@[simp] theorem condsOf_get (c : Conds) : condsOf c.get = c := rfl

@[simp] theorem get_channelsOf (f : Fin 4 → Channel) (k : Fin 4) : (channelsOf f).get k = f k := by
  match k with
  | 0 => rfl
  | 1 => rfl
  | 2 => rfl
  | 3 => rfl

@[simp] theorem channelsOf_get (c : Channels) : channelsOf c.get = c := rfl

/-- A bumped count rises by 1 up to 65535, the others stay. -/
theorem bump_get (c d : CountName) (s : State) :
    (bump c s).cb.counts.get d = if d = c then min (s.cb.counts.get d + 1) 65535 else s.cb.counts.get d := by
  simp [bump, satSucc]

/-- A latched condition is set, the others stay. -/
theorem latch_get (c d : CondName) (s : State) :
    (latch c s).cb.conds.get d = (d == c || s.cb.conds.get d) := by
  simp [latch]

theorem modifyChannel_get (ch k : Fin 4) (f : Channel → Channel) (s : State) :
    (modifyChannel ch f s).channels.get k = if k = ch then f (s.channels.get k) else s.channels.get k := by
  simp [modifyChannel]

/-! ### Records -/

theorem sensorAt_writeSensor (n m : Nat) (r : SensorRec) (s : State) :
    sensorAt (writeSensor n r s) m = if m = n then some { r with err := 0 } else sensorAt s m := by
  unfold sensorAt writeSensor
  rw [rowAt_setRow]
  by_cases h : m = n <;> simp [h]

theorem segmentAt_writeSegment (n m : Nat) (r : SegRec) (s : State) :
    segmentAt (writeSegment n r s) m = if m = n then some { r with err := 0 } else segmentAt s m := by
  unfold segmentAt writeSegment
  rw [rowAt_setRow]
  by_cases h : m = n <;> simp [h]

theorem interrupterAt_writeInterrupter (n m : Nat) (r : IntRec) (s : State) :
    interrupterAt (writeInterrupter n r s) m = if m = n then some { r with err := 0 } else interrupterAt s m := by
  unfold interrupterAt writeInterrupter
  rw [rowAt_setRow]
  by_cases h : m = n <;> simp [h]

/-- A rewrite touches the one record, if the place holds one. -/
theorem sensorAt_modifySensor (n m : Nat) (f : SensorRec → SensorRec) (s : State) :
    sensorAt (modifySensor n f s) m =
      if m = n then (sensorAt s n).map (fun r => { f r with err := 0 }) else sensorAt s m := by
  unfold modifySensor
  split
  · rename_i r h
    rw [sensorAt_writeSensor, h]
    rfl
  · rename_i h
    split
    · rename_i hm
      rw [hm, h]
      rfl
    · rfl

theorem segmentAt_modifySegment (n m : Nat) (f : SegRec → SegRec) (s : State) :
    segmentAt (modifySegment n f s) m =
      if m = n then (segmentAt s n).map (fun r => { f r with err := 0 }) else segmentAt s m := by
  unfold modifySegment
  split
  · rename_i r h
    rw [segmentAt_writeSegment, h]
    rfl
  · rename_i h
    split
    · rename_i hm
      rw [hm, h]
      rfl
    · rfl

theorem interrupterAt_modifyInterrupter (n m : Nat) (f : IntRec → IntRec) (s : State) :
    interrupterAt (modifyInterrupter n f s) m =
      if m = n then (interrupterAt s n).map (fun r => { f r with err := 0 }) else interrupterAt s m := by
  unfold modifyInterrupter
  split
  · rename_i r h
    rw [interrupterAt_writeInterrupter, h]
    rfl
  · rename_i h
    split
    · rename_i hm
      rw [hm, h]
      rfl
    · rfl

theorem sensorAt_congr {s t : State} (h : t.sensors = s.sensors) (n : Nat) : sensorAt t n = sensorAt s n := by
  unfold sensorAt
  rw [h]

theorem segmentAt_congr {s t : State} (h : t.segments = s.segments) (n : Nat) : segmentAt t n = segmentAt s n := by
  unfold segmentAt
  rw [h]

theorem interrupterAt_congr {s t : State} (h : t.interrupters = s.interrupters) (n : Nat) :
    interrupterAt t n = interrupterAt s n := by
  unfold interrupterAt
  rw [h]

/-! ### Notices -/

theorem length_removeFirst (test : Notice → Bool) (q : List Notice) (h : q.any test = true) :
    (removeFirst test q).length + 1 = q.length := by
  induction q with
  | nil => simp at h
  | cons n rest ih =>
    unfold removeFirst
    split
    · simp
    · rename_i hn
      simp only [List.any_cons, hn, Bool.false_or] at h
      simp [ih h]

/-- Room is made by taking out the first notice of one class (R147). -/
theorem makeRoom_removes {c : NoticeClass} {q kept : List Notice} (h : makeRoom c q = some kept) :
    ∃ test, q.any test = true ∧ removeFirst test q = kept := by
  rcases hm : q.any isMaint <;> rcases hs : q.any isState <;> cases c <;>
    simp only [makeRoom, hm, hs, if_true, Bool.false_eq_true, if_false, reduceCtorEq, Option.some.injEq] at h
  all_goals first
    | exact ⟨isMaint, hm, h⟩
    | exact ⟨isState, hs, h⟩

theorem length_makeRoom {c : NoticeClass} {q kept : List Notice} (h : makeRoom c q = some kept) :
    kept.length + 1 = q.length := by
  obtain ⟨test, ht, rfl⟩ := makeRoom_removes h
  exact length_removeFirst test q ht

/-- What becomes of a created notice: it is appended; or it is appended, one notice having left; or it is lost. -/
theorem enqueue_cases (n : Notice) (s : State) :
    (s.nq.queue.length < 32 ∧ enqueue n s = { s with nq := { s.nq with queue := s.nq.queue ++ [n] } }) ∨
    (∃ kept, kept.length + 1 = s.nq.queue.length ∧
      enqueue n s = noticeLost { s with nq := { s.nq with queue := kept ++ [n] } }) ∨
    enqueue n s = noticeLost s := by
  unfold enqueue
  split
  · exact .inl ⟨‹_›, rfl⟩
  · split
    · rename_i kept h
      exact .inr (.inl ⟨kept, length_makeRoom h, rfl⟩)
    · exact .inr (.inr rfl)

/-- The queue never outgrows 32 (R150). -/
theorem enqueue_length (n : Notice) (s : State) (h : s.nq.queue.length ≤ 32) :
    (enqueue n s).nq.queue.length ≤ 32 := by
  rcases enqueue_cases n s with ⟨hl, he⟩ | ⟨kept, hk, he⟩ | he
  · rw [he]
    simp
    omega
  · rw [he]
    simp [noticeLost]
    omega
  · rw [he]
    simpa [noticeLost] using h

@[simp] theorem enqueue_seq (n : Notice) (s : State) : (enqueue n s).nq.seq = s.nq.seq := by
  rcases enqueue_cases n s with ⟨_, he⟩ | ⟨_, _, he⟩ | he <;> rw [he] <;> rfl

@[simp] theorem enqueue_tail (n : Notice) (s : State) : (enqueue n s).nq.tail = s.nq.tail := by
  rcases enqueue_cases n s with ⟨_, he⟩ | ⟨_, _, he⟩ | he <;> rw [he] <;> rfl

@[simp] theorem raiseAt_seq (f : FrameNo) (b : NoticeBody) (s : State) : (raiseAt f b s).nq.seq = s.nq.seq + 1 := by
  simp [raiseAt]

@[simp] theorem raiseAt_tail (f : FrameNo) (b : NoticeBody) (s : State) : (raiseAt f b s).nq.tail = s.nq.tail := by
  simp [raiseAt]

/-- With a free place a notice takes the sequence counter's value and stands last in the queue (R146, R147). -/
theorem raiseAt_free (f : FrameNo) (b : NoticeBody) (s : State) (h : s.nq.queue.length < 32) :
    raiseAt f b s =
      { s with nq := { s.nq with queue := s.nq.queue ++ [⟨s.nq.seq, f, b⟩], seq := s.nq.seq + 1 } } := by
  simp [raiseAt, enqueue, h]

/-- The urgency source reads the mode, the segments and the interrupters alone. -/
theorem urgencySource_congr {s t : State} (h0 : t.mc.mode = s.mc.mode) (h1 : t.segments = s.segments)
    (h2 : t.interrupters = s.interrupters) : urgencySource t = urgencySource s := by
  unfold urgencySource segmentUrgent isTripping segmentAt interrupterAt
  rw [h0, h1, h2]

/-- In START no urgency source holds (R151). -/
theorem urgencySource_start {s : State} (h : s.mc.mode = .start) : urgencySource s = false := by
  simp [urgencySource, h]

/-- With the source unchanged the tail count stays (R148). -/
theorem settleUrgency_same {s t : State} (h : urgencySource t = urgencySource s) :
    settleUrgency (urgencySource s) t = t := by
  unfold settleUrgency
  rw [h]
  cases urgencySource s <;> simp

end Sys2Proof.Machine
end

