-- ==== Sys2Proof/Laws/TableMemory.lean ====
section
/-! SUPPORT. Reads of records that hold no inverted bit, and rewrites of a whole table of them. -/

namespace Sys2Proof.Machine

@[simp] theorem invertedBits_zero : invertedBits 0#32 = 0 := by decide

@[simp] theorem readResult_zero : readResult 0#32 = .clean := by simp [readResult]

/-- A record with one inverted bit is read as a single error (R162). -/
theorem readResult_one {e : BitVec 32} (h : invertedBits e = 1) : readResult e = .single := by simp [readResult, h]

/-- A record with two inverted bits is read as a double error (R162). -/
theorem readResult_two {e : BitVec 32} (h : invertedBits e = 2) : readResult e = .double := by simp [readResult, h]

/-! ### A clean table -/

theorem sensorAt_row {s : State} {n : Nat} {r : SensorRec} :
    sensorAt s n = some r ↔ rowAt s.sensors n = some (.live r) := by
  unfold sensorAt
  split <;> simp_all

theorem segmentAt_row {s : State} {n : Nat} {r : SegRec} :
    segmentAt s n = some r ↔ rowAt s.segments n = some (.live r) := by
  unfold segmentAt
  split <;> simp_all

theorem interrupterAt_row {s : State} {n : Nat} {r : IntRec} :
    interrupterAt s n = some r ↔ rowAt s.interrupters n = some (.live r) := by
  unfold interrupterAt
  split <;> simp_all

theorem clean_sensor {s : State} (h : clean s = true) {n : Nat} {r : SensorRec} (hr : sensorAt s n = some r) :
    r.err = 0 := by
  simp only [clean, Bool.and_eq_true, List.all_eq_true] at h
  simpa using h.1.1 _ (rowAt_mem (sensorAt_row.mp hr))

theorem clean_segment {s : State} (h : clean s = true) {n : Nat} {r : SegRec} (hr : segmentAt s n = some r) :
    r.err = 0 := by
  simp only [clean, Bool.and_eq_true, List.all_eq_true] at h
  simpa using h.1.2 _ (rowAt_mem (segmentAt_row.mp hr))

theorem clean_interrupter {s : State} (h : clean s = true) {n : Nat} {r : IntRec} (hr : interrupterAt s n = some r) :
    r.err = 0 := by
  simp only [clean, Bool.and_eq_true, List.all_eq_true] at h
  simpa using h.2 _ (rowAt_mem (interrupterAt_row.mp hr))

/-! ### Reads that find no error -/

theorem readSensor_noError {s : State} {n : Nat} (h : ∀ r, sensorAt s n = some r → r.err = 0) : readSensor n s = s := by
  unfold readSensor
  split
  · rfl
  · rename_i r hr
    have := h r hr
    simp [this]

theorem readSegment_noError {s : State} {n : Nat} (h : ∀ r, segmentAt s n = some r → r.err = 0) :
    readSegment n s = s := by
  unfold readSegment
  split
  · rfl
  · rename_i r hr
    have := h r hr
    simp [this]

theorem readInterrupterWith_noError {s : State} {n : Nat} (e : Escalation)
    (h : ∀ r, interrupterAt s n = some r → r.err = 0) : readInterrupterWith e n s = s := by
  unfold readInterrupterWith
  split
  · rfl
  · rename_i r hr
    have := h r hr
    simp [this]

theorem readInterrupter_noError {s : State} {n : Nat} (h : ∀ r, interrupterAt s n = some r → r.err = 0) :
    readInterrupter n s = s :=
  readInterrupterWith_noError _ h

@[simp] theorem readSensor_clean {s : State} (h : clean s = true) (n : Nat) : readSensor n s = s :=
  readSensor_noError fun _ hr => clean_sensor h hr

@[simp] theorem readSegment_clean {s : State} (h : clean s = true) (n : Nat) : readSegment n s = s :=
  readSegment_noError fun _ hr => clean_segment h hr

@[simp] theorem readInterrupterWith_clean {s : State} (h : clean s = true) (e : Escalation) (n : Nat) :
    readInterrupterWith e n s = s :=
  readInterrupterWith_noError e fun _ hr => clean_interrupter h hr

@[simp] theorem readInterrupter_clean {s : State} (h : clean s = true) (n : Nat) : readInterrupter n s = s :=
  readInterrupterWith_clean h _ n

@[simp] theorem readSensors_clean {s : State} (h : clean s = true) (ns : List Nat) : readSensors ns s = s :=
  forEach_id fun n _ => readSensor_clean h n

@[simp] theorem readSegments_clean {s : State} (h : clean s = true) : readSegments s = s :=
  forEach_id fun n _ => readSegment_clean h n

@[simp] theorem readInterrupters_clean {s : State} (h : clean s = true) : readInterrupters s = s :=
  forEach_id fun n _ => readInterrupter_clean h n

theorem clean_congr {s t : State} (h1 : t.sensors = s.sensors) (h2 : t.segments = s.segments)
    (h3 : t.interrupters = s.interrupters) : clean t = clean s := by
  unfold clean
  rw [h1, h2, h3]

/-! ### Rewrites of a whole table -/

/-- A place of the Sensor Directory with its record changed and rewritten. -/
def rewrittenSensor (f : SensorRec → SensorRec) : SensorPlace → SensorPlace
  | .live r => .live { f r with err := 0 }
  | .quarantined => .quarantined

def rewrittenSegment (f : SegRec → SegRec) : SegPlace → SegPlace
  | .live r => .live { f r with err := 0 }
  | .quarantined => .quarantined

def rewrittenInterrupter (f : IntRec → IntRec) : IntPlace → IntPlace
  | .live r => .live { f r with err := 0 }
  | .tableError => .tableError

theorem row_modifySensor (n m : Nat) (f : SensorRec → SensorRec) (s : State) :
    rowAt (modifySensor n f s).sensors m =
      if m = n then (rowAt s.sensors n).map (rewrittenSensor f) else rowAt s.sensors m := by
  unfold modifySensor
  split
  · rename_i r h
    rw [sensorAt_row] at h
    simp only [writeSensor, rowAt_setRow, h]
    rfl
  · rename_i h
    split
    · rename_i hm
      subst hm
      unfold sensorAt at h
      match hr : rowAt s.sensors m with
      | none => rfl
      | some .quarantined => rfl
      | some (.live r) => simp [hr] at h
    · rfl

theorem row_modifySegment (n m : Nat) (f : SegRec → SegRec) (s : State) :
    rowAt (modifySegment n f s).segments m =
      if m = n then (rowAt s.segments n).map (rewrittenSegment f) else rowAt s.segments m := by
  unfold modifySegment
  split
  · rename_i r h
    rw [segmentAt_row] at h
    simp only [writeSegment, rowAt_setRow, h]
    rfl
  · rename_i h
    split
    · rename_i hm
      subst hm
      unfold segmentAt at h
      match hr : rowAt s.segments m with
      | none => rfl
      | some .quarantined => rfl
      | some (.live r) => simp [hr] at h
    · rfl

theorem row_modifyInterrupter (n m : Nat) (f : IntRec → IntRec) (s : State) :
    rowAt (modifyInterrupter n f s).interrupters m =
      if m = n then (rowAt s.interrupters n).map (rewrittenInterrupter f) else rowAt s.interrupters m := by
  unfold modifyInterrupter
  split
  · rename_i r h
    rw [interrupterAt_row] at h
    simp only [writeInterrupter, rowAt_setRow, h]
    rfl
  · rename_i h
    split
    · rename_i hm
      subst hm
      unfold interrupterAt at h
      match hr : rowAt s.interrupters m with
      | none => rfl
      | some .tableError => rfl
      | some (.live r) => simp [hr] at h
    · rfl

theorem modifySensor_eq (n : Nat) (f : SensorRec → SensorRec) (s : State) :
    modifySensor n f s = { s with sensors := (modifySensor n f s).sensors } := by
  unfold modifySensor
  split <;> rfl

theorem modifySegment_eq (n : Nat) (f : SegRec → SegRec) (s : State) :
    modifySegment n f s = { s with segments := (modifySegment n f s).segments } := by
  unfold modifySegment
  split <;> rfl

theorem modifyInterrupter_eq (n : Nat) (f : IntRec → IntRec) (s : State) :
    modifyInterrupter n f s = { s with interrupters := (modifyInterrupter n f s).interrupters } := by
  unfold modifyInterrupter
  split <;> rfl

/-- Rewriting some slots, each once, with no error in them: those places are rewritten, all else stays. -/
theorem forEach_modifySensor {f : SensorRec → SensorRec} {ns : List Nat} (hd : ns.Nodup) {s : State}
    (h : ∀ n ∈ ns, ∀ r, sensorAt s n = some r → r.err = 0) :
    ∃ tab, forEach ns (fun d t => modifySensor d f (readSensor d t)) s = { s with sensors := tab } ∧
      ∀ m, rowAt tab m = if m ∈ ns then (rowAt s.sensors m).map (rewrittenSensor f) else rowAt s.sensors m := by
  induction ns generalizing s with
  | nil => exact ⟨s.sensors, rfl, by simp⟩
  | cons n ns ih =>
    obtain ⟨hn, hd⟩ := List.nodup_cons.mp hd
    rw [forEach_cons, readSensor_noError (h n (by simp))]
    have hrow := fun m => row_modifySensor n m f s
    obtain ⟨tab, htab, hall⟩ := ih hd (s := modifySensor n f s) fun m hm r hr => by
      refine h m (List.mem_cons_of_mem _ hm) r ?_
      rw [sensorAt_modifySensor, if_neg fun e : m = n => hn (e ▸ hm)] at hr
      exact hr
    refine ⟨tab, ?_, fun m => ?_⟩
    · rw [htab, modifySensor_eq]
    · rw [hall m, hrow m]
      by_cases hm : m = n
      · subst hm
        simp [hn]
      · simp [hm]

theorem forEach_modifyInterrupter {f : IntRec → IntRec} {ns : List Nat} (hd : ns.Nodup) {s : State}
    (h : ∀ n ∈ ns, ∀ r, interrupterAt s n = some r → r.err = 0) :
    ∃ tab, forEach ns (fun d t => modifyInterrupter d f (readInterrupter d t)) s = { s with interrupters := tab } ∧
      ∀ m, rowAt tab m =
        if m ∈ ns then (rowAt s.interrupters m).map (rewrittenInterrupter f) else rowAt s.interrupters m := by
  induction ns generalizing s with
  | nil => exact ⟨s.interrupters, rfl, by simp⟩
  | cons n ns ih =>
    obtain ⟨hn, hd⟩ := List.nodup_cons.mp hd
    rw [forEach_cons, readInterrupter_noError (h n (by simp))]
    have hrow := fun m => row_modifyInterrupter n m f s
    obtain ⟨tab, htab, hall⟩ := ih hd (s := modifyInterrupter n f s) fun m hm r hr => by
      refine h m (List.mem_cons_of_mem _ hm) r ?_
      rw [interrupterAt_modifyInterrupter, if_neg fun e : m = n => hn (e ▸ hm)] at hr
      exact hr
    refine ⟨tab, ?_, fun m => ?_⟩
    · rw [htab, modifyInterrupter_eq]
    · rw [hall m, hrow m]
      by_cases hm : m = n
      · subst hm
        simp [hn]
      · simp [hm]

/-- As `forEach_modifySensor`, for segments; the change may read what the rewrites leave alone. -/
theorem forEach_modifySegment {g : State → SegRec → SegRec} {f : SegRec → SegRec} {ns : List Nat} (hd : ns.Nodup)
    {s : State} (hg : ∀ tab, g { s with segments := tab } = f)
    (h : ∀ n ∈ ns, ∀ r, segmentAt s n = some r → r.err = 0) :
    ∃ tab, forEach ns (fun n t => let u := readSegment n t; modifySegment n (g u) u) s = { s with segments := tab } ∧
      ∀ m, rowAt tab m = if m ∈ ns then (rowAt s.segments m).map (rewrittenSegment f) else rowAt s.segments m := by
  induction ns generalizing s with
  | nil => exact ⟨s.segments, rfl, by simp⟩
  | cons n ns ih =>
    obtain ⟨hn, hd⟩ := List.nodup_cons.mp hd
    have hgs : g s = f := hg s.segments
    rw [forEach_cons]
    simp only [readSegment_noError (h n (by simp)), hgs]
    have hrow := fun m => row_modifySegment n m f s
    obtain ⟨tab, htab, hall⟩ := ih hd (s := modifySegment n f s)
      (fun tab => by rw [modifySegment_eq]; exact hg tab) fun m hm r hr => by
        refine h m (List.mem_cons_of_mem _ hm) r ?_
        rw [segmentAt_modifySegment, if_neg fun e : m = n => hn (e ▸ hm)] at hr
        exact hr
    refine ⟨tab, ?_, fun m => ?_⟩
    · rw [htab, modifySegment_eq]
    · rw [hall m, hrow m]
      by_cases hm : m = n
      · subst hm
        simp [hn]
      · simp [hm]

theorem nodup_allSlots : allSlots.Nodup := List.nodup_range

theorem nodup_allSegments : allSegments.Nodup := List.nodup_range

theorem nodup_allInterrupters : allInterrupters.Nodup := List.nodup_range

end Sys2Proof.Machine
end

