-- ==== Sys2Proof/Laws/HostLink.lean ====
section
/-! SUPPORT. Host Link: a request that arrives with nothing held is taken at once, and an event with nothing held is the
event alone. -/

namespace Sys2Proof.Machine

theorem ready_iff {s : State} : ready s = true ↔
    s.hl.requests = [] ∧ s.hl.replies.length < 2 ∧ s.hl.replies.any (·.resetAfter) = false ∧ lineIdle s = true ∧
      stepFourHolds s = false := by
  simp [ready, and_assoc]

theorem lineIdle_iff {s : State} : lineIdle s = true ↔ lineRead s = true ∧ isReceiving s.hl.rx = false := by
  simp [lineIdle]

/-- With no message in progress none is dropped. -/
theorem dropOther_idle {s : State} (h : isReceiving s.hl.rx = false) (address : Byte) : dropOther address s = s := by
  unfold dropOther
  split
  · rename_i hrx
    rw [hrx] at h
    cases h
  · rfl
  · rfl

/-- What becomes of a message in progress when another message arrives: it is the one that arrives, or LINK_ABORTED rises (R167). -/
theorem dropOther_cases (address : Byte) (s : State) :
    dropOther address s = s ∨ ∃ a, s.hl.rx = .receiving a ∧ a ≠ address ∧ dropOther address s = bump .linkAborted s := by
  unfold dropOther
  split
  · split
    · exact .inl rfl
    · exact .inr ⟨_, ‹_›, ‹_›, rfl⟩
  · exact .inl rfl
  · exact .inl rfl

@[simp] theorem dropOther_hl (address : Byte) (s : State) : (dropOther address s).hl = s.hl := by
  rcases dropOther_cases address s with h | ⟨_, _, _, h⟩
  · rw [h]
  · rw [h]
    rfl

theorem takesNow_iff {r : Request} {s : State} :
    takesNow r s = true ↔ ready s = true ∧ (isDelayed r && s.pass.isSome) = false := by
  rw [takesNow, Bool.and_eq_true, Bool.not_eq_true']

/-- The state in which an arrived request is executing. -/
def arrived (r : Request) (s : State) : State :=
  { s with hl := { s.hl with rx := .waitAddress, requests := [r] } }

theorem requestArrives_ready {s : State} (h : ready s = true) (r : Request) : requestArrives r s = arrived r s := by
  obtain ⟨h1, -, -, h4, -⟩ := ready_iff.mp h
  obtain ⟨hl, hr⟩ := lineIdle_iff.mp h4
  simp [requestArrives, hl, dropOther_idle hr, buffer, setRx, h1, arrived]

/-- With no request held, nothing is taken. -/
@[simp] theorem serve_none {s : State} (h : s.hl.requests = []) : serve s = s := by simp [serve, h, serveUpTo]

/-- An event that leaves no request held is the event alone. -/
theorem event_none {f : State → State} {s : State} (h : (f s).hl.requests = []) : event f s = .next (f s) := by
  simp [event, h]

/-- A request that arrives ready is taken at once. -/
theorem event_request {s : State} (h : ready s = true) {r : Request} (hd : (isDelayed r && s.pass.isSome) = false) :
    event (requestArrives r) s = .next (takeRequest r (arrived r s)) := by
  obtain ⟨-, h2, h3, -, h5⟩ := ready_iff.mp h
  have ht : takeable r (arrived r s) = true := by
    have h5' : stepFourHolds (arrived r s) = false := h5
    have h3' : (arrived r s).hl.replies.any (·.resetAfter) = false := h3
    have h2' : (arrived r s).hl.replies.length < 2 := h2
    have hd' : (isDelayed r && (arrived r s).pass.isSome) = false := hd
    simp only [takeable, h5', h3', hd', decide_eq_true h2']
    rfl
  simp only [event, requestArrives_ready h]
  have h1 : (arrived r s).hl.requests = [r] := rfl
  simp [serve, h1, serveUpTo, ht]

theorem perform_act {r : Request} {s : State} (h1 : takenIn (requestKind r) s.mc.mode = true)
    (h2 : fieldFault r = none) : perform r s = act r s := by
  simp [perform, h1, h2]

theorem takenIn_service {k : BitVec 6} {s : State} (h : inService s = true)
    (hk : [0, 1, 2, 5, 6, 25, 29, 30, 31].contains k.toNat = false) : takenIn k s.mc.mode = true := by
  simp only [List.contains_eq_mem, List.mem_cons, List.not_mem_nil, or_false, not_or, decide_eq_false_iff_not] at hk
  obtain ⟨h0, h1, h2, h5, h6, h25, h29, h30, h31⟩ := hk
  simp only [inService] at h
  simp [takenIn, h0, h1, h2, h5, h6, h25, h29, h30, h31]
  simpa using h

/-- The state on which the owner of an arrived request acts. -/
def acting (r : Request) (s : State) : State := spendBadCheck (arrived r s)

theorem acting_eq (r : Request) (s : State) : acting r s =
    { s with hl := { s.hl with rx := .waitAddress, requests := [r], badCheckNext := false } } := rfl

theorem settleUrgency_withHl (u : Bool) (t : State) (x : HostLink) :
    settleUrgency u { t with hl := x } = { settleUrgency u t with hl := x } := by
  have hu : urgencySource { t with hl := x } = urgencySource t := rfl
  unfold settleUrgency
  rw [hu]
  split
  · rfl
  · split <;> rfl

theorem linkStatus_withHl {t : State} {x : HostLink} (hx : x.overrun = t.hl.overrun) :
    linkStatus { t with hl := x } = linkStatus t := by
  have ha : attn { t with hl := x } = attn t := rfl
  have hb : effectiveInhibit { t with hl := x } = effectiveInhibit t := rfl
  simp only [linkStatus, ha, hb, hx]

/-- A request whose action, taken on the acting state, leaves what the state t holds beside Host Link: what the step then
answers. `t` has Host Link as it was before the request. -/
theorem takeRequest_answered {s t : State} (h : ready s = true) {r : Request} {a : Answer}
    (hp : perform r (acting r s) = ({ t with hl := (acting r s).hl }, a)) (hf : a.follow ≠ .restart)
    (hh : t.hl = s.hl) :
    takeRequest r (arrived r s) = answered (requestKind r) a (settleUrgency (urgencySource s) t) := by
  obtain ⟨hr, -⟩ := ready_iff.mp h
  have hp' : perform r (spendBadCheck (arrived r s)) = ({ t with hl := (acting r s).hl }, a) := hp
  have hu : urgencySource (arrived r s) = urgencySource s := rfl
  have hl : linkStatus { settleUrgency (urgencySource s) t with hl := (acting r s).hl }
      = linkStatus (settleUrgency (urgencySource s) t) := by
    refine linkStatus_withHl ?_
    rw [settleUrgency_hl, hh]
    rfl
  have hb : (arrived r s).hl.badCheckNext = (settleUrgency (urgencySource s) t).hl.badCheckNext := by
    rw [settleUrgency_hl, hh]
    rfl
  simp only [takeRequest, hp', if_neg hf, hu, settleUrgency_withHl, handOver, answered, formReply, hl, hb]
  rw [settleUrgency_hl, hh]
  simp [acting, arrived, spendBadCheck, hr]

/-- As `takeRequest_answered`, where the action leaves the urgency source alone. -/
theorem event_perform {s t : State} (h : ready s = true) {r : Request} {a : Answer}
    (hd : (isDelayed r && s.pass.isSome) = false)
    (hp : perform r (acting r s) = ({ t with hl := (acting r s).hl }, a)) (hf : a.follow ≠ .restart)
    (hh : t.hl = s.hl) (hu : urgencySource t = urgencySource s) :
    event (requestArrives r) s = .next (answered (requestKind r) a t) := by
  rw [event_request h hd, takeRequest_answered h hp hf hh, settleUrgency_same hu]

/-- A request taken at once, its mode and fields good, whose action leaves the urgency source alone. -/
theorem event_answered {s t : State} (h : ready s = true) {r : Request} {a : Answer}
    (hd : (isDelayed r && s.pass.isSome) = false) (h1 : takenIn (requestKind r) s.mc.mode = true)
    (h2 : fieldFault r = none) (hact : act r (acting r s) = ({ t with hl := (acting r s).hl }, a))
    (hf : a.follow ≠ .restart) (hh : t.hl = s.hl) (hu : urgencySource t = urgencySource s) :
    event (requestArrives r) s = .next (answered (requestKind r) a t) := by
  refine event_perform h hd ?_ hf hh hu
  have h1' : takenIn (requestKind r) (acting r s).mc.mode = true := h1
  rw [perform_act h1' h2, hact]

/-- A request taken at once, its mode and fields good, whatever it does to the urgency source (R148). -/
theorem event_settled {s t : State} (h : ready s = true) {r : Request} {a : Answer}
    (hd : (isDelayed r && s.pass.isSome) = false) (h1 : takenIn (requestKind r) s.mc.mode = true)
    (h2 : fieldFault r = none) (hact : act r (acting r s) = ({ t with hl := (acting r s).hl }, a))
    (hf : a.follow ≠ .restart) (hh : t.hl = s.hl) :
    event (requestArrives r) s = .next (answered (requestKind r) a (settleUrgency (urgencySource s) t)) := by
  rw [event_request h hd, takeRequest_answered h _ hf hh]
  have h1' : takenIn (requestKind r) (acting r s).mc.mode = true := h1
  rw [perform_act h1' h2, hact]

/-- A request refused for its mode changes nothing but Host Link (R156). -/
theorem event_wrongMode {s : State} (h : ready s = true) {r : Request} (hd : (isDelayed r && s.pass.isSome) = false)
    (h1 : takenIn (requestKind r) s.mc.mode = false) :
    event (requestArrives r) s = .next (answered (requestKind r) (refuse .wrongMode) s) := by
  refine event_perform h hd ?_ (by simp [refuse, answer]) rfl rfl
  have h1' : takenIn (requestKind r) (acting r s).mc.mode = false := h1
  rw [perform, h1']
  rfl

/-- A request refused for a field changes nothing but Host Link (R170). -/
theorem event_badField {s : State} (h : ready s = true) {r : Request} (hd : (isDelayed r && s.pass.isSome) = false)
    (h1 : takenIn (requestKind r) s.mc.mode = true) {k : Nat} (h2 : fieldFault r = some k) :
    event (requestArrives r) s = .next (answered (requestKind r) (badField k) s) := by
  refine event_perform h hd ?_ (by simp [badField]) rfl rfl
  have h1' : takenIn (requestKind r) (acting r s).mc.mode = true := h1
  rw [perform, h1', h2]
  rfl

end Sys2Proof.Machine
end

