-- ==== Sys2Proof/Laws/PerInstr.lean ====
section
/-! SUPPORT. What every command's syntax satisfies, one lemma for each constructor of `Instr`. -/

namespace Sys2Proof.Laws.RequestRow

open Sys2Proof.Machine

/-- A request row's kind is a request's (R166), and the command is well-formed exactly when its request is. -/
def Statement (i : Instr) : Prop :=
  ∀ r, requestOf i = some r → (requestKind r).toNat < 32 ∧ instrWellFormed i = requestWellFormed r

theorem of_request {i : Instr} {r : Request} (h : requestOf i = some r) (hk : (requestKind r).toNat < 32)
    (hw : instrWellFormed i = requestWellFormed r) : Statement i := by
  intro q hq
  rw [h, Option.some.injEq] at hq
  subst hq
  exact ⟨hk, hw⟩

theorem of_event {i : Instr} (h : requestOf i = none) : Statement i := by
  intro q hq
  rw [h] at hq
  cases hq

theorem identify : Statement (.identify) := of_request rfl (by simp [requestKind]) rfl

theorem getStatus : Statement (.getStatus) := of_request rfl (by simp [requestKind]) rfl

theorem setMode (target : Byte) : Statement (.setMode target) := of_request rfl (by simp [requestKind]) rfl

theorem restart : Statement (.restart) := of_request rfl (by simp [requestKind]) rfl

theorem selfTest : Statement (.selfTest) := of_request rfl (by simp [requestKind]) rfl

theorem setTimebase (period : Half) (enable presence : Byte) (next : Half) :
    Statement (.setTimebase period enable presence next) :=
  of_request rfl (by simp [requestKind]) rfl

theorem setProfile (profile : Byte) : Statement (.setProfile profile) := of_request rfl (by simp [requestKind]) rfl

theorem setParams (pairs : List ParamPair) :
    Statement (.setParams pairs) :=
  of_request rfl (by simp [requestKind]) rfl

theorem setInhibit (value : Byte) : Statement (.setInhibit value) := of_request rfl (by simp [requestKind]) rfl

theorem defineSensor (slot : Byte) (address : FieldAddress) (phases latency : Byte) :
    Statement (.defineSensor slot address phases latency) :=
  of_request rfl (by simp [requestKind]) rfl

theorem retireSensor (slot : Byte) : Statement (.retireSensor slot) := of_request rfl (by simp [requestKind]) rfl

theorem querySensor (slot : Byte) : Statement (.querySensor slot) := of_request rfl (by simp [requestKind]) rfl

theorem defineSegment (segment phases upstream : Byte) (budget : Half) (policy : Byte) (iSurge : Half) (down : List Byte) :
    Statement (.defineSegment segment phases upstream budget policy iSurge down) :=
  of_request rfl (by simp [requestKind]) rfl

theorem removeSegment (segment : Byte) :
    Statement (.removeSegment segment) :=
  of_request rfl (by simp [requestKind]) rfl

theorem querySegment (segment : Byte) :
    Statement (.querySegment segment) :=
  of_request rfl (by simp [requestKind]) rfl

theorem releaseSegment (segment : Byte) :
    Statement (.releaseSegment segment) :=
  of_request rfl (by simp [requestKind]) rfl

theorem restoreSegment (segment : Byte) :
    Statement (.restoreSegment segment) :=
  of_request rfl (by simp [requestKind]) rfl

theorem defineInterrupter (id kind channel slot : Byte) (confirm : Half) :
    Statement (.defineInterrupter id kind channel slot confirm) :=
  of_request rfl (by simp [requestKind]) rfl

theorem removeInterrupter (id : Byte) :
    Statement (.removeInterrupter id) :=
  of_request rfl (by simp [requestKind]) rfl

theorem queryInterrupter (id : Byte) : Statement (.queryInterrupter id) := of_request rfl (by simp [requestKind]) rfl

theorem setArm (id arming : Byte) : Statement (.setArm id arming) := of_request rfl (by simp [requestKind]) rfl

theorem interrupterState (id position : Byte) :
    Statement (.interrupterState id position) :=
  of_request rfl (by simp [requestKind]) rfl

theorem ackTrip (id : Byte) : Statement (.ackTrip id) := of_request rfl (by simp [requestKind]) rfl

theorem configTripOutputs (entries : List ChannelEntry) :
    Statement (.configTripOutputs entries) :=
  of_request rfl (by simp [requestKind]) rfl

theorem report (entries : List ReportEntry) :
    Statement (.report entries) :=
  of_request rfl (by simp [requestKind]) rfl

theorem fetchNotices (number : Byte) : Statement (.fetchNotices number) := of_request rfl (by simp [requestKind]) rfl

theorem getCounts : Statement (.getCounts) := of_request rfl (by simp [requestKind]) rfl

theorem clearCounts (token : Byte) : Statement (.clearCounts token) := of_request rfl (by simp [requestKind]) rfl

theorem inject (target number size position : Byte) :
    Statement (.inject target number size position) :=
  of_request rfl (by simp [requestKind]) rfl

theorem unknownKind (kind : UnassignedKind) :
    Statement (.unknownKind kind) :=
  of_request rfl (by cases kind <;> decide) rfl

theorem hardReset (station baud : BitVec 2) : Statement (.hardReset station baud) := of_event rfl

theorem selfTestStepEnd (findings : StepFindings) : Statement (.selfTestStepEnd findings) := of_event rfl

theorem linkLoopback (messageGood : Bool) : Statement (.linkLoopback messageGood) := of_event rfl

theorem messageReceived (address : Byte) (payload : List Byte) (check : Half) :
    Statement (.messageReceived address payload check) :=
  of_event rfl

theorem linkAborted (address : Byte) : Statement (.linkAborted address) := of_event rfl

theorem linkBreak : Statement (.linkBreak) := of_event rfl

theorem linkFraming (cause : FramingCause) : Statement (.linkFraming cause) := of_event rfl

theorem gapTimeout : Statement (.gapTimeout) := of_event rfl

theorem replySendStart : Statement (.replySendStart) := of_event rfl

theorem replySent : Statement .replySent := of_event rfl

theorem syncEdge (time : Nat) : Statement (.syncEdge time) := of_event rfl

theorem edgeHistoryTimeout : Statement (.edgeHistoryTimeout) := of_event rfl

theorem internalFrameStart : Statement (.internalFrameStart) := of_event rfl

theorem edgeWindowClose : Statement (.edgeWindowClose) := of_event rfl

theorem passStage1 : Statement (.passStage1) := of_event rfl

theorem passStage2 : Statement (.passStage2) := of_event rfl

theorem passStage3 : Statement (.passStage3) := of_event rfl

theorem passStage4 : Statement (.passStage4) := of_event rfl

theorem passCompletion (requestsFirst : Fin 3) : Statement (.passCompletion requestsFirst) := of_event rfl

theorem deadlineExpiry (segment : Fin 40) : Statement (.deadlineExpiry segment) := of_event rfl

theorem confirmTimerExpiry (id : Fin 16) : Statement (.confirmTimerExpiry id) := of_event rfl

theorem pulseTimerExpiry (channel : Fin 4) : Statement (.pulseTimerExpiry channel) := of_event rfl

theorem inhibitInputChange (asserted : Bool) : Statement (.inhibitInputChange asserted) := of_event rfl

theorem addressCharacter (address : Byte) : Statement (.addressCharacter address) := of_event rfl

theorem resetNRelease : Statement (.resetNRelease) := of_event rfl

end Sys2Proof.Laws.RequestRow
end

