-- ==== Sys2Proof/Tests/Slice0.lean ====
section
/-! SUPPORT. Tests: ill-formed commands refused, the spec's worked examples, one or two small steps of each command, and for each
obligation with hypotheses a state and operands that meet them (`wit_<name>`). -/

namespace Sys2Proof.Tests

set_option Elab.async false

open Sys2Proof Sys2Proof.Machine

/-! ### States -/

/-- The state a command leaves. -/
def after (c : Instr) (s : State) : State :=
  match exec c s with
  | .next t => t
  | .fault _ => s
  | .refused _ => s

def afterAll (cs : List Instr) (s : State) : State := cs.foldl (fun t c => after c t) s

/-- In HOLD right after a self-test that passed. -/
def hold : State :=
  { State.reset with
    ft := { Timebase.reset with expected := some 50000 }
    mc := { ModeControl.reset with mode := .hold, selfTest := .ended, outcome := some .pass } }

def inMode (m : PartMode) (s : State) : State := { s with mc := { s.mc with mode := m } }

/-- In RUN, entered before. -/
def running (s : State) : State := { s with mc := { s.mc with mode := .run, runEntered := true } }

def failed : State := inMode .failed hold

def sensor (address : FieldAddress) (latency : Nat) : SensorRec := freshSensor address threePhases latency

def segment (up : Nat) (down : List Nat) : SegRec :=
  { phases := threePhases, up, down, budget := 900, policy := .trip, iSurge := 400, state := .normal, settle := 0,
    openCount := 0, contactCount := 0, deadline := none, deadlinePassed := false, operated := noPhases, excluded := [],
    leakRing := [], transient := 0, verdict := none, suspect := none, err := 0 }

def interrupter (kind : InterrupterKind) (slot : Nat) : IntRec :=
  { freshInterrupter kind slot 1000 with state := .closed, armed := true }

def onlySensors (xs : List (Nat × SensorRec)) (s : State) : State :=
  { s with
    sensors := xs.map fun p => (p.1, .live p.2)
    index := (xs.map fun p => (p.2.address.toNat, p.1)) }

def onlySegments (xs : List (Nat × SegRec)) (s : State) : State := { s with segments := xs.map fun p => (p.1, .live p.2) }

def onlyInterrupters (xs : List (Nat × IntRec)) (s : State) : State :=
  { s with interrupters := xs.map fun p => (p.1, .live p.2) }

/-- Segments 0 (sensors 0 to 1) and 1 (a leaf at sensor 1); interrupter 0 LOCAL on channel 0 at sensor 0, interrupter 1 REMOTE
at sensor 1, both CLOSED and armed; sensors 2 and 3 free. -/
def feeder : State :=
  onlyInterrupters [(0, interrupter (.loc 0) 0), (1, interrupter .remote 1)]
    (onlySegments [(0, segment 0 [1]), (1, segment 1 [])]
      (onlySensors [(0, sensor 101 1), (1, sensor 102 2), (2, sensor 103 0), (3, sensor 104 7)] hold))

/-- A pass in flight for frame 7, about to take a stage. -/
def passing (g : Stage) (s : State) : State :=
  { s with
    ring := [⟨7, [0, 1], [], .evaluating⟩]
    pass := some ⟨7, g, [], [], [], [], [], []⟩ }

def setSeg (n : Nat) (r : SegRec) (s : State) : State := { s with segments := setRow s.segments n (.live r) }

def setInt (x : Nat) (r : IntRec) (s : State) : State := { s with interrupters := setRow s.interrupters x (.live r) }

def setSensor (d : Nat) (r : SensorRec) (s : State) : State := { s with sensors := setRow s.sensors d (.live r) }

def lostSensor (d : Nat) (s : State) : State := { s with sensors := setRow s.sensors d .quarantined }

def lostSegment (n : Nat) (s : State) : State := { s with segments := setRow s.segments n .quarantined }

def lostInterrupter (x : Nat) (s : State) : State := { s with interrupters := setRow s.interrupters x .tableError }

def details : SuspectDetails := ⟨5, ⟨false, true, false⟩, true, false, false⟩

def suspect : SegRec := { segment 1 [] with state := .suspect, suspect := some details, openCount := 1, deadline := some 90000 }

/-- Waits on an interrupter, its chain ending there. -/
def waiting (up : Nat) (down : List Nat) (x : Nat) : SegRec :=
  { segment up down with
    state := .isolating
    verdict := some ⟨.brokenConductor, threePhases, 5, 6, ⟨false, false, false, false⟩, [⟨x, .tripped⟩]⟩ }

def tripping (kind : InterrupterKind) (slot : Nat) (waiters : List Nat) : IntRec :=
  { interrupter kind slot with
    state := .tripping, armed := false, saved := true, outstanding := true, waiters, confirm := some 90000
    pulseFrame := some 5 }

def reply : Reply := ⟨33, [0, 0, 4], false, false⟩

def full : List Notice := (List.range 32).map fun i => ⟨BitVec.ofNat 16 i, 0, .baselineReady i 0⟩

/-! ### Facts from a check of the places of a table -/

/-- No path leads down from a sensor whose segments are leaves. -/
theorem no_way {s : State} {n u d : Nat} (h : ∀ g < 40, ∀ q ∈ segmentAt s g, q.up = d → q.down = []) :
    ∀ way, ¬ leadsDown s n u d way
  | [] => id
  | g :: rest => by
    rintro ⟨hg, -, q, hq, hu, hw⟩
    have hd := h g hg q hq hu
    simp [hd] at hw

/-- The sensor law, from a check of the places. -/
theorem shares_of {s : State} (h : ∀ m < 40, ∀ n < 40, ∀ q ∈ segmentAt s m, ∀ r ∈ segmentAt s n, m ≠ n →
    q.up ≠ r.up ∧ ∀ d ∈ q.down, d ∉ r.down) : sharesNoSensor s :=
  fun m n q r hm hn hq hr => h m hm n hn q hq r hr

/-- A command that completes leaves its state after it. -/
theorem next_of {c : Instr} {s : State} (h : (match exec c s with | .next _ => true | _ => false) = true) :
    exec c s = .next (after c s) := by
  unfold after
  split at h
  · rename_i t ht; rw [ht]
  · cases h

/-- The record laws, from a check of the places. -/
theorem recordLaws_of {s : State}
    (h1 : ∀ n < 40, ∀ r ∈ segmentAt s n, ((r.verdict ≠ none ↔ isVerdictState r.state = true) ∧
      (r.suspect ≠ none ↔ r.state = .suspect) ∧ (r.deadline ≠ none → r.state = .suspect)) ∧
      (r.state = .isolating → ∃ x < 16,
        ((interrupterAt s x).any fun q => decide (q.state = .tripping ∧ n ∈ q.waiters)) = true ∧
        (r.verdict.any fun v => v.chain.getLast?.any fun e => decide (e.id = x ∧ (e.outcome = .tripped ∨ e.outcome = .joined))) = true))
    (h2 : ∀ x < 16, ∀ q ∈ interrupterAt s x, q.waiters.Nodup ∧ (q.waiters ≠ [] → q.state = .tripping) ∧
      ∀ n ∈ q.waiters, n < 40 ∧ ((segmentAt s n).any (·.state == .isolating)) = true)
    (h3 : ∀ x < 16, ∀ y < 16, ∀ p ∈ interrupterAt s x, ∀ q ∈ interrupterAt s y, ∀ n ∈ p.waiters, n ∈ q.waiters → x = y) :
    recordLaws s := by
  simp only [Option.any_eq_true, decide_eq_true_eq, beq_iff_eq] at h1 h2
  refine ⟨fun n r hn hr => ⟨(h1 n hn r hr).1, fun hi => ?_⟩, fun x q hx hq => h2 x hx q hq,
    fun x y p q n hx hy hp hq => h3 x hx y hy p hp q hq n⟩
  obtain ⟨x, hx, hq, v, hv, e, he, hid, ho⟩ := (h1 n hn r hr).2 hi
  exact ⟨x, hx, hq, v, e, hv, he, hid, ho⟩

/-! ### Ill-formed commands are refused, one for each check -/

theorem test_next_without_presence : instrWellFormed (.setTimebase 50 1 0 7) = false := by decide +kernel
theorem test_eighty_pairs : instrWellFormed (.setParams (List.replicate 80 ⟨1, 600⟩)) = false := by decide +kernel
theorem test_long_downstream_list : instrWellFormed (.defineSegment 0 7 0 900 0 400 (List.replicate 232 1)) = false := by decide +kernel
theorem test_remote_with_channel : instrWellFormed (.defineInterrupter 0 1 2 0 1000) = false := by decide +kernel
theorem test_forty_eight_channels : instrWellFormed (.configTripOutputs (List.replicate 48 ⟨0, 1, 0, 0⟩)) = false := by decide +kernel
theorem test_values_without_phases : instrWellFormed (.report [⟨1, 0, 0, 0, [⟨1, 1, 0⟩], 0⟩]) = false := by decide +kernel
theorem test_report_too_long : instrWellFormed (.report (List.replicate 27 ⟨1, 0, 0, 0, [], 0⟩)) = false := by decide +kernel
theorem test_reply_inject_with_fields : instrWellFormed (.inject 3 1 0 0) = false := by decide +kernel
theorem test_malformed_request : requestWellFormed (.malformed 9 0) = false := by decide +kernel
theorem test_payload_too_long : instrWellFormed (.messageReceived 1 (List.replicate 241 0) 0) = false := by decide +kernel
theorem test_widest_accepted : instrWellFormed (.report (List.replicate 26 ⟨1, 0, 0, 0, [], 0⟩)) = true := by decide +kernel

/-! ### No row gives bits (log 2) -/

theorem test_no_word_spells_a_command : decodeTableWord 0 0 = none := rfl
theorem test_fetch_word_keeps_state (s : State) (n w : Nat) : s.withFetchWord n w = s := rfl

/-! ### Layouts: section 11.5, and the check of R166 -/

/-- The two entries of section 11.5, with V 1010, I 57 on each phase. -/
def exampleEntries : List ReportEntry :=
  [⟨100001, 500, 0, 7, [⟨1010, 57, 0⟩, ⟨1010, 57, 0⟩, ⟨1010, 57, 0⟩], 38⟩, ⟨100005, 500, 1, 0, [], 0⟩]

theorem test_report_payload_is_34_bytes : (encodePayload (.report exampleEntries)).length = 34 := by decide +kernel
theorem test_report_address_character : addressOf 1 25 = 89 := by decide +kernel
theorem test_report_bytes : (encodePayload (.report exampleEntries)).drop 25 = [0x01, 0x86, 0xA5, 0x01, 0xF4, 1, 0, 0, 0] := by
  decide +kernel
theorem test_report_payload_decodes :
    decodeRequest 25 (encodePayload (.report exampleEntries)) = some (.report exampleEntries) := by decide +kernel
/-- The check value of the polynomial and start of R166 over the nine digits. -/
theorem test_check_of_digits : crcOf [0x31, 0x32, 0x33, 0x34, 0x35, 0x36, 0x37, 0x38, 0x39] = 0x29B1 := by decide +kernel

/-! ### Section 1.9: a small feeder. Sensor 2 carries all phases here, as R11 requires of it (log 34). -/

def payloadAfter (c : Instr) (s : State) : Option (List Byte) := (after c s).hl.replies.getLast?.map (·.payload)

def fiveSensors : State :=
  onlySensors [(0, sensor 100001 1), (1, sensor 100002 2), (2, sensor 100003 3), (3, sensor 100004 3),
    (4, { sensor 100005 1 with phases := ⟨false, true, false⟩ })] hold

/-- The feeder after step 3. -/
def smallFeeder : State :=
  onlySegments [(0, segment 0 [1, 2]), (1, segment 1 [3]), (2, { segment 2 [] with phases := ⟨true, false, false⟩ }),
    (3, { segment 3 [4] with phases := ⟨false, true, false⟩ })] fiveSensors

/-- The feeder after step 5, both interrupters armed and reported CLOSED as in 7.11. -/
def guarded : State :=
  onlyInterrupters [(0, interrupter (.loc 0) 0), (1, { interrupter .remote 1 with confirmTime := 3000 })] smallFeeder

theorem test_define_sensor_taken_address : payloadAfter (.defineSensor 5 100003 1 1) fiveSensors = some [7, 1, 4] := by
  decide +kernel
theorem test_define_sensor_new : (sensorAt (after (.defineSensor 47 200000 2 7) hold) 47).map (fun r => (r.phases, r.latency))
    = some (⟨false, true, false⟩, 7) := by decide +kernel
theorem test_define_segment_estimate :
    payloadAfter (.defineSegment 0 7 0 900 0 400 [1, 2]) fiveSensors = some [0, 0, 4, 0, 250, 0, 0] := by decide +kernel
theorem test_define_segment_budget_short :
    payloadAfter (.defineSegment 2 1 2 200 1 400 []) fiveSensors = some [1, 0, 4, 1, 0, 250, 0, 0] := by decide +kernel
theorem test_topology_phase :
    payloadAfter (.defineSegment 3 7 3 600 1 400 [4]) smallFeeder = some [9, 0, 4, 3, 1, 4, 0] := by decide +kernel
theorem test_topology_cycle :
    payloadAfter (.defineSegment 4 2 4 600 1 400 [0]) smallFeeder = some [9, 0, 4, 1, 1, 0, 1, 3] := by decide +kernel
theorem test_define_interrupter_taken_slot :
    payloadAfter (.defineInterrupter 2 1 0 1 3000) guarded = some [7, 0, 4, 2, 1] := by decide +kernel
theorem test_retire_sensor_in_use : payloadAfter (.retireSensor 4) guarded = some [7, 0, 4, 1, 3] := by decide +kernel
theorem test_retire_sensor_frees : rowAt (after (.retireSensor 3) feeder).sensors 3 = none := by decide +kernel
theorem test_candidate_boundaries : candidateBoundaries guarded 3 = [3, 1, 0] := by decide +kernel
theorem test_remove_segment : candidateBoundaries (after (.removeSegment 1) guarded) 3 = [3] := by decide +kernel
theorem test_remove_interrupter : rowAt (after (.removeInterrupter 1) guarded).interrupters 1 = none := by decide +kernel
theorem test_query_sensor : (payloadAfter (.querySensor 4) smallFeeder).map (·.take 9) = some [0, 0, 4, 0, 1, 0x86, 0xA5, 2, 1] := by
  decide +kernel
theorem test_query_segment_state : (payloadAfter (.querySegment 3) (lostSegment 3 smallFeeder)).map (·.take 4) = some [0, 0, 4, 8] := by
  decide +kernel
theorem test_query_interrupter : (payloadAfter (.queryInterrupter 2) guarded).map (·.take 2) = some [8, 0] := by decide +kernel
/-- The form of log 25: status, slot, absent fields, the segments that name the sensor. -/
theorem test_query_sensor_lost : payloadAfter (.querySensor 4) (lostSensor 4 smallFeeder)
    = some ([0, 0, 4] ++ [2, 4] ++ List.replicate 12 0 ++ [1, 3]) := by decide +kernel

/-! ### Chapters 9 and 10: modes, settings, self-test, the line -/

theorem test_identify_product : (payloadAfter .identify hold).map (·.take 5) = some [0, 0, 4, 0x12, 0xE8] := by decide +kernel
theorem test_get_status_mode : (payloadAfter .getStatus hold).map (·.take 5) = some [0, 0, 4, 1, 8] := by decide +kernel
theorem test_set_mode_not_ready : payloadAfter (.setMode 1) hold = some [5, 0, 4] := by decide +kernel
theorem test_set_mode_run : statCode (after (.setMode 1) feeder) = 9 := by decide +kernel
theorem test_restart : (interrupterAt (after .restart (setInt 0 (tripping (.loc 0) 0 []) (running feeder))) 0).map
    (fun r => (r.state, r.armed, r.outstanding)) = some (.unknown, true, false) := by decide +kernel
/-- The straps of that moment are a free value (log 18); the tables stand. -/
theorem test_self_test_reset_follows : let t := afterAll [.selfTest, .replySendStart, .replySent] feeder
    (statCode t, t.strapReads, t.sensors) = (6, 1, feeder.sensors) := by decide +kernel
theorem test_set_timebase : (after (.setTimebase 20 0 0 0) hold).ft.expected = some 20000 := by decide +kernel
theorem test_set_profile : (selectedProfile (after (.setProfile 1) hold)).nOpen = 2 := by decide +kernel
theorem test_set_params_tail_stops : (after (.setParams [⟨36, 255⟩]) hold).params.maintTail = 15 := by decide +kernel
theorem test_set_params_repeated_id : payloadAfter (.setParams [⟨32, 3⟩, ⟨32, 4⟩]) hold = some [3, 4, 4] := by decide +kernel
theorem test_set_inhibit : payloadAfter (.setInhibit 1) hold = some [0, 0, 20, 1, 0, 1] := by decide +kernel
theorem test_inhibit_input : statCode (after (.inhibitInputChange true) (running hold)) = 0xA := by decide +kernel
theorem test_config_trip_outputs_locked :
    payloadAfter (.configTripOutputs [⟨1, 100, 0, 0⟩]) guarded = some [11, 0, 4, 2, 0] := by decide +kernel
theorem test_unknown_kind : (after (.unknownKind .kind31) State.reset).hl.replies = [⟨63, [2, 0, 0], false, false⟩] := by
  decide +kernel
/-- The tables stand until step 1 empties them, their timers stopped (log 16); urgency is clear (R151). -/
theorem test_hard_reset : let t := after (.hardReset 2 1) (setSeg 1 suspect (running feeder))
    (statCode t, t.sensors, urgency t, (segmentAt t 1).map (fun r => (r.state, r.deadline)))
      = (0xF, feeder.sensors, false, some (.suspect, none)) := by
  decide +kernel
theorem test_reset_release : statCode (after .resetNRelease State.reset) = 6 := by decide +kernel

/-- Section 9.7: bank 3 and channel 2 fail. -/
def hardStart : State :=
  afterAll [.resetNRelease, .selfTestStepEnd (.pattern 8 false), .selfTestStepEnd (.errorCheck true), .linkLoopback true,
    .selfTestStepEnd .loopback, .selfTestStepEnd (.channels 4), .selfTestStepEnd (.timebase true), .selfTestStepEnd .tables]
    State.reset

theorem test_hard_start : (statCode hardStart, hardStart.mc.outcome, hardStart.tm.bankMap) = (8, some .hard, 0xF7) := by
  decide +kernel
theorem test_hard_start_notice : hardStart.nq.queue = [⟨0, 0, .selfTestDone .hard 0xF7 [2]⟩] := by decide +kernel
theorem test_absent_bank : payloadAfter (.defineSensor 20 5 7 0) hardStart = some [6, 0, 5] := by decide +kernel
theorem test_loopback_failure_is_fatal : statCode (afterAll [.resetNRelease, .selfTestStepEnd (.pattern 0 false),
    .selfTestStepEnd (.errorCheck true), .linkLoopback false, .selfTestStepEnd .loopback, .selfTestStepEnd .tables]
    State.reset) = 0xE := by decide +kernel

theorem test_inject_single_is_corrected :
    (afterAll [.inject 0 1 0 9, .querySensor 1] feeder).cb.counts.eccCorrected = 1 := by decide +kernel
theorem test_inject_double_quarantines :
    rowAt (afterAll [.inject 0 3 1 31, .querySensor 3] feeder).sensors 3 = some .quarantined := by decide +kernel

theorem test_message_bad_check :
    (after (.messageReceived 1 [] (messageCheck 1 [] ^^^ 1)) hold).cb.counts.linkCrc = 1 := by decide +kernel
theorem test_message_meets_another : ((after (.messageReceived 89 [] 0) hold).hl.rx,
    [1, 2].map fun a => (after (.messageReceived 1 [] (messageCheck 1 [])) { hold with hl := { hold.hl with rx := .receiving a } }).cb.counts.linkAborted)
    = (.skipping, [0, 1]) := by decide +kernel
theorem test_link_aborted : (after (.linkAborted 1) { hold with hl := { hold.hl with rx := .receiving 1 } }).cb.counts.linkAborted = 1 := by
  decide +kernel
theorem test_address_character : (after (.addressCharacter 1) hold).hl.rx = .receiving 1 := by decide +kernel
theorem test_link_break : (after .linkBreak hold).cb.counts.linkBreak = 1 := by decide +kernel
theorem test_link_framing : (after (.linkFraming .lengthAbove240) { hold with hl := { hold.hl with rx := .receiving 1 } }).hl.rx = .skipping := by
  decide +kernel
theorem test_gap_timeout : (after .gapTimeout { hold with hl := { hold.hl with rx := .receiving 1 } }).cb.counts.linkGap = 1 := by
  decide +kernel
theorem test_reply_send_start : txen (afterAll [.getCounts, .replySendStart] hold) = true := by decide +kernel
theorem test_reply_sent : (afterAll [.getCounts, .replySendStart, .replySent] hold).hl.replies = [] := by decide +kernel
/-- IDENTIFY from station 1: its address character is marked, and no other character. -/
theorem test_reply_marks : ((replyCharacters 1 reply).map (·.mark), (replyCharacters 1 reply).head?.map characterLevels) =
    ([true, false, false, false, false, false, false], some [false, true, false, false, false, false, true, true, false, true, true]) := by
  decide +kernel

/-- Section 10.4: a delayed request, a waiting one, a lost one; both replies formed once the pass is over. -/
theorem test_delayed_request : (afterAll [.setParams [⟨32, 3⟩], .report [⟨1, 903, 0, 0, [], 0⟩], .querySegment 1, .passCompletion 0]
    (passing .completion (running hold))).hl.replies.map (·.payload.take 3) = [[0, 0, 10], [0, 0, 8]] := by decide +kernel

/-! ### Section 2.10: acquisition, loss and relock -/

def atForty (state : TimebaseState) (now expected : Nat) (last prev : Option Nat) (run : Nat) : State :=
  { hold with
    now
    ft := { hold.ft with
      state, period := 40, frame := 103, expected := some expected, lastInternal := last, prevEdge := prev, run } }

theorem test_fourth_edge_locks : ((after (.syncEdge 133000) (atForty .unlocked 120000 160000 (some 120000) (some 94000) 3)).ft.state,
    (after (.syncEdge 133000) (atForty .unlocked 120000 160000 (some 120000) (some 94000) 3)).ft.frame,
    (after (.syncEdge 133000) (atForty .unlocked 120000 160000 (some 120000) (some 94000) 3)).ft.expected)
    = (.locked, 104, some 173000) := by decide +kernel
theorem test_internal_start_stands :
    (after (.syncEdge 378000) (atForty .freewheel 376000 416000 (some 376000) (some 339000) 3)).ft.frame = 103 := by decide +kernel
theorem test_history_timeout : (after .edgeHistoryTimeout (atForty .unlocked 0 40000 none (some 13000) 1)).now = 58000 := by
  decide +kernel
theorem test_internal_frame_start : (after .internalFrameStart (atForty .freewheel 0 256000 none none 0)).ft.expected = some 296000 := by
  decide +kernel
theorem test_window_close : ((after .edgeWindowClose (atForty .locked 190000 216000 none none 0)).now,
    (after .edgeWindowClose (atForty .locked 190000 216000 none none 0)).ft.expected) = (221000, some 256000) := by decide +kernel

/-! ### Section 3.8: reports -/

def entry (address : FieldAddress) (frame v : Half) : ReportEntry :=
  ⟨address, frame, 0, 7, [⟨v, 10, 0⟩, ⟨1000, 10, 0⟩, ⟨1000, 10, 0⟩], 5⟩

/-- Frame 501 current; frames 500 (sensors 0 stored) and 501 open. -/
def twoFrames : State :=
  let s := running smallFeeder
  let stored : StoredReport := .valid ⟨⟨some ⟨1000, 10, false⟩, none, none⟩, 5⟩
  { s with
    ft := { s.ft with frame := 501 }
    ring := [⟨500, [0, 1, 2, 3, 4], [(0, stored)], .opened⟩, ⟨501, [0, 1, 2, 3, 4], [], .opened⟩] }

theorem test_report_outcomes : payloadAfter
    (.report [entry 100004 500 2210, entry 100001 500 1000, entry 100002 499 1000, entry 100003 502 1000]) twoFrames
    = some [0, 0, 8, 1, 245, 4, 0, 5, 1, 2] := by decide +kernel
theorem test_report_clamps :
    (after (.report [entry 100004 500 2210]) twoFrames).cb.counts.reportClamped = 1 := by decide +kernel

/-! ### Chapter 4 -/

theorem test_voltage_classes : (voltageClass .normalDefaults 598, voltageClass .elevatedDefaults 598,
    voltageClass { ProfileParams.normalDefaults with vOpen := 900 } 818, voltageClass .normalDefaults 819)
    = (.sagged, .collapsed, .collapsed, .live) := by decide +kernel
theorem test_rounding : (learnStep 4 35 38, learnStep 4 64 612, learnStep 4 98 2) = (35, 98, 92) := by decide +kernel
theorem test_arc_score : arcScore [143, 96, 171, 120, 158, 88, 160, 131] = 382 := by decide +kernel

/-! ### Section 5.12: a broken phase on segment 7 -/

def seeded (address : FieldAddress) (base : Nat) : SensorRec :=
  { sensor address 3 with learn := 16, residualBase := base, currentBase := ⟨50, 50, 50⟩ }

def threePhase (a b c residual : Nat) : StoredReport :=
  .valid ⟨⟨some ⟨a, 50, false⟩, some ⟨b, 50, false⟩, some ⟨c, 50, false⟩⟩, residual⟩

/-- The pass for frame 1200 about to take a stage, the current frame at 1203. -/
def brokenPhase (g : Stage) : State :=
  let s := onlySegments [(7, segment 12 [13, 20])] (onlySensors [(12, seeded 1 35), (13, seeded 2 12), (20, seeded 3 9)]
    (running hold))
  { s with
    ft := { s.ft with frame := 1203 }
    ring := [⟨1200, [12, 13, 20], [(12, threePhase 1012 1008 1015 38), (13, threePhase 1003 598 1010 13),
      (20, threePhase 1009 1006 1011 9)], .evaluating⟩]
    pass := some ⟨1200, g, [], [], [], [], [], []⟩ }

def brokenAtThree : State := after .passStage2 (brokenPhase .two)

def brokenSuspect : State := afterAll [.passStage3, .passStage4, .passCompletion 0] brokenAtThree

theorem test_pass_stage_1 : (sensorAt (after .passStage1 (brokenPhase .one)) 13).bind (·.last)
    = some ⟨⟨some ⟨1003, 50⟩, some ⟨598, 50⟩, some ⟨1010, 50⟩⟩, 13, 1200⟩ := by decide +kernel
theorem test_pass_stage_2 : (segmentAt brokenAtThree 7).map (fun r => (r.openCount, r.contactCount, r.leakRing)) = some (1, 0, [2]) := by
  decide +kernel
theorem test_pass_stage_3 : (segmentAt (after .passStage3 brokenAtThree) 7).bind (·.suspect)
    = some ⟨1200, ⟨false, true, false⟩, true, false, false⟩ := by decide +kernel
theorem test_pass_stage_4_learns : (sensorAt (after .passStage4 (brokenPhase .four)) 13).map (·.learn) = some 16 := by decide +kernel
theorem test_pass_completion : (segmentAt brokenSuspect 7).map (·.deadline) = some (some 750000) := by decide +kernel
theorem test_suspect_begin : brokenSuspect.nq.queue = [⟨0, 1200, .suspectBegin 7 true false ⟨false, true, false⟩⟩] := by
  decide +kernel
/-- Section 5.13, the row of an expiry before any further pass. -/
theorem test_deadline_expiry : ((segmentAt (after (.deadlineExpiry 7) brokenSuspect) 7).bind (·.verdict)).map (fun v => (v.first, v.marks))
    = some (1200, ⟨true, false, true, false⟩) := by decide +kernel

/-! ### Section 7.11: a trip that escalates -/

/-- At 3000 ms: interrupter 1 TRIPPING, segment 3 waiting on it. -/
def relayFails : State :=
  let s := setInt 1 { tripping .remote 1 [3] with confirm := some 3000000 } (setSeg 3 (waiting 3 [4] 1) (running guarded))
  { s with ft := { s.ft with frame := 2063 } }

def escalated : State := after (.confirmTimerExpiry 1) relayFails

theorem test_confirm_timer_expiry : (interrupterAt escalated 0).map (fun r => (r.state, r.waiters, r.confirm))
    = some (.tripping, [3], some 4000000) := by decide +kernel
theorem test_escalation_chain : ((segmentAt escalated 3).bind (·.verdict)).map (·.chain)
    = some [⟨1, .escalatedFrom⟩, ⟨0, .tripped⟩] := by decide +kernel
theorem test_pulse_timer_expiry : (escalated.channels.c0.pulse, (after (.pulseTimerExpiry 0) escalated).channels.c0.pulse)
    = (some 3100000, none) := by decide +kernel
theorem test_interrupter_state_open : (segmentAt (after (.interrupterState 0 0) escalated) 3).map (·.state) = some .isolated := by
  decide +kernel
theorem test_ack_trip : payloadAfter (.ackTrip 1) escalated = some [0, 0, 9, 1, 1, 0] := by decide +kernel
theorem test_set_arm : payloadAfter (.setArm 1 0) escalated = some [0, 0, 9, 0, 0, 1] := by decide +kernel
theorem test_release_segment : (segmentAt (after (.releaseSegment 3) (setSeg 3 { waiting 3 [4] 0 with state := .isolated } guarded)) 3).map
    (fun r => (r.state, r.verdict)) = some (.normal, none) := by decide +kernel
theorem test_restore_segment : payloadAfter (.restoreSegment 3) (setSeg 3 { segment 3 [4] with excluded := [4] } guarded)
    = some [0, 0, 4, 0, 0, 0] := by decide +kernel

/-! ### Sections 8.6 and 8.7 -/

def pressed : State :=
  { setSeg 1 suspect feeder with
    nq := { queue := (List.range 32).map fun i => ⟨BitVec.ofNat 16 (96 + i), 0,
              if i < 4 then .baselineReady i 0 else if i < 6 then .isolationFailed 1 .brokenConductor 0 else .reenergized 1 i⟩
            seq := 128, tail := 0 } }

theorem test_full_queue : ((raiseNow (.isolationFailed 2 .brokenConductor 0) (raiseNow (.reenergized 2 3) pressed)).nq.queue.take 3).map
    (·.seq) = [98, 99, 100] := by decide +kernel
theorem test_fetch_notices : (payloadAfter (.fetchNotices 8) pressed).map (·.take 8) = some [0, 0, 5, 20, 4, 0, 128, 8] := by
  decide +kernel

def counted : State :=
  { hold with cb := { counts := { Counts.zero with reportLate := 45, syncMissed := 4 }, conds := ⟨false, true, true, false⟩
                      raised := ⟨false, true, false, false⟩
                      snapshot := some ⟨7, { Counts.zero with reportLate := 40, syncMissed := 3 }, ⟨false, true, true, false⟩⟩
                      token := 7 } }

theorem test_clear_counts : ((after (.clearCounts 7) counted).cb.counts.reportLate,
    (after (.clearCounts 7) counted).cb.counts.syncMissed, (after (.clearCounts 7) counted).cb.conds)
    = (5, 1, ⟨false, true, false, false⟩) := by decide +kernel
theorem test_status_conditions : ((statusBytes counted).drop ((statusBytes counted).length - 6), (statusBytes State.reset).drop 12) =
    ([1, 0, 1, 1, 0, 1], [0, 0, 0, 0, 0, 0, 0]) := by decide +kernel
theorem test_get_counts_token : (after .getCounts counted).cb.token = 8 := by decide +kernel

/-! ### Witnesses: states and operands that meet the hypotheses of the obligations -/

theorem wit_StepRunsFrontCommand :
    ({ hold with pending := [.getCounts, .linkBreak] } : State).pending = .getCounts :: [.linkBreak] ∧ hold.pending = [] := by
  decide +kernel

/-- In RUN with the INHIBIT input asserted and an overrun not yet carried; with 32 notices, urgency and no overrun. -/
def inhibited : State := { running feeder with inhibitPin := true, hl := { feeder.hl with overrun := true } }

theorem wit_IdentificationAndUnassignedKinds :
    (ready State.reset = true ∧ ready hold = true ∧ ready failed = true ∧ ready (passing .two (running feeder)) = true) ∧
    ((answered 1 (okWith []) inhibited).hl.replies.map fun x => x.payload[2]?) = [some 0x1A] ∧
    ((answered 1 (okWith []) pressed).hl.replies.map fun x => x.payload[2]?) = [some 5] := by decide +kernel

/-- Each mode's refusal; each table's first number above its range, and the first code above each code's range. -/
theorem wit_ModeAndFieldRefusals :
    (requestOf .getCounts = some .getCounts ∧ takesNow .getCounts State.reset = true ∧ State.reset.mc.mode = .start
      ∧ requestKind .getCounts ∉ [0, 1, 2, 30, 31]) ∧
    (takesNow .getCounts failed = true ∧ failed.mc.mode = .failed) ∧
    (requestOf (.report []) = some (.report []) ∧ takesNow (.report []) hold = true ∧ hold.mc.mode = .hold
      ∧ requestKind (.report []) = 25) ∧
    (takesNow .selfTest (running hold) = true ∧ (running hold).mc.mode = .run ∧ requestKind .selfTest ∈ [5, 6, 29]) ∧
    inService hold = true ∧ takesNow (.retireSensor 48) hold = true ∧ takesNow (.removeSegment 40) hold = true
      ∧ takesNow (.ackTrip 16) hold = true ∧ takesNow (.setInhibit 2) hold = true ∧ takesNow (.fetchNotices 0) hold = true
      ∧ takesNow (.fetchNotices 9) hold = true ∧
    (47 < (48 : Byte).toNat ∧ Instr.retireSensor 48 ∈ [.retireSensor 48, .querySensor 48]) ∧
    (39 < (40 : Byte).toNat ∧ 15 < (16 : Byte).toNat ∧ 1 < (2 : Byte).toNat ∧ 8 < (9 : Byte).toNat) ∧
    takenIn (requestKind (.defineSensor 47 0xFFFFFF 7 7)) hold.mc.mode = true ∧
    fieldFault (.defineSensor 48 1 7 7) = some 0 ∧ fieldFault (.defineSensor 47 0xFFFFFF 7 7) = some 1 ∧
    fieldFault (.defineSensor 47 0xFFFFFE 8 7) = some 4 ∧ fieldFault (.defineSensor 47 1 7 8) = some 5 := by decide +kernel

def withRequests (rs : List Request) (s : State) : State := { s with hl := { s.hl with requests := rs } }

theorem wit_RequestBufferHoldsTwo :
    let s := passing .two (running feeder)
    requestOf (.setProfile 1) = some (.setProfile 1) ∧
    (requestKind (.setProfile 1)).toNat ∈ [3, 4, 7, 8, 10, 11, 13, 14, 16, 17, 18, 19, 29] ∧ ready s = true ∧ s.pass.isSome = true ∧
    requestOf .getCounts = some .getCounts ∧ isDelayed (.setProfile 1) = true ∧
    (let u := withRequests [.setProfile 1] s
     lineIdle u = true ∧ u.hl.requests = [.setProfile 1] ∧ u.pass.isSome = true) ∧
    (let u := withRequests [.setProfile 1, .identify] s
     lineIdle u = true ∧ u.hl.requests = [.setProfile 1, .identify]) := by decide +kernel

theorem wit_SetModeRunEntersRun :
    (ready (running feeder) = true ∧ (running feeder).pass = none ∧ (running feeder).mc.mode = .run) ∧
    (ready hold = true ∧ hold.pass = none ∧ hold.mc.mode = .hold ∧ ∀ n < 40, segmentAt hold n = none) ∧
    (ready feeder = true ∧ feeder.pass = none ∧ feeder.mc.mode = .hold ∧ (∃ n < 40, (segmentAt feeder n).isSome = true)
      ∧ feeder.mc.runEntered = false ∧ clean feeder = true) ∧
    (inMode .hold (running feeder)).mc.runEntered = true ∧ (inMode .hold (running feeder)).mc.mode = .hold := by decide +kernel

/-- A segment in each state; no interrupter TRIPPING. -/
def everyState : State :=
  { feeder with segments := [(0, .live suspect), (1, .live { segment 1 [] with state := .deenergized }),
      (2, .live { segment 2 [] with state := .settling, settle := 3 }), (3, .live (segment 3 [])),
      (4, .live (waiting 4 [] 0)), (5, .live { waiting 5 [] 0 with state := .isolated }),
      (6, .live { waiting 6 [] 0 with state := .withheld }), (39, .live { waiting 7 [] 0 with state := .isolationFailed })] }

theorem wit_SetModeHoldEntersHold :
    (ready feeder = true ∧ feeder.pass = none ∧ clean feeder = true ∧ feeder.mc.mode = .hold) ∧
    (let s := setInt 15 (tripping .remote 2 []) (running feeder)
     ready s = true ∧ s.pass = none ∧ clean s = true ∧ s.mc.mode = .run ∧ isTripping s 15 = true
       ∧ ∀ y < 15, isTripping s y = false) ∧
    (let s := running everyState
     ready s = true ∧ s.pass = none ∧ clean s = true ∧ s.mc.mode = .run ∧ (∀ x < 16, isTripping s x = false)
       ∧ (segmentAt s 0).map (·.state) = some .suspect ∧ (segmentAt s 2).map (·.state) = some .settling
       ∧ (segmentAt s 39).map (·.state) = some .isolationFailed) := by decide +kernel

theorem wit_RestartClearsWorkingState :
    (let s := lostSensor 47 (running everyState)
     ready s = true ∧ s.pass = none ∧ inService s = true ∧ clean s = true ∧ (sensorAt s 3).isSome = true
       ∧ (segmentAt s 39).isSome = true ∧ (interrupterAt s 1).isSome = true) ∧
    (let u : State := { feeder with hl := { feeder.hl with
       requests := [.restart, .identify], replies := [reply, { reply with kind := 34 }], sending := true, overrun := true } }
     u.hl.requests = [.restart, .identify] ∧ u.hl.sending = true ∧ u.hl.replies = [reply, { reply with kind := 34 }]
       ∧ reply.resetAfter = false ∧ u.pass = none ∧ inService u = true ∧ clean u = true) := by decide +kernel

def withReplies (rs : List Reply) (sending : Bool) (s : State) : State := { s with hl := { s.hl with replies := rs, sending } }

theorem wit_SelfTestResetsAfterReply :
    (ready hold = true ∧ hold.mc.mode = .hold) ∧
    (let s := withReplies [{ reply with resetAfter := true }] false hold
     requestOf .identify = some .identify ∧ lineIdle s = true ∧ s.hl.requests = [] ∧ s.hl.replies.any (·.resetAfter) = true) ∧
    (let s := withReplies [{ reply with resetAfter := true }] true
       (setInt 1 (tripping .remote 1 [0]) (setSeg 1 suspect (lostSegment 39 hold)))
     s.hl.sending = true ∧ s.hl.replies = { reply with resetAfter := true } :: [] ∧ (segmentAt s 1).map (·.deadline) = some (some 90000)
       ∧ rowAt s.segments 39 = some .quarantined ∧ (interrupterAt s 1).map (·.confirm) = some (some 90000)) := by decide +kernel

theorem wit_ProfileAndInhibitFollowTheirRequests :
    ready hold = true ∧ hold.pass = none ∧ inService hold = true ∧ noneHeld hold = true := by decide +kernel

/-- The ends of two ranges, and sixteen pairs. -/
theorem wit_SetParamsWritesTheNamedParameters :
    ready hold = true ∧ hold.pass = none ∧ inService hold = true ∧
    fieldFault (.setParams [⟨36, 255⟩, ⟨1, 512⟩, ⟨17, 1228⟩]) = none ∧
    fieldFault (.setParams [⟨1, 819⟩, ⟨2, 0⟩, ⟨3, 51⟩, ⟨4, 15⟩, ⟨5, 5⟩, ⟨6, 65535⟩, ⟨7, 63⟩, ⟨8, 0⟩, ⟨9, 1⟩, ⟨17, 819⟩, ⟨18, 1227⟩,
      ⟨19, 512⟩, ⟨20, 1⟩, ⟨32, 7⟩, ⟨33, 4⟩, ⟨35, 15⟩]) = none ∧
    paramOf 36 = some .maintTail ∧ writtenValue .maintTail 255 = 15 := by decide +kernel

/-- BASE_SHIFT among other pairs, at both ends of its range: the sensors at slots 0 and 47 reach the new count, that at 46 is seeded
already; and no sensor does. -/
theorem wit_BaseShiftChangeAdjustsLearnCounts :
    let s := onlySensors [(0, { sensor 100 1 with learn := 8, residualBase := 5 }), (46, { sensor 101 1 with learn := 16 }),
      (47, { sensor 102 1 with learn := 9 })] hold
    let low : List ParamPair := [⟨32, 7⟩, ⟨34, 3⟩, ⟨36, 255⟩]
    (ready s = true ∧ s.pass = none ∧ inService s = true ∧ clean s = true) ∧
    (fieldFault (.setParams low) = none ∧ ⟨34, 3⟩ ∈ low ∧ (3 : Half).toNat ≠ s.params.baseShift) ∧
    (fieldFault (.setParams [⟨34, 6⟩]) = none ∧ (6 : Half).toNat ≠ s.params.baseShift) ∧
    ([0, 47].Pairwise (· < ·) ∧ (∀ d < 48, d ∈ [0, 47] ↔
      ((sensorAt s d).any fun r => decide (r.learn ≠ 2 ^ s.params.baseShift ∧ 2 ^ 3 ≤ r.learn)) = true) ∧ s.nq.queue.length + 2 ≤ 32) ∧
    ∀ d < 48, ∀ r ∈ sensorAt s d, ¬ (r.learn ≠ 2 ^ s.params.baseShift ∧ 2 ^ 6 ≤ r.learn) := by decide +kernel

def setPulse (ch : Fin 4) (due : Nat) (s : State) : State := modifyChannel ch (fun c => { c with pulse := some due }) s

def failChannel (ch : Fin 4) (s : State) : State := modifyChannel ch (fun c => { c with failed := true }) s

/-- Each channel once, widths at both ends. -/
def fourChannels : List ChannelEntry := [⟨3, 500, 1, 1⟩, ⟨0, 1, 0, 0⟩, ⟨1, 100, 1, 0⟩, ⟨2, 2, 0, 1⟩]

theorem wit_ConfigTripOutputsLocksAndWrites :
    (fieldFault (.configTripOutputs fourChannels) = none ∧ fieldFault (.configTripOutputs [⟨3, 500, 1, 1⟩]) = none ∧
      fieldFault (.configTripOutputs []) ≠ none) ∧
    (ready feeder = true ∧ inService feeder = true ∧ clean feeder = true) ∧
    (let s := failChannel 0 feeder
     fourChannels.take 1 ++ ⟨0, 1, 0, 0⟩ :: fourChannels.drop 2 = fourChannels ∧ (s.channels.get 0).failed = true ∧
       (s.channels.get 3).failed = false) ∧
    (∀ k : Fin 4, (feeder.channels.get k).failed = false) ∧
    (let s := setInt 0 (interrupter .remote 0) (setInt 1 (interrupter (.loc 3) 1) feeder)
     (s.channels.get 3).failed = false ∧ (interrupterAt s 1).map (fun r => (r.armed, r.kind)) = some (true, .loc 3)
       ∧ ∀ y < 1, (interrupterAt s y).map (·.kind) = some .remote) ∧
    (let s := setPulse 3 5 { feeder with interrupters := [] }
     (s.channels.get 3).failed = false ∧ (∀ x < 16, interrupterAt s x = none) ∧ (s.channels.get 3).pulse.isSome = true
       ∧ ∀ j : Fin 4, j < 3 → (s.channels.get j).pulse = none) ∧
    (let s : State := { feeder with interrupters := [] }
     (s.channels.get 3).failed = false ∧ ∀ k : Fin 4, (s.channels.get k).pulse = none) := by decide +kernel

theorem wit_SetTimebaseRestartsAndRenumbers :
    (ready feeder = true ∧ feeder.mc.mode = .hold ∧ clean feeder = true ∧ 20 ≤ (20 : Half).toNat ∧ (250 : Half).toNat ≤ 250) ∧
    ((50 : Half).toNat = feeder.ft.period ∧ true = feeder.ft.syncEnable) ∧
    ((20 : Half).toNat ≠ feeder.ft.period ∧ feeder.ft.state = .unlocked) ∧
    (false ≠ feeder.ft.syncEnable ∧ feeder.ft.state ≠ .internal ∧ feeder.nq.queue.length < 32) ∧
    (sensorAt feeder 3).isSome = true ∧
    (fieldFault (.setTimebase 250 1 1 65535) = none ∧ (250 : Half).toNat ≠ feeder.ft.period) ∧
    (after (.setTimebase 250 0 1 65535) feeder).ft.override = some 65535 := by decide +kernel

theorem wit_InternalFrameStartInHold :
    (noneHeld hold = true ∧ hold.mc.mode = .hold ∧ hold.ft.expected = some 50000 ∧ hold.ft.state ≠ .locked) ∧
    (noneHeld State.reset = true ∧ State.reset.ft.expected = none) ∧ failed.mc.mode = .failed := by decide +kernel

def openFrames (n first : Nat) (s : State) : State :=
  { s with ring := (List.range n).map fun i => ⟨BitVec.ofNat 16 (first + i), [0, 1], [], .opened⟩ }

def inState (state : TimebaseState) (s : State) : State := { s with ft := { s.ft with state } }

/-- The expected start is 50000 and T is 6250: both ends of the window, and the moments next to them. -/
theorem wit_LockedWindowAndItsLoss :
    let s := inState .locked hold
    (noneHeld s = true ∧ s.mc.mode = .hold ∧ s.ft.state = .locked ∧ s.ft.expected = some 50000 ∧ s.nq.queue.length < 32
      ∧ inService s = true) ∧
    (s.now ≤ 43750 ∧ 50000 ≤ 43750 + s.ft.period * 125 ∧ 56250 ≤ 50000 + s.ft.period * 125) ∧
    (43749 + s.ft.period * 125 < 50000 ∧ 50000 + s.ft.period * 125 < 56251) ∧
    (inState .internal hold).ft.state = .internal ∧
    (let u := { hold with ft := { hold.ft with prevEdge := some 13000, run := 1 } }
     noneHeld u = true ∧ u.ft.state = .unlocked ∧ u.ft.prevEdge = some 13000) ∧
    (let u := inState .locked (openFrames 7 65530 (running feeder))
     noneHeld u = true ∧ u.mc.mode = .run ∧ u.ring.length < 8 ∧ u.ft.expected = some 50000 ∧ u.nq.queue.length < 32 ∧
       ((after (.syncEdge 56250) u).ring.map (·.cond)).take 2 = [.evaluating, .closable] ∧
       (after .edgeWindowClose u).pass.map (·.frame) = some 65530) := by decide +kernel

/-- The previous edge is 10000, FRAME_PERIOD 50000, T 6250. -/
theorem wit_EdgesAcquireLock :
    let u (run : Nat) : State := { hold with ft := { hold.ft with prevEdge := some 10000, run, lastInternal := some 47501 } }
    (noneHeld hold = true ∧ hold.now ≤ 0 ∧ hold.ft.state = .unlocked ∧ inService hold = true ∧ hold.ft.prevEdge = none) ∧
    (noneHeld (u 3) = true ∧ (u 3).now ≤ 53749 ∧ (u 3).ft.state = .unlocked ∧ (u 3).ft.prevEdge = some 10000) ∧
    (53749 + (u 1).ft.period * 125 < 10000 + (u 1).ft.period * 1000
      ∧ 10000 + (u 1).ft.period * 1000 + (u 1).ft.period * 125 < 66251) ∧
    (10000 + (u 1).ft.period * 1000 ≤ 53750 + (u 1).ft.period * 125
      ∧ 66250 ≤ 10000 + (u 1).ft.period * 1000 + (u 1).ft.period * 125) ∧
    ((u 2).ft.run < 3 ∧ 3 ≤ (u 3).ft.run ∧ (u 3).mc.mode = .hold ∧ (u 3).nq.queue.length < 32) ∧
    ((47501 ≤ 53750 ∧ 53750 < 47501 + (u 3).ft.period * 125) ∧ ¬ 66250 < 47501 + (u 3).ft.period * 125) ∧
    (let v := running (u 3)
     v.mc.mode = .run ∧ (openFrames 7 0 v).ring.length < 8 ∧ (after (.syncEdge 66250) v).ring.map (·.number) = [1] ∧
       (after (.syncEdge 53750) (openFrames 8 0 v)).ring = (openFrames 8 0 v).ring) := by decide +kernel

theorem wit_FrameStartInRunOpensAndTests :
    (let s := openFrames 7 65530 (running feeder)
     noneHeld s = true ∧ s.mc.mode = .run ∧ s.ft.expected = some 50000 ∧ s.ft.state ≠ .locked ∧ s.ring.length < 8
       ∧ s.pass = none) ∧
    (passing .two (running feeder)).pass.isSome = true ∧
    (let s := running feeder
     s.pass = none ∧ s.ring = [] ∧ ((s.ring ++ [(⟨1, [0, 1, 2, 3], [], .opened⟩ : Machine.Frame)]).map
       (testFrame { s with ft := { s.ft with frame := 1 } })).map (·.cond) = [.opened]) ∧
    (let s := openFrames 1 65530 (running feeder)
     s.pass = none ∧ ((s.ring ++ [(⟨1, [0, 1, 2, 3], [], .opened⟩ : Machine.Frame)]).map
       (testFrame { s with ft := { s.ft with frame := 1 } })).map (·.cond) = [.closable, .opened]) ∧
    (⟨7, [0, 1], [], .opened⟩ : Machine.Frame).cond = .opened := by decide +kernel

/-- The four events at both ends of their windows, T being 6250, with 30 and 31 notices queued; an abandoned pass. -/
theorem wit_FullRingDropsOldest :
    let s : State := { openFrames 8 1 (running feeder) with nq := { queue := full.take 30, seq := 65535, tail := 1 } }
    let u : State := { s with ft := { s.ft with prevEdge := some 10000, run := 3, lastInternal := some 47500 } }
    (noneHeld s = true ∧ s.mc.mode = .run ∧ s.ring.length = 8 ∧ s.nq.queue.length + 1 + 1 ≤ 32 ∧ s.ft.expected = some 50000) ∧
    (s.ft.state ≠ .locked ∧ (inState .locked s).ft.state = .locked) ∧
    (s.now ≤ 43750 ∧ 50000 ≤ 43750 + s.ft.period * 125 ∧ 56250 ≤ 50000 + s.ft.period * 125) ∧
    (noneHeld u = true ∧ u.ft.state = .unlocked ∧ (inState .freewheel u).ft.state = .freewheel ∧ u.ft.prevEdge = some 10000 ∧
      3 ≤ u.ft.run ∧ 10000 + u.ft.period * 1000 ≤ 53750 + u.ft.period * 125 ∧
      66250 ≤ 10000 + u.ft.period * 1000 + u.ft.period * 125 ∧ u.ft.lastInternal = some 47500 ∧ 47500 + u.ft.period * 125 ≤ 53750) ∧
    (let p : State := { passing .two s with
       ring := ⟨7, [0, 1], [], .evaluating⟩ :: (openFrames 7 8 s).ring, nq := { s.nq with queue := full.take 31 } }
     p.ring.length = 8 ∧ p.ring.head?.map (·.cond) = some .evaluating ∧ p.pass.isSome = true ∧ p.nq.queue.length + 1 + 0 ≤ 32) := by
  decide +kernel

/-- The longest payloads. -/
theorem wit_RequestPayloadsDecode :
    requestWellFormed (.report exampleEntries) = true ∧
    requestWellFormed (.setParams (List.replicate 79 ⟨1, 600⟩)) = true ∧
    requestWellFormed (.defineSegment 0 7 0 900 0 400 (List.replicate 231 1)) = true ∧
    requestWellFormed (.configTripOutputs (List.replicate 47 ⟨0, 1, 0, 0⟩)) = true ∧ requestWellFormed (.inject 3 0 0 0) = true := by
  decide +kernel

theorem wit_RequestIsItsMessage :
    requestOf (.report exampleEntries) = some (.report exampleEntries) ∧ requestWellFormed (.report exampleEntries) = true ∧
    requestOf .identify = some .identify ∧ requestWellFormed .identify = true ∧ ready State.reset = true ∧
    (let s := withRequests [.setProfile 1] (passing .two (running feeder))
     lineIdle s = true ∧ s.pass.isSome = true ∧ isDelayed (.setProfile 1) = true ∧ s.hl.requests = [.setProfile 1]) := by
  decide +kernel

def inRx (x : RxState) (s : State) : State := { s with hl := { s.hl with rx := x } }

/-- A message for station 0 and one for station 1, met in each state of the receiver, in RECEIVING with its own address and with
another. -/
theorem wit_ReceiverFollowsItsTables :
    (noneHeld hold = true ∧ (List.replicate 240 (0 : Byte)).length ≤ 240 ∧ lineRead hold = true ∧ lineIdle hold = true
      ∧ lineRead (withReplies [reply] true hold) = false) ∧
    (addressStation 0x3F = hold.hl.station ∧ addressStation 0x40 ≠ hold.hl.station ∧ 32 ≤ (addressKind 0x20).toNat
      ∧ (0 : Half) ≠ messageCheck 1 []) ∧
    (∀ b ∈ [(0x3F : Byte), 1], lineRead (inRx (.receiving b) hold) = true ∧ (inRx (.receiving b) hold).hl.rx = .receiving b) ∧
    ((inRx .skipping hold).hl.rx = .skipping ∧ lineRead (inRx .skipping hold) = true ∧ hold.hl.rx = .waitAddress) := by
  decide +kernel

theorem wit_RepliesLeaveInOrder :
    (let s := withReplies [reply] false hold
     noneHeld s = true ∧ s.hl.replies = reply :: [] ∧ s.mc.mode ≠ .start ∧ s.hl.sending = false ∧ s.hl.rx = .waitAddress
       ∧ (inRx (.receiving 1) s).hl.rx = .receiving 1 ∧ (withReplies [reply] true s).hl.sending = true ∧ reply.resetAfter = false) ∧
    (let s := withReplies [reply, { reply with kind := 34 }] true (withRequests [.identify] hold)
     s.hl.requests = [.identify] ∧ s.hl.sending = true ∧ s.hl.replies = [reply, { reply with kind := 34 }]
       ∧ s.mc.mode ≠ .start) ∧ reply.badCheck = false := by decide +kernel

theorem wit_InjectedReplyHasBadCheck :
    (ready hold = true ∧ hold.pass = none ∧ hold.mc.mode = .hold ∧ hold.hl.badCheckNext = false) ∧
    (ready (after (.inject 3 0 0 0) hold) = true ∧ (after (.inject 3 0 0 0) hold).hl.badCheckNext = true) ∧
    ({ reply with badCheck := true } : Reply).badCheck = true := by decide +kernel

def inTest (x : SelfTestPhase) : State := { State.reset with mc := { State.reset.mc with selfTest := x } }

theorem wit_SelfTestRunsAndEnds :
    (noneHeld (inTest (.running .six)) = true ∧ (inTest (.running .six)).mc.mode = .start
      ∧ (inTest (.running .six)).mc.selfTest = .running .six) ∧
    (inTest .awaitLoopback).hl.replies = [] ∧ (withReplies [reply] false (inTest .awaitLoopback)).hl.replies ≠ [] ∧
    ((inTest (.running .one)).mc.fatalStep = none ∧ (inTest (.running .one)).nq.queue.length < 32) ∧
    ({ (inTest (.running .one)).mc with fatalStep := some .six } : ModeControl).fatalStep = some .six ∧
    (∀ x ∈ [SelfTestPhase.held, .running .six, .running .five, .awaitLoopback, .running .four, .running .three, .running .two,
      .running .one], (inTest x).mc.selfTest = x) ∧
    ((running hold).inhibitPin = false ∧ (running hold).mc.inhibitFlag = false ∧ inhibited.inhibitPin = true) := by decide +kernel

theorem wit_FailedIsLeftOnlyByHardReset :
    failed.mc.mode = .failed ∧ noResetPending failed = true ∧ exec .getCounts failed = .next (after .getCounts failed) :=
  ⟨by decide +kernel, by decide +kernel, rfl⟩

/-- The last slot and the highest address, and each refusal. -/
theorem wit_DefineSensorPlacesRecord :
    (ready feeder = true ∧ feeder.pass = none ∧ inService feeder = true ∧ clean feeder = true) ∧
    fieldFault (.defineSensor 47 0xFFFFFE 7 7) = none ∧
    ({ feeder with tm := { feeder.tm with bankMap := 0x7F } } : State).tm.bankMap.getLsbD (47 / 6) = false ∧
    feeder.tm.bankMap.getLsbD (47 / 6) = true ∧ rowAt feeder.sensors 0 ≠ none ∧ rowAt feeder.sensors 47 = none ∧
    rowAt feeder.index (101 : FieldAddress).toNat ≠ none ∧ rowAt feeder.index (0xFFFFFE : FieldAddress).toNat = none := by
  decide +kernel

theorem wit_RetireSensorFreesSlot :
    (ready feeder = true ∧ feeder.pass = none ∧ inService feeder = true ∧ clean feeder = true ∧ (47 : Byte).toNat < 48
      ∧ rowAt feeder.sensors 47 = none) ∧
    (let s := setSeg 39 (segment 3 []) feeder
     rowAt s.sensors 3 ≠ none ∧ segmentAt s 39 = some (segment 3 []) ∧ 3 ∈ (segment 3 []).up :: (segment 3 []).down
       ∧ ∀ m < 39, ∀ r ∈ segmentAt s m, 3 ∉ r.up :: r.down) ∧
    (let s := setInt 15 (interrupter .remote 3) feeder
     rowAt s.sensors 3 ≠ none ∧ (∀ m < 40, ∀ r ∈ segmentAt s m, 3 ∉ r.up :: r.down)
       ∧ (interrupterAt s 15).map (·.boundary) = some 3 ∧ ∀ y < 15, ∀ r ∈ interrupterAt s y, r.boundary ≠ 3) ∧
    (rowAt feeder.sensors 3 ≠ none ∧ tableWf feeder.index = true ∧ (∀ m < 40, ∀ r ∈ segmentAt feeder m, 3 ∉ r.up :: r.down) ∧
      ∀ y < 16, ∀ r ∈ interrupterAt feeder y, r.boundary ≠ 3) := by decide +kernel

/-- The last slot, number and id: empty, holding a record, and lost. -/
theorem wit_QueriesReadAndChangeNothing :
    let s := passing .two (running feeder)
    (ready s = true ∧ inService s = true ∧ clean s = true ∧ (47 : Byte).toNat < 48 ∧ (39 : Byte).toNat < 40 ∧ (15 : Byte).toNat < 16) ∧
    (rowAt s.sensors 47 = none ∧ (sensorAt s 0).isSome = true ∧ rowAt (lostSensor 47 s).sensors 47 = some .quarantined) ∧
    (rowAt s.segments 39 = none ∧ (segmentAt s 0).isSome = true ∧ rowAt (lostSegment 39 s).segments 39 = some .quarantined) ∧
    (rowAt s.interrupters 15 = none ∧ (interrupterAt s 0).isSome = true
      ∧ rowAt (lostInterrupter 15 s).interrupters 15 = some .tableError) ∧
    (clean (lostSensor 47 s) = true ∧ clean (lostSegment 39 s) = true ∧ clean (lostInterrupter 15 s) = true) := by decide +kernel

/-- The ends of the field ranges, and each refusal; sensors 2 and 3 are named by no segment. -/
theorem wit_DefineSegmentRefusedByTablesAndTree :
    (ready feeder = true ∧ feeder.pass = none ∧ inService feeder = true ∧ clean feeder = true) ∧
    (fieldFault (.defineSegment 39 7 2 200 1 100 [3]) = none ∧ fieldFault (.defineSegment 39 7 47 3000 0 65535 []) = none) ∧
    (({ feeder with tm := { feeder.tm with bankMap := 0x7F } } : State).tm.bankMap.getLsbD (39 / 5) = false
      ∧ feeder.tm.bankMap.getLsbD (39 / 5) = true) ∧
    ((∀ y ∈ [(2 : Byte)], rowAt feeder.sensors y.toNat ≠ none) ∧ rowAt feeder.sensors (47 : Byte).toNat = none) ∧
    ((∀ y ∈ [(2 : Byte), 3], rowAt (lostSensor 3 feeder).sensors y.toNat ≠ none)
      ∧ (∀ y ∈ [(2 : Byte)], rowAt (lostSensor 3 feeder).sensors y.toNat ≠ some .quarantined)
      ∧ rowAt (lostSensor 3 feeder).sensors (3 : Byte).toNat = some .quarantined) ∧
    ((∀ y ∈ [(2 : Byte), 3], (sensorAt everyState y.toNat).isSome = true)
      ∧ (segmentAt everyState 0).map (·.state) = some .suspect ∧ (segmentAt everyState 39).map (·.state) = some .isolationFailed) ∧
    ((∀ y ∈ [(0 : Byte), 1, 2, 3], (sensorAt feeder y.toNat).isSome = true) ∧ segmentAt feeder 39 = none
      ∧ (segmentAt feeder 0).map (fun q => (q.up, q.down)) = some (0, [1])) := by decide +kernel

/-- The checks of the tree; sensors and segments as above. -/
theorem wit_DefineSegmentRefusedByTablesAndTree_tree :
    -- SELF_LIST; SENSOR_SHARED for the upstream sensor, and for the second downstream sensor.
    (fieldFault (.defineSegment 39 7 2 900 0 400 [2]) = none ∧ fieldFault (.defineSegment 39 7 0 900 0 400 []) = none ∧
      fieldFault (.defineSegment 39 7 2 900 0 400 [3, 1]) = none ∧ (∀ m < 39, ∀ p ∈ segmentAt feeder m, p.up ≠ 2 ∧ 3 ∉ p.down)
      ∧ ∀ m < 39, ∀ p ∈ segmentAt feeder m, (p.up = 0 → 0 ≤ m) ∧ (1 ∈ p.down → 0 ≤ m)) ∧
    -- CYCLE through one segment.
    (let s := onlySegments [(0, segment 0 [1])] feeder
     fieldFault (.defineSegment 39 7 1 900 0 400 [0]) = none ∧ (∀ m < 39, ∀ p ∈ segmentAt s m, p.up ≠ 1 ∧ 0 ∉ p.down) ∧
       ∀ m < 39, ∀ p ∈ segmentAt s m, m ≠ 0 → p.up ≠ 0 ∧ 1 ∉ p.down) ∧
    -- PHASE for a boundary sensor.
    (let s := setSensor 3 { sensor 104 7 with phases := ⟨true, false, true⟩ } feeder
     fieldFault (.defineSegment 39 2 2 900 0 400 [3]) = none ∧ (sensorAt s 3).map (·.phases) = some ⟨true, false, true⟩ ∧
       perPhase (phasesOfByte 2) .b = true ∧ (sensorAt s 2).map (·.phases) = some threePhases) ∧
    -- PHASE for the parent, and for a child.
    (let s := onlySegments [(0, { segment 0 [1] with phases := ⟨true, false, true⟩ })] feeder
     fieldFault (.defineSegment 39 2 1 900 0 400 []) = none ∧ (∀ m < 39, ∀ p ∈ segmentAt s m, p.up ≠ 1)) ∧
    (let s := onlySegments [(1, segment 1 [])] feeder
     fieldFault (.defineSegment 39 2 0 900 0 400 [2, 1]) = none ∧ (∀ m < 39, ∀ p ∈ segmentAt s m, p.up ≠ 0 ∧ p.down = []) ∧
       (∀ m < 39, ∀ p ∈ segmentAt s m, p.up ≠ 2)) := by
  refine ⟨?_, ?_, ?_, ?_, ?_⟩ <;> decide +kernel

/-- A path of two segments down to the upstream sensor, none from the sensor before it; a child below which no path goes. -/
theorem wit_DefineSegmentRefusedByTablesAndTree_paths :
    (let s := onlySegments [(0, segment 0 [1]), (1, segment 1 [2])] feeder
     sharesNoSensor s ∧ fieldFault (.defineSegment 39 7 2 900 0 400 [3, 0]) = none ∧ (∀ way, ¬ leadsDown s 39 2 3 way) ∧
       leadsDown s 39 2 0 [0, 1] ∧ [0, 1].getLast? = some 1 ∧ ∀ m < 39, ∀ p ∈ segmentAt s m, p.up ≠ 2 ∧ 3 ∉ p.down ∧ 0 ∉ p.down) ∧
    (let s := onlySegments [(1, segment 1 [])] feeder
     sharesNoSensor s ∧ ∀ d ∈ [2, 1], ∀ way, ¬ leadsDown s 39 0 d way) := by
  refine ⟨⟨shares_of (by decide +kernel), by decide +kernel, no_way (by decide +kernel), ⟨by decide, by decide, segment 0 [1], rfl, rfl,
    .inr ⟨1, by decide, by decide, by decide, segment 1 [2], rfl, rfl, .inl ⟨rfl, by decide⟩⟩⟩, rfl, by decide +kernel⟩,
    shares_of (by decide +kernel), fun d _ => no_way fun g hg q hq _ => ?_⟩
  exact (by decide +kernel : ∀ g < 40, ∀ q ∈ segmentAt (onlySegments [(1, segment 1 [])] feeder) g, q.down = []) g hg q hq

/-- A leaf, a segment below another, and a redefinition of one DEENERGIZED, a STALE boundary sensor among them. -/
theorem wit_DefineSegmentWritesRecord :
    (let s := setSensor 3 { sensor 104 7 with status := .stale } feeder
     ready s = true ∧ s.pass = none ∧ inService s = true ∧ clean s = true ∧ fieldFault (.defineSegment 39 7 2 200 1 100 [3]) = none
       ∧ s.tm.bankMap.getLsbD (39 / 5) = true ∧ (∀ d ∈ [2, 3], (sensorAt s d).isSome = true) ∧ segmentAt s 39 = none
       ∧ topologyFault s 39 threePhases 2 [3] = none) ∧
    (let s := setSeg 1 { segment 1 [] with state := .deenergized } feeder
     fieldFault (.defineSegment 1 7 1 3000 0 65535 []) = none ∧ (∀ d ∈ [1], (sensorAt s d).isSome = true)
       ∧ (∀ r ∈ segmentAt s 1, r.state ∈ [SegState.normal, .deenergized, .settling])
       ∧ topologyFault s 1 threePhases 1 [] = none) := by decide +kernel

/-- Taken at once, and taken from the request buffer as a reply leaves. -/
theorem wit_EveryCommandKeepsSensorLaw :
    let c := Instr.defineSegment 39 7 2 900 0 400 [3]
    let u := withReplies [reply] true (withRequests [.defineSegment 39 7 2 900 0 400 [3], .getCounts] feeder)
    (clean feeder = true ∧ buffersBounded feeder = true ∧ sharesNoSensor feeder ∧ exec c feeder = .next (after c feeder)
      ∧ (segmentAt (after c feeder) 39).isSome = true) ∧
    (clean u = true ∧ buffersBounded u = true ∧ sharesNoSensor u ∧ exec .replySent u = .next (after .replySent u)
      ∧ (segmentAt (after .replySent u) 39).isSome = true) := by
  refine ⟨⟨?_, ?_, ?_, ?_, ?_⟩, ?_, ?_, ?_, ?_, ?_⟩
  all_goals first
    | decide +kernel
    | exact next_of (by decide +kernel)
    | exact shares_of (by decide +kernel)

theorem wit_RemovalsFreeNumbers :
    (ready feeder = true ∧ feeder.pass = none ∧ inService feeder = true ∧ clean feeder = true) ∧
    (rowAt feeder.segments (39 : Byte).toNat = none ∧ rowAt (lostSegment 39 feeder).segments 39 = some .quarantined
      ∧ (segmentAt everyState 39).map (·.state) = some .isolationFailed ∧ (segmentAt everyState 2).map (·.state) = some .settling) ∧
    (rowAt feeder.interrupters (15 : Byte).toNat = none ∧ rowAt (lostInterrupter 15 feeder).interrupters 15 = some .tableError
      ∧ (interrupterAt (setInt 15 (tripping .remote 2 []) feeder) 15).map (·.state) = some .tripping
      ∧ (interrupterAt feeder 0).map (·.state) = some .closed) := by decide +kernel

theorem wit_ReleaseSegmentEndsVerdict :
    (ready everyState = true ∧ everyState.pass = none ∧ inService everyState = true ∧ clean everyState = true) ∧
    rowAt everyState.segments (38 : Byte).toNat = none ∧ rowAt (lostSegment 39 feeder).segments 39 = some .quarantined ∧
    (segmentAt everyState 4).map (·.state) = some .isolating ∧ (segmentAt everyState 5).map (·.state) = some .isolated ∧
    (segmentAt everyState 39).map (·.state) = some .isolationFailed := by decide +kernel

theorem wit_RestoreSegmentEmptiesExcludedSet :
    (let s := setSensor 1 { sensor 102 2 with status := .stale } (setSeg 0 { segment 0 [1] with excluded := [0, 1] } feeder)
     ready s = true ∧ s.pass = none ∧ inService s = true ∧ clean s = true ∧ (0 : Byte).toNat < 40 ∧
     rowAt s.segments 0 = some (.live { segment 0 [1] with excluded := [0, 1] }) ∧ [0, 1] = [0] ++ 1 :: [] ∧
     (sensorAt s 1).map (·.status) = some .stale ∧ (sensorAt s 0).map (·.status) = some .active) ∧
    (rowAt feeder.segments (39 : Byte).toNat = none ∧ rowAt (lostSegment 39 feeder).segments 39 = some .quarantined) ∧
    ∀ d ∈ [0, 1], (sensorAt (setSeg 0 { segment 0 [1] with excluded := [0, 1] } feeder) d).map (·.status) = some .active := by
  decide +kernel

theorem wit_DefineInterrupterPlacesRecord :
    (ready feeder = true ∧ feeder.pass = none ∧ inService feeder = true ∧ clean feeder = true) ∧
    (fieldFault (.defineInterrupter 15 0 3 2 100) = none ∧ fieldFault (.defineInterrupter 15 1 0 47 5000) = none) ∧
    (rowAt feeder.interrupters 0 ≠ none ∧ rowAt feeder.interrupters 15 = none ∧ rowAt feeder.sensors 47 = none
      ∧ rowAt (lostSensor 47 feeder).sensors 47 = some .quarantined ∧ (sensorAt feeder 2).isSome = true) ∧
    (fieldFault (.defineInterrupter 15 1 0 1 5000) = none ∧ (interrupterAt feeder 1).map (·.boundary) = some 1
      ∧ ∀ z < 1, ∀ p ∈ interrupterAt feeder z, p.boundary ≠ 1) ∧
    (∀ y < 16, ∀ q ∈ interrupterAt feeder y, q.boundary ≠ 2) ∧
    ((failChannel 3 feeder).channels.get 3).failed = true ∧
    (fieldFault (.defineInterrupter 15 0 0 2 100) = none ∧ (feeder.channels.get 0).failed = false
      ∧ (interrupterAt feeder 0).map (·.kind) = some (.loc 0)) ∧
    ∀ y < 16, ∀ q ∈ interrupterAt feeder y, q.kind ≠ .loc 3 := by decide +kernel

theorem wit_ArmingAndAcknowledgement :
    let s := setInt 15 (tripping .remote 2 []) (setInt 14 { tripping .remote 3 [] with state := .opened } (passing .two (running feeder)))
    (ready s = true ∧ inService s = true ∧ clean s = true ∧ (15 : Byte).toNat < 16) ∧
    rowAt s.interrupters 13 = none ∧ rowAt (lostInterrupter 13 s).interrupters 13 = some .tableError ∧
    (interrupterAt s 0).map (·.outstanding) = some false ∧
    (interrupterAt s 15).map (fun r => (r.outstanding, r.state)) = some (true, .tripping) ∧
    (interrupterAt s 14).map (fun r => (r.outstanding, r.state)) = some (true, .opened) := by decide +kernel

/-- An id with no record, one with TABLE_ERROR, an interrupter in each state; FAILED of a TRIPPING one that no segment waits on, and
of one with two waiters outside RUN. -/
theorem wit_PositionReportsAreApplied :
    let s (st : IntState) := setInt 15 { interrupter .remote 2 with state := st } feeder
    (∀ st ∈ [IntState.unknown, .closed, .tripping, .opened, .failed], ready (s st) = true ∧ inService (s st) = true
      ∧ clean (s st) = true ∧ (interrupterAt (s st) 15).map (·.state) = some st ∧ (s st).nq.queue.length < 32)
    ∧ (15 : Byte).toNat < 16 ∧ (2 : Byte).toNat ≤ 2 ∧ rowAt feeder.interrupters 15 = none ∧
    (let u := lostInterrupter 15 feeder
     ready u = true ∧ inService u = true ∧ clean u = true ∧ rowAt u.interrupters 15 = some .tableError) ∧
    (tripping .remote 0 []).waiters = [] ∧
    (let u := setSeg 1 (waiting 1 [] 15) (setSeg 0 (waiting 0 [1] 15) (setInt 15 (tripping .remote 0 [1, 0]) feeder))
     ready u = true ∧ inService u = true ∧ clean u = true ∧ rowAt u.interrupters 15 = some (.live (tripping .remote 0 [1, 0])) ∧
       u.mc.mode ≠ .run ∧ [1, 0].Nodup ∧ u.nq.queue.length + 2 ≤ 32 ∧ (∀ n ∈ [1, 0], n < 40 ∧ (segmentAt u n).isSome = true) ∧
       (waiting 1 [] 15).verdict.map (·.chain) = some ([] ++ [⟨15, .tripped⟩])) := by decide +kernel

theorem wit_OpenReportIsolatesWaiters :
    let s := setSeg 1 (waiting 1 [] 15) (setSeg 0 (waiting 0 [1] 15) (setInt 15 (tripping .remote 0 [1, 0]) (running feeder)))
    ready s = true ∧ inService s = true ∧ clean s = true ∧ (15 : Byte).toNat < 16 ∧
    rowAt s.interrupters 15 = some (.live (tripping .remote 0 [1, 0])) ∧ (tripping .remote 0 [1, 0]).state = .tripping ∧
    (tripping .remote 0 [1, 0]).waiters.Nodup ∧ (∀ n ∈ (tripping .remote 0 [1, 0]).waiters, n < 40) ∧ s.nq.queue.length < 32 ∧
    (waiting 1 [] 15).verdict.map (·.chain) = some ([] ++ [⟨15, .tripped⟩]) := by decide +kernel

/-- One entry and six. -/
theorem wit_ReportAnswersEveryEntry :
    ready (running feeder) = true ∧ (running feeder).mc.mode = .run ∧ fieldFault (.report [entry 101 0 1000]) = none ∧
    fieldFault (.report (List.replicate 6 (entry 101 0 1000))) = none := by decide +kernel

/-- The current frame is 501: one ahead, one never opened, one held; slot 2 expected, slot 4 without phase A. -/
theorem wit_EntriesAreJudgedInOrder :
    clean twoFrames = true ∧ frameDiff twoFrames.ft.frame 502 < 0 ∧ 0 ≤ frameDiff twoFrames.ft.frame 499 ∧
    (∀ f ∈ twoFrames.ring, f.number = 499 → f.cond = .evaluating) ∧ 0 ≤ frameDiff twoFrames.ft.frame 500 ∧
    (twoFrames.ring.head?.map fun f => (f.number, f.cond)) = some (500, .opened) ∧
    rowAt twoFrames.index (7 : FieldAddress).toNat = none ∧ rowAt twoFrames.index (100001 : FieldAddress).toNat = some 0 ∧
    (sensorAt twoFrames 0).isSome = true ∧ (twoFrames.ring.head?.map fun f => (rowAt f.reports 0).isSome) = some true ∧
    rowAt twoFrames.index (100005 : FieldAddress).toNat = some 4 ∧ (sensorAt twoFrames 4).map (perPhase ·.phases .b) = some true ∧
    perPhase (phasesOfByte 1) .b = false ∧ (4 ∈ [0, 1, 2, 3, 4] ∧ (twoFrames.ring.head?.map (·.expected)) = some [0, 1, 2, 3, 4]) ∧
    (let s : State := { twoFrames with ring := [⟨500, [0], [], .opened⟩] }
     clean s = true ∧ 4 ∉ [0] ∧ (s.ring.head?.map (·.expected)) = some [0]) := by decide +kernel

/-- The newer of two frames; a valid entry above 2047, and an invalid one; the oldest frame, complete with the entry. -/
theorem wit_StoredEntriesKeepTheirValues :
    (clean twoFrames = true ∧ 0 ≤ frameDiff twoFrames.ft.frame 501 ∧
      (twoFrames.ring.map fun f => (f.number, f.cond, f.expected)) =
        [(500, .opened, [0, 1, 2, 3, 4]), (501, .opened, [0, 1, 2, 3, 4])] ∧
      rowAt twoFrames.index (entry 100004 501 2048).address.toNat = some 3 ∧ (sensorAt twoFrames 3).isSome = true ∧
      twoFrames.ring[1]?.map (fun f => rowAt f.reports 3) = some none ∧ phaseSubset threePhases (phasesOfByte 7) = true ∧
      entryValue (entry 100004 501 2048) .a = some ⟨2048, 10, 0⟩ ∧
      ({ entry 100004 501 2048 with quality := 1 } : ReportEntry).quality ≠ 0) ∧
    (let s : State := { twoFrames with ring := [⟨500, [3], [], .opened⟩, ⟨501, [3], [], .opened⟩] }
     clean s = true ∧ s.pass = none ∧ 0 ≤ frameDiff s.ft.frame 500 ∧ rowAt s.index (entry 100004 500 1000).address.toNat = some 3 ∧
       (testFrame s ⟨500, [3], [(3, .invalid)], .opened⟩).cond = .closable ∧
       ((judgeEntry { entry 100004 500 1000 with quality := 1 } s).1.ring.map (·.cond)) = [.evaluating, .opened]) := by decide +kernel

theorem wit_FullQueueDisplacesByClass :
    pressed.nq.queue.length = 32 ∧
    (pressed.nq.queue.head?.map fun x => noticeClass x.body) = some .maint ∧
    noticeClass (.reenergized 2 3) = .state ∧ noticeClass (.isolationFailed 2 .brokenConductor 0) = .trip ∧
    noticeClass (.baselineReady 0 0) = .maint ∧
    (let q : List Notice := (List.range 31).map fun i => ⟨BitVec.ofNat 16 i, 0, .isolationFailed 1 .brokenConductor 0⟩
     let s : State := { feeder with nq := { queue := q ++ [⟨31, 0, .reenergized 1 2⟩], seq := 32, tail := 0 } }
     s.nq.queue.length = 32 ∧ (∀ y ∈ q, noticeClass y.body = .trip) ∧ ∀ y ∈ s.nq.queue, noticeClass y.body ≠ .maint) := by
  decide +kernel

theorem wit_FetchAndAttnFollowUrgency :
    (ready pressed = true ∧ inService pressed = true ∧ 1 ≤ (1 : Byte).toNat ∧ (8 : Byte).toNat ≤ 8) ∧
    attn pressed = true ∧ attn hold = false ∧ urgency pressed = true ∧ urgency feeder = false := by decide +kernel

theorem wit_GetCountsTakesSnapshot :
    (ready State.reset = true ∧ State.reset.mc.mode = .start) ∧ (ready counted = true ∧ counted.mc.mode = .hold) ∧
    ({ counted.cb with token := 255 } : CountBank).token = 255 := by decide +kernel

theorem wit_ClearCountsSubtractsSnapshot :
    (ready failed = true ∧ failed.mc.mode = .failed) ∧ (ready hold = true ∧ hold.mc.mode = .hold ∧ hold.cb.snapshot = none) ∧
    (ready counted = true ∧ counted.cb.snapshot.map (·.token) = some 7) := by decide +kernel

theorem wit_InjectInvertsStoredBits :
    (ready feeder = true ∧ feeder.pass = none ∧ feeder.mc.mode = .hold ∧ (31 : Byte).toNat ≤ 31) ∧
    (rowAt feeder.sensors (47 : Byte).toNat = none ∧ (sensorAt feeder 3).isSome = true
      ∧ rowAt (lostSensor 47 feeder).sensors 47 = some .quarantined) ∧
    (rowAt feeder.segments (39 : Byte).toNat = none ∧ (segmentAt feeder 1).isSome = true
      ∧ rowAt (lostSegment 39 feeder).segments 39 = some .quarantined) ∧
    (rowAt feeder.interrupters (15 : Byte).toNat = none ∧ (interrupterAt feeder 1).isSome = true
      ∧ rowAt (lostInterrupter 15 feeder).interrupters 15 = some .tableError) ∧ 0 < 32 ∧ 31 < 32 ∧ (0 : Nat) ≠ 31 := by decide +kernel

/-- One inverted bit in a record of each table; two in a sensor's that segments 0 and 1 name, in a segment's, in that of an
interrupter CLOSED, TRIPPING with no waiter and TRIPPING with two segments waiting, outside RUN. -/
theorem wit_ReadsCorrectOrQuarantine :
    ((sensorAt (setSensor 47 { sensor 104 7 with err := 0x80000000 } feeder) 47).map (fun r => invertedBits r.err) = some 1 ∧
      (segmentAt (setSeg 39 { segment 1 [] with err := 1 } feeder) 39).map (fun r => invertedBits r.err) = some 1 ∧
      (interrupterAt (setInt 15 { interrupter .remote 2 with err := 1 } feeder) 15).map (fun r => invertedBits r.err) = some 1) ∧
    (let s := setSensor 1 { sensor 102 2 with err := 0xC0000000 } feeder
     (sensorAt s 1).map (fun r => invertedBits r.err) = some 2 ∧ (∀ k < 40, ∀ q ∈ segmentAt s k, q.err = 0) ∧
       [0, 1].Pairwise (· < ·) ∧ (∀ k < 40, k ∈ [0, 1] ↔ ((segmentAt s k).any fun q => decide (1 ∈ q.up :: q.down ∧ 1 ∉ q.excluded)) = true) ∧
       s.nq.queue.length + 1 + 2 ≤ 32) ∧
    (let s := setSeg 39 { segment 1 [] with err := 3 } feeder
     (segmentAt s 39).map (fun r => invertedBits r.err) = some 2 ∧ s.nq.queue.length < 32) ∧
    (let s := setInt 15 { interrupter .remote 2 with err := 3 } feeder
     (interrupterAt s 15).map (fun r => (invertedBits r.err, r.state)) = some (2, .closed)) ∧
    (let s := setSeg 1 (waiting 1 [] 15) (setSeg 0 (waiting 0 [1] 15) (setInt 15 { tripping .remote 0 [1, 0] with err := 3 } feeder))
     (interrupterAt s 15).map (fun r => (invertedBits r.err, r.state)) = some (2, .tripping) ∧ s.mc.mode ≠ .run ∧
       (∀ k < 40, ∀ q ∈ segmentAt s k, q.err = 0) ∧ (∀ k < 40, k ∈ [0, 1] ↔ ((segmentAt s k).any fun q => q.state == .isolating &&
         q.verdict.any fun v => v.chain.getLast?.any fun e => decide (e.id = 15 ∧ (e.outcome = .tripped ∨ e.outcome = .joined))) = true) ∧
       s.nq.queue.length + 1 + max 1 2 ≤ 32) ∧
    (∀ k < 40, ∀ q ∈ segmentAt feeder k, q.state ≠ .isolating) := by decide +kernel

/-- The same records queried, and a REPORT that names the sensor's address while its frame stands in the ring. -/
theorem wit_ReadsCorrectOrQuarantine_commands :
    let one := setSensor 47 { sensor 105 7 with err := 0x80000000 } (setSeg 39 { segment 3 [] with err := 1 }
      (setInt 15 { interrupter .remote 2 with err := 1 } feeder))
    let two := setSensor 47 { sensor 105 7 with err := 0xC0000000 } (setInt 15 { tripping .remote 2 [] with err := 3 } feeder)
    let lostSeg := setSeg 39 { suspect with up := 3, err := 3 } feeder
    let reported := setSensor 1 { sensor 102 2 with err := 3 } (openFrames 1 0 (running feeder))
    (ready one = true ∧ inService one = true ∧ (∀ k < 40, k ≠ 39 → ∀ q ∈ segmentAt one k, q.err = 0) ∧
      (∀ d ∈ [3], ∀ q ∈ sensorAt one d, q.err = 0) ∧ (segmentAt one 39).map (fun q => (invertedBits q.err, q.up :: q.down)) = some (1, [3]) ∧
      (interrupterAt one 15).map (fun q => invertedBits q.err) = some 1) ∧
    (let clear := setSensor 47 { sensor 105 7 with err := 0x80000000 } feeder
     ready clear = true ∧ (sensorAt clear (47 : Byte).toNat).map (fun q => invertedBits q.err) = some 1 ∧
       ∀ k < 40, ∀ q ∈ segmentAt clear k, q.err = 0) ∧
    (ready two = true ∧ inService two = true ∧ (∀ k < 40, ∀ q ∈ segmentAt two k, q.err = 0) ∧
      (sensorAt two 47).map (fun q => invertedBits q.err) = some 2 ∧ (interrupterAt two 15).map (fun q => invertedBits q.err) = some 2) ∧
    (ready lostSeg = true ∧ inService lostSeg = true ∧ (segmentAt lostSeg 39).map (fun q => invertedBits q.err) = some 2 ∧
      (urgencySource lostSeg && !urgencySource (readSegment 39 lostSeg)) = true) ∧
    (let e : ReportEntry := ⟨102, 0, 0, 0, [], 0⟩
     ready reported = true ∧ reported.mc.mode = .run ∧ fieldFault (.report [e]) = none ∧ 0 ≤ frameDiff reported.ft.frame e.frame ∧
       (∃ f ∈ reported.ring, f.number = e.frame ∧ f.cond ≠ .evaluating) ∧ rowAt reported.index e.address.toNat = some 1 ∧
       (sensorAt reported 1).map (fun q => invertedBits q.err) = some 2) := by decide +kernel

/-- Sensors of the pass: one silent for the fortieth time, one STALE with a valid report, one silent for the 39th. -/
def silent : State :=
  let s := onlySensors [(12, { seeded 1 35 with missingRun := 39 }), (13, { seeded 2 12 with status := .stale, learn := 0 }),
    (20, { seeded 3 9 with missingRun := 38 })] (brokenPhase .one)
  { s with ring := [⟨1200, [12, 13, 20], [(13, threePhase 1003 598 1010 13)], .evaluating⟩] }

theorem wit_PassStage1AccountsForReports :
    noneHeld silent = true ∧ clean silent = true ∧ (silent.pass.map (·.stage)) = some .one ∧ (evaluated silent).isSome = true ∧
    [12, 13, 20].Nodup ∧ (evaluated silent).map (·.expected) = some [12, 13, 20] ∧
    (validReport silent 12 = none ∧ (sensorAt silent 12).map (fun r => (r.status, r.missingRun + 1)) = some (.active, silent.params.staleLimit)
      ∧ (segmentAt silent 7).map (fun g => (g.up, g.excluded)) = some (12, [])) ∧
    ((validReport silent 13).isSome = true ∧ (sensorAt silent 13).map (·.status) = some .stale) ∧
    (validReport silent 20 = none ∧ (sensorAt silent 20).map (·.missingRun) = some 38) ∧
    (segmentAt (after .passStage1 silent) 7).map (·.excluded) = some [12] ∧
    -- With sensor 20 silent for the fortieth time too, segment 7 is BLIND by sensor 12 and then DEGRADED by sensor 20.
    (let s := setSensor 20 { seeded 3 9 with missingRun := 39 } silent
     clean s = true ∧ (after .passStage1 s).pass.map (·.sensorNotices) = some [.sensorStale 12 40 1,
       .segmentBlind 7 12 .normal true false, .sensorResumed 13 0 [], .sensorStale 20 40 1,
       .segmentDegraded 7 20 .normal true true]) := by decide +kernel

/-- A SUSPECT segment with one phase lost, one that a surge precedes, one operated phase live again; a leaf that loses its load; a
BLIND segment. -/
theorem wit_PassStage2MovesCounts :
    (let s := brokenPhase .two
     noneHeld s = true ∧ clean s = true ∧ (s.pass.map (·.stage)) = some .two ∧ (segmentAt s 7).map (·.state) = some .normal
       ∧ (segmentAt s 7).map (·.excluded) = some [] ∧ increment s 12 = some 3) ∧
    (let s := setSeg 39 { segment 40 [] with excluded := [40] } (setSeg 7 { segment 12 [13, 20] with
       state := .suspect, suspect := some details, deadline := some 90000, operated := ⟨true, false, false⟩ } (brokenPhase .two))
     clean s = true ∧ (segmentAt s 7).map (·.state) = some .suspect ∧ (segmentAt s 39).map (fun r => decide (r.up ∈ r.excluded)) = some true
       ∧ increment s 40 = none ∧ (segmentAt (after .passStage2 s) 7).map (fun g => (g.openCount, g.operated, g.deadline))
         = some (1, noPhases, some 90000)) ∧
    (let s := setSensor 12 { seeded 1 35 with surge := ⟨none, some 1197, none⟩ } (brokenPhase .two)
     clean s = true ∧ frameDiff 1200 1197 = 3 ∧
       (segmentAt (after .passStage2 s) 7).map (fun g => (g.openCount, g.operated)) = some (0, ⟨false, true, false⟩)) ∧
    (let s : State := { setSeg 9 { segment 20 [] with state := .suspect, suspect := some details } (brokenPhase .two) with
       ring := [⟨1200, [20], [(20, .valid ⟨⟨some ⟨1000, 5, false⟩, some ⟨1000, 6, false⟩, none⟩, 9⟩)], .evaluating⟩] }
     clean s = true ∧ (segmentAt (after .passStage2 s) 9).map (fun g => (g.openCount, g.suspect.map fun d => (d.loadLoss, d.openPhases)))
       = some (1, some (true, ⟨true, true, false⟩))) := by decide +kernel

/-- Segment 7 before stage 3 in several states; `deadUp` shows every phase COLLAPSED at its upstream sensor. -/
def atThree (r : SegRec) : State := setSeg 7 { r with up := 12, down := [13, 20] } brokenAtThree

def deadUp (r : SegRec) : State :=
  { atThree r with ring := [⟨1200, [12, 13, 20], [(12, threePhase 3 4 5 38)], .evaluating⟩] }

theorem wit_PassStage3MovesStates :
    (∀ r ∈ [segment 12 [], suspect, { suspect with openCount := 3 }, waiting 12 [] 0, { segment 12 [] with state := .deenergized },
        { segment 12 [] with state := .settling, settle := 1 }],
      noneHeld (atThree r) = true ∧ clean (atThree r) = true ∧ ((atThree r).pass.map (·.stage)) = some .three
        ∧ allCollapsedAt (atThree r) 12 threePhases = false ∧ allCollapsedAt (deadUp r) 12 threePhases = true) ∧
    (brokenAtThree.pass.map fun p => ((workOf p 7).openResult, (workOf p 7).contactResult)) = some (.present, .absent) ∧
    (segmentAt brokenAtThree 7).map (fun r => (r.state, r.openCount)) = some (.normal, 1) ∧
    -- Confirmed by the open count; SUSPECT still, its open test PRESENT; cleared.
    ((after .passStage3 (atThree { suspect with openCount := 3 })).pass.map (rowAt ·.confirmed 7)) = some (some .brokenConductor) ∧
    ((after .passStage3 (atThree suspect)).pass.map (rowAt ·.confirmed 7) = some none ∧
      segmentAt (after .passStage3 (atThree suspect)) 7 = segmentAt (atThree suspect) 7) ∧
    (let s := setSeg 7 { suspect with up := 12, down := [13, 20], openCount := 0 } brokenAtThree
     (s.pass.map fun p => (workOf p 7).contactResult) = some .absent ∧ (after .passStage3 s).pass.map (rowAt ·.confirmed 7) = some none
       ∧ (segmentAt (after .passStage3 s) 7).map (·.state) = some .normal) ∧
    (liveAt (atThree suspect) 12 .a = true ∧ liveAt (deadUp suspect) 12 .a = false ∧ validReport (atThree suspect) 12 ≠ none
      ∧ validReport (atThree suspect) 30 = none) ∧
    (brokenPhase .three).pass.map (fun p => (workOf p 7).openResult) = some .notPerformed ∧
    -- Every downstream sensor excluded: an open count at N_OPEN confirms nothing, the contact count DOWNED_CONDUCTOR (R117).
    (let r : SegRec := { suspect with excluded := [13, 20], openCount := 3 }
     ((after .passStage3 (atThree r)).pass.map (rowAt ·.confirmed 7)) = some none ∧
       ((after .passStage3 (atThree { r with contactCount := 12 })).pass.map (rowAt ·.confirmed 7))
         = some (some .downedConductor)) := by decide +kernel

theorem wit_PassStage4LearnsBaselines :
    (let s := setSensor 13 { seeded 2 12 with learn := 15 } (setSensor 20 { seeded 3 0 with learn := 0 } (brokenPhase .four))
     noneHeld s = true ∧ clean s = true ∧ (s.pass.map (·.stage)) = some .four ∧ (evaluated s).map (·.expected) = some [12, 13, 20]
       ∧ [12, 13, 20].Nodup ∧ (∀ d ∈ [12, 13, 20], (sensorAt s d).map (·.status) = some .active ∧ (validReport s d).isSome = true)
       ∧ (∀ n < 40, ∀ g ∈ segmentAt s n, g.state = .normal)
       ∧ (sensorAt s 13).map (·.learn + 1) = some (2 ^ s.params.baseShift)
       ∧ (after .passStage4 s).pass.map (·.seeded) = some [(13, 12)]) ∧ (1 : Nat) ≤ 1 := by decide +kernel

/-- Segments 0 and 1 SUSPECT and confirmed, both below the boundary of REMOTE interrupter 0. -/
def confirming : State :=
  let s := onlyInterrupters [(0, interrupter .remote 0)] (setSeg 0 { suspect with up := 0, down := [1] } (setSeg 1 suspect (running feeder)))
  { s with
    ft := { s.ft with frame := 9 }
    ring := [⟨7, [0, 1], [], .evaluating⟩]
    pass := some ⟨7, .completion, [], [], [(0, .brokenConductor), (1, .downedConductor)], [], [], []⟩ }

/-- The pass stands at its completion: with nothing SUSPECT or TRIPPING; with 31 notices queued and one of its own; with a SUSPECT
segment on first open evidence, its budget not passed and passed; with two segments confirmed; with a measurement that proves
interrupter 0 open. -/
theorem wit_PassCompletionTakesItsSteps :
    (let s := passing .completion (running feeder)
     noneHeld s = true ∧ clean s = true ∧ (s.pass.map (·.stage)) = some .completion ∧ s.ring.map (·.cond) = [.evaluating]
       ∧ (∀ x < 16, ∀ r ∈ interrupterAt s x, r.state ≠ .tripping) ∧ ∀ n < 40, ∀ r ∈ segmentAt s n, r.state ≠ .suspect) ∧
    (let s : State := { passing .completion (running feeder) with
       nq := { queue := full.take 31, seq := 31, tail := 0 }
       pass := some ⟨7, .completion, [], [], [], [], [], [(1, 5)]⟩
       ring := [⟨7, [0, 1], [], .evaluating⟩, ⟨8, [0, 1], [], .closable⟩] }
     s.nq.queue.length + [NoticeBody.baselineReady 1 5].length ≤ 32 ∧ (s.ring.drop 1).head?.map (·.cond) = some .closable) ∧
    (let s := setSeg 7 { suspect with up := 12, down := [13, 20], deadline := none } (brokenPhase .completion)
     let p : Pass := ⟨1200, .completion, [], [(7, { noWork with firstOpen := true })], [], [], [], []⟩
     (segmentAt s 7).map (fun r => (r.state, r.deadline, r.policy)) = some (.suspect, none, .trip) ∧ rowAt p.confirmed 7 = none
       ∧ (workOf p 7).firstOpen = true ∧ (∀ m < 40, ∀ q ∈ segmentAt s m, m ≠ 7 → q.state ≠ .suspect)
       ∧ 0 < (900 : Int) - frameDiff s.ft.frame p.frame * s.ft.period ∧ (150 : Int) - frameDiff s.ft.frame p.frame * s.ft.period ≤ 0
       ∧ s.mc.profile = .normal ∧ effectiveInhibit { s with inhibitPin := true } = true ∧ s.nq.queue.length < 32) ∧
    (let s := confirming
     noneHeld s = true ∧ clean s = true ∧ [0, 1].Pairwise (· < ·) ∧
       (∀ n < 40, n ∈ [0, 1] ↔ (segmentAt s n).map (·.state) = some .suspect) ∧
       (s.pass.map fun p => (rowAt p.confirmed 0, rowAt p.confirmed 1)) = some (some .brokenConductor, some .downedConductor) ∧
       (∀ x < 16, ∀ r ∈ interrupterAt s x, r.state ≠ .tripping) ∧ s.nq.queue.length + 1 + 2 ≤ 32 ∧ s.mc.mode = .run
       ∧ effectiveInhibit s = false ∧ frameDiff 7 s.ft.frame ≤ 0 ∧ interrupterAt s 0 = some (interrupter .remote 0)
       ∧ (∀ y < 16, ∀ z ∈ interrupterAt s y, z.boundary = 0 → y = 0) ∧ candidateBoundaries s 0 = [] ++ 0 :: []
       ∧ candidateBoundaries s 1 = [1] ++ 0 :: [] ∧ (∀ y < 16, ∀ z ∈ interrupterAt s y, z.boundary ≠ 1)) ∧
    (let g : Machine.Frame := ⟨7, [0, 1], [(0, .valid ⟨⟨some ⟨3, 5, false⟩, some ⟨4, 0, false⟩, some ⟨5, 1, false⟩⟩, 9⟩)], .evaluating⟩
     let s : State := { setInt 0 (tripping .remote 0 [1]) (setSeg 1 (waiting 1 [] 0) (passing .completion (running feeder))) with
       ring := [g] }
     frameDiff 7 5 = 2 ∧ (validReport s 0).isSome = true ∧ 0 ∈ g.expected ∧ (∀ j ∈ [Phase.a, .b, .c], collapsedAt s 0 j = true)
       ∧ 5 ≤ (selectedProfile s).iDead ∧ (∀ n < 40, ∀ r ∈ segmentAt s n, r.state ≠ .suspect) ∧ [1].Nodup ∧ s.nq.queue.length < 32
       ∧ ∀ y < 16, ∀ q ∈ interrupterAt s y, y ≠ 0 → q.state ≠ .tripping) := by
  refine ⟨?_, ?_, ?_, ?_, ?_⟩ <;> decide +kernel

/-- A SUSPECT root with a timer, 30 notices queued: under HOLD and TRIP, outside RUN, with no interrupter, with one TRIPPING, one
armed and one that is passed; and a SUSPECT leaf whose own interrupter is passed, an armed REMOTE one at its parent's boundary. -/
theorem wit_DeadlineExpiryDecides :
    let r : SegRec := { suspect with up := 0, down := [1] }
    let s : State := { setSeg 0 r (running feeder) with nq := { queue := full.take 30, seq := 30, tail := 0 } }
    (noneHeld s = true ∧ clean s = true ∧ segmentAt s 0 = some r ∧ r.state = .suspect ∧ r.suspect = some details
      ∧ r.deadline = some 90000 ∧ s.nq.queue.length ≤ 30) ∧
    (s.mc.profile = .normal ∧ ({ r with policy := .hold } : SegRec).policy = .hold ∧ r.policy = .trip) ∧
    ((inMode .hold s).mc.mode ≠ .run ∧ s.mc.mode = .run ∧ effectiveInhibit s = false) ∧
    (∀ m < 40, ∀ q ∈ segmentAt s m, 0 ∉ q.down) ∧
    (∀ y < 16, ∀ q ∈ interrupterAt (onlyInterrupters [] s) y, q.boundary ≠ 0) ∧
    ((interrupterAt s 0).map (fun q => (q.boundary, q.state, q.armed)) = some (0, .closed, true)
      ∧ ∀ y < 16, ∀ q ∈ interrupterAt s y, q.boundary = 0 → y = 0) ∧
    (interrupterAt (setInt 0 (tripping (.loc 0) 0 [1]) s) 0).map (·.state) = some .tripping ∧
    (∀ q ∈ [{ interrupter .remote 0 with state := .failed }, { interrupter .remote 0 with state := .opened },
        { interrupter .remote 0 with armed := false }], interrupterAt (setInt 0 q s) 0 = some q ∧ q.boundary = 0) ∧
    (let u := setInt 0 (interrupter .remote 0) (setInt 1 { interrupter .remote 1 with armed := false } (setSeg 1 suspect (running feeder)))
     segmentAt u 1 = some suspect ∧ segmentAt u 0 = some (segment 0 [1]) ∧ (interrupterAt u 1).map (·.armed) = some false ∧
       (∀ l < 40, ∀ h ∈ segmentAt u l, 1 ∈ h.down → l = 0) ∧ interrupterAt u 0 = some (interrupter .remote 0) ∧
       (∀ y < 16, ∀ z ∈ interrupterAt u y, (z.boundary = 0 → y = 0) ∧ (z.boundary = 1 → y = 1))) := by
  refine ⟨?_, ?_, ?_, ?_, ?_, ?_, ?_, ?_, ?_⟩ <;> decide +kernel

/-- A waiter at a root, a waiter whose parent's boundary holds an armed REMOTE interrupter, no waiter, and two waiters below an armed
REMOTE interrupter. -/
theorem wit_TimersExpire :
    (noneHeld (setPulse 3 5 hold) = true ∧ ((setPulse 3 5 hold).channels.get 3).pulse = some 5) ∧
    (let s := setSeg 0 (waiting 0 [1] 15) (setInt 15 (tripping .remote 0 [0]) (running feeder))
     noneHeld s = true ∧ clean s = true ∧ interrupterAt s 15 = some (tripping .remote 0 [0])
       ∧ (tripping .remote 0 [0]).state = .tripping ∧ (tripping .remote 0 [0]).confirm = some 90000 ∧ s.nq.queue.length ≤ 30
       ∧ segmentAt s 0 = some (waiting 0 [1] 15) ∧ (waiting 0 [1] 15).verdict.map (·.chain) = some ([] ++ [⟨15, .tripped⟩])
       ∧ s.mc.mode = .run ∧ effectiveInhibit s = false ∧ (waiting 0 [1] 15).up = (tripping .remote 0 [0]).boundary
       ∧ ∀ m < 40, ∀ g ∈ segmentAt s m, 0 ∉ g.down) ∧
    (tripping .remote 0 []).waiters = [] ∧
    (let s := setSeg 1 (waiting 1 [] 15) (onlyInterrupters [(0, interrupter .remote 0), (15, tripping .remote 1 [1])] (running feeder))
     interrupterAt s 15 = some (tripping .remote 1 [1]) ∧ segmentAt s 1 = some (waiting 1 [] 15)
       ∧ segmentAt s 0 = some (segment 0 [1]) ∧ 1 ∈ (segment 0 [1]).down ∧ (segment 0 [1]).up ≠ 1
       ∧ (∀ k < 40, ∀ g ∈ segmentAt s k, 1 ∈ g.down → k = 0)
       ∧ interrupterAt s 0 = some (interrupter .remote 0) ∧ (interrupter .remote 0).armed = true
       ∧ (interrupter .remote 0).state = .closed ∧ ∀ z < 16, ∀ p ∈ interrupterAt s z, p.boundary = 0 → z = 0) ∧
    (let u := setSeg 2 (waiting 2 [] 15) (setSeg 1 (waiting 1 [2] 15)
       (onlyInterrupters [(0, interrupter .remote 0), (15, tripping .remote 1 [2, 1])] (running feeder)))
     clean u = true ∧ [2, 1].Nodup ∧ u.nq.queue.length + 1 + 2 ≤ 32 ∧ interrupterAt u 15 = some (tripping .remote 1 [2, 1]) ∧
       (∀ n ∈ [2, 1], n < 40 ∧ (segmentAt u n).bind (·.verdict.map (·.chain)) = some ([] ++ [⟨15, .tripped⟩])) ∧
       interrupterAt u 0 = some (interrupter .remote 0) ∧ (∀ z < 16, ∀ p ∈ interrupterAt u z, p.boundary = 0 → z = 0) ∧
       candidateBoundaries u 2 = [2] ++ 1 :: 0 :: [] ∧
       candidateBoundaries u 1 = [] ++ 1 :: 0 :: []) := by
  refine ⟨?_, ?_, ?_, ?_, ?_⟩ <;> decide +kernel

theorem wit_WalkTreatsCandidates :
    (∀ st ∈ [IntState.unknown, .closed, .tripping, .opened, .failed],
      let s := setInt 15 { interrupter .remote 2 with state := st } feeder
      clean s = true ∧ interrupterOn s 2 = some 15 ∧ (interrupterAt s 15).map (fun r => (r.state, r.armed)) = some (st, true)) ∧
    interrupterOn feeder 2 = none ∧
    (interrupterAt (setInt 15 { interrupter .remote 2 with armed := false } feeder) 15).map (·.armed) = some false ∧
    (List.replicate 16 (⟨1, .joined⟩ : ChainEntry)).length ≤ 16 := by decide +kernel

/-- LOCAL interrupter 0 is disarmed; segment 1 waits on interrupter 1. Two held requests arm the one and report the other FAILED:
the pulse begins in the second, and the first has armed by then. -/
def armedMeanwhile : State :=
  withReplies [reply] true (withRequests [.setArm 0 1, .interrupterState 1 2]
    (setInt 0 { interrupter (.loc 0) 0 with armed := false } (setInt 1 (tripping .remote 1 [1]) (setSeg 1 (waiting 1 [] 1) (running feeder)))))

theorem wit_PulsesBeginOnlyWhenAllowed :
    (clean relayFails = true ∧ noneHeld relayFails = true ∧
      exec (.confirmTimerExpiry 1) relayFails = .next (after (.confirmTimerExpiry 1) relayFails) ∧
      ((after (.confirmTimerExpiry 1) relayFails).channels.get 0).pulse ≠ none) ∧
    (escalated.mc.mode ≠ .start ∧ noResetPending escalated = true ∧ (escalated.channels.get 0).pulse ≠ none ∧
      exec .getCounts escalated = .next (after .getCounts escalated)) ∧
    clean armedMeanwhile = true ∧ buffersBounded armedMeanwhile = true ∧
    exec .replySent armedMeanwhile = .next (after .replySent armedMeanwhile) ∧
    ((after .replySent armedMeanwhile).channels.get 0).pulse ≠ none ∧ (armedMeanwhile.channels.get 0).pulse = none := by
  refine ⟨⟨?_, ?_, ?_, ?_⟩, ⟨?_, ?_, ?_, ?_⟩, ?_, ?_, ?_, ?_⟩
  all_goals first
    | decide +kernel
    | exact next_of (by decide +kernel)

/-- A full queue and ring; and a step that takes two held requests, one segment waiting on a TRIPPING interrupter. -/
theorem wit_EveryStepKeepsBoundsAndTables :
    (let s : State := { openFrames 8 1 (running feeder) with
       nq := { queue := full, seq := 32, tail := 0 }, pending := [.internalFrameStart] }
     step s = .next (after .internalFrameStart { s with pending := [] }) ∧
     noticesBounded s = true ∧ countsBounded s = true ∧ buffersBounded s = true ∧ ringBounded s = true ∧ tablesCanonical s = true) ∧
    (let s : State := { armedMeanwhile with pending := [.replySent] }
     step s = .next (after .replySent armedMeanwhile) ∧ clean s = true ∧ buffersBounded s = true ∧ recordLaws s ∧
       (segmentAt s 1).map (·.state) = some .isolating) := by
  refine ⟨⟨rfl, by decide +kernel⟩, Eq.trans rfl (next_of (c := .replySent) (s := armedMeanwhile) (by decide +kernel)), by decide +kernel,
    by decide +kernel, recordLaws_of (by decide +kernel) (by decide +kernel) (by decide +kernel), by decide +kernel⟩

theorem wit_EveryStepKeepsSettingsLegal :
    settingsLegal feeder = true ∧ step feeder = .next { feeder with now := 1 } := ⟨by decide +kernel, rfl⟩

end Sys2Proof.Tests
end

section
namespace Sys2Proof.Machine

/-! ### The tree that every operation keeps (R11)

No operation but DEFINE_SEGMENT changes which sensors a segment names, and none but INJECT adds inverted bits. -/

/-- The requests `q` are held; every segment record names the sensors that `T` gives for its number, and its inverted bits meet `E`. -/
structure TreeKept (T : Nat → Option (Nat × List Nat)) (E : BitVec 32 → Prop) (q : List Request) (s : State) : Prop where
  requests : s.hl.requests = q
  records : ∀ n r, segmentAt s n = some r → T n = some (r.up, r.down) ∧ E r.err

/-- Fresh check bits meet `E`, and no record that meets it holds more inverted bits than R162 states. -/
def Readable (E : BitVec 32 → Prop) : Prop := E 0 ∧ ∀ e, E e → invertedBits e ≤ 2

theorem forEach_kept {P : State → Prop} {ns : List Nat} {f : Nat → State → State} (h : ∀ n s, P s → P (f n s)) {s : State}
    (hs : P s) : P (forEach ns f s) :=
  forEach_keeps (fun n _ t => h n t) hs

/-! ### What a read does -/

/-- What a read of a segment record with at most two inverted bits does (R162). -/
theorem readSegment_cases {s : State} {n : Nat} (h : ∀ r, segmentAt s n = some r → invertedBits r.err ≤ 2) :
    readSegment n s = s ∨
    (∃ r, segmentAt s n = some r ∧
      (readSegment n s = writeSegment n r s ∨ readSegment n s = noteCorrection (segmentBank n) (writeSegment n r s))) ∨
    readSegment n s = quarantineSegment n (latch .eccDoubleSeen s) := by
  unfold readSegment
  split
  · exact .inl rfl
  · rename_i r hr
    have hb := h r hr
    rcases (by omega : invertedBits r.err = 0 ∨ invertedBits r.err = 1 ∨ invertedBits r.err = 2) with h0 | h1 | h2
    · by_cases hz : r.err = 0
      · exact .inl (by simp [hz])
      · exact .inr (.inl ⟨r, hr, .inl (by simpa [readResult, h0] using fun e => absurd e hz)⟩)
    · exact .inr (.inl ⟨r, hr, .inr (by simp [readResult_one h1, h1])⟩)
    · exact .inr (.inr (by simp [readResult_two h2]))

/-- What a read of a sensor record does, whatever error it holds (R162; log 10). -/
theorem readSensor_cases (slot : Nat) (s : State) :
    readSensor slot s = s ∨ (∃ r, readSensor slot s = writeSensor slot r s) ∨
    (∃ r, readSensor slot s = noteCorrection (sensorBank slot) (writeSensor slot r s)) ∨
    readSensor slot s = quarantineSensor slot (latch .eccDoubleSeen s) := by
  unfold readSensor
  split
  · exact .inl rfl
  · rename_i r _
    cases hres : readResult r.err with
    | clean =>
      by_cases hz : r.err = 0
      · exact .inl (by simp [hz])
      · exact .inr (.inl ⟨_, by simp only [hz, if_false]; rfl⟩)
    | single => exact .inr (.inr (.inl ⟨_, rfl⟩))
    | double => exact .inr (.inr (.inr rfl))

/-- What a read of an interrupter record does, whatever error it holds (R162; log 10). -/
theorem readInterrupterWith_cases (e : Escalation) (x : Nat) (s : State) :
    readInterrupterWith e x s = s ∨ (∃ r, readInterrupterWith e x s = writeInterrupter x r s) ∨
    (∃ r, readInterrupterWith e x s = noteCorrection interrupterBank (writeInterrupter x r s)) ∨
    ∃ r, readInterrupterWith e x s = quarantineInterrupter e x r (latch .eccDoubleSeen s) := by
  unfold readInterrupterWith
  split
  · exact .inl rfl
  · rename_i r _
    cases hres : readResult r.err with
    | clean =>
      by_cases hz : r.err = 0
      · exact .inl (by simp [hz])
      · exact .inr (.inl ⟨_, by simp only [hz, if_false]; rfl⟩)
    | single => exact .inr (.inr (.inl ⟨_, rfl⟩))
    | double => exact .inr (.inr (.inr ⟨r, rfl⟩))

/-- A sensor's record is lost: its slot holds a QUARANTINED record, its address leaves the index and it leaves the ring (R22). -/
def lostSensor (slot : Nat) (s : State) : State :=
  leaveRing slot (leaveIndex slot { s with sensors := setRow s.sensors slot .quarantined })

/-- The record is lost, then the segments exclude the sensor, then their notices are raised together (R22, R113). -/
theorem quarantineSensor_eq (slot : Nat) (s : State) :
    quarantineSensor slot s =
      raiseAll (excludeEverywhere slot allSegments (raiseNow (.quarantined .sensor slot) (lostSensor slot s))).1.ft.frame
        (excludeEverywhere slot allSegments (raiseNow (.quarantined .sensor slot) (lostSensor slot s))).2
        (excludeEverywhere slot allSegments (raiseNow (.quarantined .sensor slot) (lostSensor slot s))).1 := by
  unfold quarantineSensor lostSensor
  simp only

/-! ### Notices raised together leave the tables and Host Link -/

theorem raiseAll_cons (f : FrameNo) (b : NoticeBody) (bs : List NoticeBody) (s : State) :
    raiseAll f (b :: bs) s = raiseAll f bs (raiseAt f b s) := rfl

theorem raiseAll_keeps {P : State → Prop} {f : FrameNo} (h : ∀ b s, P s → P (raiseAt f b s)) (bs : List NoticeBody) {s : State}
    (hs : P s) : P (raiseAll f bs s) := by
  induction bs generalizing s with
  | nil => exact hs
  | cons b bs ih => exact ih (h b s hs)

section
variable {T : Nat → Option (Nat × List Nat)} {E : BitVec 32 → Prop} {q : List Request} {s t : State}

theorem TreeKept.congr (h : TreeKept T E q s) (hg : t.segments = s.segments) (hl : t.hl = s.hl) : TreeKept T E q t where
  requests := by rw [hl, h.requests]
  records n r hr := h.records n r (by rwa [segmentAt_congr hg] at hr)

theorem TreeKept.raiseAt (f : FrameNo) (b : NoticeBody) (h : TreeKept T E q s) : TreeKept T E q (raiseAt f b s) :=
  h.congr (by simp) (by simp)

theorem TreeKept.raiseNow (b : NoticeBody) (h : TreeKept T E q s) : TreeKept T E q (raiseNow b s) :=
  h.raiseAt _ b

theorem TreeKept.raiseAll (f : FrameNo) (bs : List NoticeBody) (h : TreeKept T E q s) : TreeKept T E q (raiseAll f bs s) :=
  raiseAll_keeps (fun b _ hs => hs.raiseAt f b) bs h

variable (hE : Readable E)
include hE

theorem TreeKept.writeSegment {n : Nat} {r : SegRec} (h : TreeKept T E q s) (hT : T n = some (r.up, r.down)) :
    TreeKept T E q (writeSegment n r s) where
  requests := h.requests
  records m p hp := by
    rw [segmentAt_writeSegment] at hp
    split at hp
    · cases hp
      subst m
      exact ⟨hT, hE.1⟩
    · exact h.records m p hp

theorem TreeKept.modifySegment {f : SegRec → SegRec} (hf : ∀ r, (f r).up = r.up ∧ (f r).down = r.down) (n : Nat)
    (h : TreeKept T E q s) : TreeKept T E q (modifySegment n f s) := by
  unfold Machine.modifySegment
  split
  · rename_i r hr
    exact h.writeSegment hE (by rw [(hf r).1, (hf r).2]; exact (h.records n r hr).1)
  · exact h

omit hE in
theorem TreeKept.loseSegment (n : Nat) (h : TreeKept T E q s) (hg : t.segments = setRow s.segments n .quarantined)
    (hl : t.hl = s.hl) : TreeKept T E q t where
  requests := by rw [hl, h.requests]
  records m p hp := by
    rw [segmentAt_row, hg, rowAt_setRow] at hp
    split at hp
    · cases hp
    · exact h.records m p (segmentAt_row.mpr hp)

theorem TreeKept.readSegment (n : Nat) (h : TreeKept T E q s) : TreeKept T E q (readSegment n s) := by
  rcases readSegment_cases fun r hr => hE.2 _ (h.records n r hr).2 with he | ⟨r, hr, he | he⟩ | he <;> rw [he]
  · exact h
  · exact h.writeSegment hE (h.records n r hr).1
  · exact (h.writeSegment hE (h.records n r hr).1).congr (by simp) (by simp)
  · exact h.loseSegment n (by simp [quarantineSegment]) (by simp [quarantineSegment])

theorem TreeKept.readSegments (h : TreeKept T E q s) : TreeKept T E q (readSegments s) :=
  forEach_kept (fun n _ hs => hs.readSegment hE n) h

theorem TreeKept.excludeFrom (slot n : Nat) (h : TreeKept T E q s) : TreeKept T E q (excludeFrom slot n s).1 := by
  unfold Machine.excludeFrom
  split
  · rename_i r hr
    split
    · exact h.writeSegment hE (h.records n r hr).1
    · exact h
  · exact h

theorem TreeKept.excludeEverywhere (slot : Nat) (ns : List Nat) (h : TreeKept T E q s) :
    TreeKept T E q (excludeEverywhere slot ns s).1 := by
  induction ns generalizing s with
  | nil => exact h
  | cons n ns ih => exact ih ((h.readSegment hE n).excludeFrom hE slot n)

theorem TreeKept.quarantineSensor (slot : Nat) (h : TreeKept T E q s) : TreeKept T E q (quarantineSensor slot s) := by
  rw [quarantineSensor_eq]
  have h1 : TreeKept T E q (Machine.raiseNow (.quarantined .sensor slot) (lostSensor slot s)) :=
    TreeKept.raiseNow _ (h.congr rfl rfl)
  exact (h1.excludeEverywhere hE slot allSegments).raiseAll _ _

theorem TreeKept.readSensor (slot : Nat) (h : TreeKept T E q s) : TreeKept T E q (readSensor slot s) := by
  rcases readSensor_cases slot s with he | ⟨r, he⟩ | ⟨r, he⟩ | he <;> rw [he]
  · exact h
  · exact h.congr rfl rfl
  · exact h.congr rfl rfl
  · exact TreeKept.quarantineSensor hE slot (h.congr rfl rfl)

theorem TreeKept.readSensors (slots : List Nat) (h : TreeKept T E q s) : TreeKept T E q (readSensors slots s) :=
  forEach_kept (fun n _ hs => hs.readSensor hE n) h

/-! #### Isolation -/

theorem TreeKept.modifyChain (n : Nat) (f : List ChainEntry → List ChainEntry) (h : TreeKept T E q s) :
    TreeKept T E q (modifyChain n f s) :=
  h.modifySegment hE (by simp) n

theorem TreeKept.setSegState (n : Nat) (st : SegState) (h : TreeKept T E q s) : TreeKept T E q (setSegState n st s) :=
  h.modifySegment hE (by simp) n

theorem TreeKept.recordVisit (n x : Nat) (o : ChainOutcome) (h : TreeKept T E q s) : TreeKept T E q (recordVisit n x o s) :=
  h.modifyChain hE n _

theorem TreeKept.startTrip (x : Nat) (r : IntRec) (n : Nat) (c : TripCause) (h : TreeKept T E q s) :
    TreeKept T E q (startTrip x r n c s) := by
  have hw : TreeKept T E q (Machine.recordVisit n x .tripped
      (Machine.setSegState n .isolating (writeInterrupter x (tripped n s r) s))) :=
    TreeKept.recordVisit hE n x _ (TreeKept.setSegState hE n _ (h.congr rfl rfl))
  refine TreeKept.raiseNow _ ?_
  cases r.kind with
  | loc ch => exact hw.congr (by simp [startPulse]) (by simp [startPulse])
  | remote => exact hw

/-- An escalation that keeps the tree. -/
def KeepsTree (T : Nat → Option (Nat × List Nat)) (E : BitVec 32 → Prop) (q : List Request) (e : Escalation) : Prop :=
  ∀ x c b ws s, TreeKept T E q s → TreeKept T E q (e x c b ws s)

omit hE in
theorem TreeKept.quarantineInterrupter {e : Escalation} (he : KeepsTree T E q e) (x : Nat) (r : IntRec)
    (h : TreeKept T E q s) : TreeKept T E q (quarantineInterrupter e x r s) := by
  have hq : TreeKept T E q (Machine.raiseNow (.quarantined .interrupter x)
      { s with interrupters := setRow s.interrupters x .tableError }) := TreeKept.raiseNow _ (h.congr rfl rfl)
  unfold Machine.quarantineInterrupter
  split
  · exact he _ _ _ _ _ hq
  · exact hq

omit hE in
theorem TreeKept.readInterrupterWith {e : Escalation} (he : KeepsTree T E q e) (x : Nat) (h : TreeKept T E q s) :
    TreeKept T E q (readInterrupterWith e x s) := by
  rcases readInterrupterWith_cases e x s with heq | ⟨r, heq⟩ | ⟨r, heq⟩ | ⟨r, heq⟩ <;> rw [heq]
  · exact h
  · exact h.congr rfl rfl
  · exact h.congr rfl rfl
  · exact TreeKept.quarantineInterrupter he x r (h.congr rfl rfl)

theorem TreeKept.walkWith {e : Escalation} (he : KeepsTree T E q e) (n : Nat) (c : TripCause) (bs : List Nat)
    (h : TreeKept T E q s) : TreeKept T E q (walkWith e n c bs s) := by
  induction bs generalizing s with
  | nil => exact h.setSegState hE n _
  | cons b bs ih =>
    unfold Machine.walkWith
    split
    · exact ih h
    · rename_i x _
      have h1 := h.readInterrupterWith he x
      simp only
      split
      · exact ih (h1.recordVisit hE n x _)
      · rename_i r _
        cases hst : r.state with
        | tripping =>
          exact TreeKept.recordVisit hE n x _ (TreeKept.setSegState hE n _ (h1.congr rfl rfl))
        | failed => exact ih (h1.recordVisit hE n x _)
        | opened => exact ih (h1.recordVisit hE n x _)
        | unknown | closed =>
          simp only
          split
          · exact h1.startTrip hE x r n c
          · exact ih (h1.recordVisit hE n x _)

omit hE in
theorem TreeKept.noteIsolationFailed (n : Nat) (h : TreeKept T E q s) : TreeKept T E q (noteIsolationFailed n s) := by
  unfold Machine.noteIsolationFailed
  split
  · split
    · exact h.raiseNow _
    · exact h
  · exact h

omit hE in
theorem TreeKept.noteEscalated (x : Nat) (c : FailReason) (n : Nat) (h : TreeKept T E q s) :
    TreeKept T E q (noteEscalated x c n s) :=
  h.raiseNow _

theorem TreeKept.escalateOne {w : Nat → TripCause → List Nat → State → State}
    (hw : ∀ n c bs s, TreeKept T E q s → TreeKept T E q (w n c bs s)) (x : Nat) (c : FailReason) (b n : Nat)
    (h : TreeKept T E q s) : TreeKept T E q (escalateOne w x c b n s) := by
  have h1 := h.readSegments hE
  unfold Machine.escalateOne
  simp only
  split
  · exact h1
  · have h2 := h1.modifyChain hE n (setNewest .escalatedFrom)
    refine (TreeKept.noteEscalated x c n ?_).noteIsolationFailed n
    split
    · exact hw _ _ _ _ h2
    · exact h2.setSegState hE n _

theorem keepsTree_escalateWith (fuel : Nat) : KeepsTree T E q (escalateWith fuel) := by
  induction fuel with
  | zero => exact fun _ _ _ _ _ h => h
  | succ fuel ih =>
    intro x c b ws s h
    unfold escalateWith
    split
    · exact h.raiseNow _
    · exact forEach_kept (fun n _ hs => hs.escalateOne hE (fun m c' bs _ hw => hw.walkWith hE ih m c' bs) x c b n) h

theorem TreeKept.escalate (x : Nat) (c : FailReason) (b : Nat) (ws : List Nat) (h : TreeKept T E q s) :
    TreeKept T E q (escalate x c b ws s) :=
  keepsTree_escalateWith hE 17 x c b ws s h

theorem TreeKept.walk (n : Nat) (c : TripCause) (bs : List Nat) (h : TreeKept T E q s) : TreeKept T E q (walk n c bs s) :=
  h.walkWith hE (keepsTree_escalateWith hE 17) n c bs

theorem TreeKept.readInterrupter (x : Nat) (h : TreeKept T E q s) : TreeKept T E q (readInterrupter x s) :=
  h.readInterrupterWith (keepsTree_escalateWith hE 17) x

theorem TreeKept.readInterrupters (h : TreeKept T E q s) : TreeKept T E q (readInterrupters s) :=
  forEach_kept (fun n _ hs => hs.readInterrupter hE n) h

omit hE in
theorem TreeKept.noteVerdict (n : Nat) (a : Option Nat) (h : TreeKept T E q s) : TreeKept T E q (noteVerdict n a s) := by
  unfold Machine.noteVerdict
  split
  · split
    · exact h.raiseNow _
    · exact h
  · exact h

theorem TreeKept.confirmWalk (n : Nat) (k : Confirmation) (h : TreeKept T E q s) : TreeKept T E q (confirmWalk n k s) := by
  have h1 := h.readSegments hE
  unfold Machine.confirmWalk
  simp only
  split
  · exact h1
  · rename_i r hr
    split
    · exact h1
    · rename_i d _
      have h2 := h1.writeSegment hE (n := n) (r := { r with verdict := some (verdictOf r d k), suspect := none })
        (h1.records n r hr).1
      refine (TreeKept.noteVerdict n k.arc ?_).noteIsolationFailed n
      split
      · exact h2.walk hE n _ _
      · exact h2.setSegState hE n _

theorem TreeKept.openInterrupter (x : Nat) (o : OpenSource) (f : FrameNo) (h : TreeKept T E q s) :
    TreeKept T E q (openInterrupter x o f s) := by
  unfold Machine.openInterrupter
  split
  · exact h
  · exact TreeKept.raiseAt _ _
      (forEach_kept (fun n _ hs => TreeKept.modifyChain hE n _ (hs.setSegState hE n _)) (h.congr rfl rfl))

theorem TreeKept.failTripping (x : Nat) (c : FailReason) (h : TreeKept T E q s) : TreeKept T E q (failTripping x c s) := by
  unfold Machine.failTripping
  split
  · exact h
  · exact TreeKept.escalate hE x c _ _ (h.congr rfl rfl)

/-! #### The ring and the timebase -/

omit hE in
theorem TreeKept.closeOldest (h : TreeKept T E q s) : TreeKept T E q (closeOldest s) := by
  unfold Machine.closeOldest
  split
  · split
    · exact h.congr rfl rfl
    · exact h
  · exact h

omit hE in
theorem TreeKept.discardOldest (h : TreeKept T E q s) : TreeKept T E q (discardOldest s) := by
  unfold Machine.discardOldest
  split
  · exact h
  · exact TreeKept.raiseAt _ _ (h.congr rfl rfl)

omit hE in
theorem TreeKept.ringFrameStart (h : TreeKept T E q s) : TreeKept T E q (ringFrameStart s) := by
  unfold Machine.ringFrameStart
  split
  · have h1 : TreeKept T E q (if 8 ≤ s.ring.length then Machine.discardOldest s else s) := by
      split
      · exact h.discardOldest
      · exact h
    exact TreeKept.closeOldest (h1.congr rfl rfl)
  · exact h

omit hE in
theorem TreeKept.frameStart (h : TreeKept T E q s) : TreeKept T E q (frameStart s) := by
  have h1 : TreeKept T E q (stepFrameNumber s) := by
    unfold stepFrameNumber
    split <;> exact h.congr rfl rfl
  refine TreeKept.ringFrameStart ?_
  unfold stepTail
  split
  · exact h1
  · exact h1.congr rfl rfl

omit hE in
theorem TreeKept.enterTimebase (new : TimebaseState) (c : TimebaseCause) (h : TreeKept T E q s) :
    TreeKept T E q (enterTimebase new c s) :=
  TreeKept.raiseNow _ (h.congr rfl rfl)

omit hE in
theorem TreeKept.lockAt (time : Nat) (h : TreeKept T E q s) : TreeKept T E q (lockAt time s) := by
  have h1 : TreeKept T E q (if internalStands time s then s else Machine.frameStart s) := by
    split
    · exact h
    · exact h.frameStart
  exact TreeKept.enterTimebase _ _ (h1.congr rfl rfl)

omit hE in
theorem TreeKept.acquireEdge (time : Nat) (h : TreeKept T E q s) : TreeKept T E q (acquireEdge time s) := by
  have hrun : TreeKept T E q (startRun time s) := h.congr rfl rfl
  unfold Machine.acquireEdge
  split
  · exact hrun
  · split
    · exact hrun
    · split
      · exact hrun
      · split
        · exact h.lockAt time
        · exact h.congr rfl rfl

omit hE in
theorem TreeKept.lockedEdge (time : Nat) (h : TreeKept T E q s) : TreeKept T E q (lockedEdge time s) := by
  unfold Machine.lockedEdge
  split
  · split
    · exact h.frameStart.congr rfl rfl
    · exact h.congr rfl rfl
  · exact h.congr rfl rfl

omit hE in
theorem TreeKept.syncEdge (time : Nat) (h : TreeKept T E q s) : TreeKept T E q (syncEdge time s) := by
  unfold Machine.syncEdge
  split
  · split
    · exact h
    · exact h.acquireEdge time
    · exact h.acquireEdge time
    · exact h.lockedEdge time
  · exact h

omit hE in
theorem TreeKept.historyTimeout (h : TreeKept T E q s) : TreeKept T E q (historyTimeout s) := by
  unfold Machine.historyTimeout
  split
  · exact h.congr rfl rfl
  · exact h.congr rfl rfl
  · exact h

omit hE in
theorem TreeKept.internalStart (h : TreeKept T E q s) : TreeKept T E q (internalStart s) := by
  unfold Machine.internalStart
  split
  · split
    · rename_i e _ _
      have h1 : TreeKept T E q (arriveAt e s) := h.congr rfl rfl
      exact h1.frameStart.congr rfl rfl
    · exact h
  · exact h

omit hE in
theorem TreeKept.windowClose (h : TreeKept T E q s) : TreeKept T E q (windowClose s) := by
  unfold Machine.windowClose
  split
  · split
    · rename_i e _ _
      have h1 : TreeKept T E q (arriveAt (e + tolerance s) s) := h.congr rfl rfl
      refine TreeKept.enterTimebase _ _ (h1.frameStart.congr ?_ ?_) <;> simp
    · exact h
  · exact h

omit hE in
theorem TreeKept.storeReport (f : FrameNo) (slot : Nat) (r : StoredReport) (h : TreeKept T E q s) :
    TreeKept T E q (storeReport f slot r s) := by
  have hr (ring : List Frame) : TreeKept T E q { s with ring } := h.congr rfl rfl
  unfold Machine.storeReport
  extract_lets put t
  have ht : TreeKept T E q t := hr _
  clear_value t
  split
  · split
    · exact ht.closeOldest
    · exact ht
  · exact ht

omit hE in
theorem TreeKept.judgeKnown (e : ReportEntry) (f : Frame) (slot : Nat) (r : SensorRec) (h : TreeKept T E q s) :
    TreeKept T E q (judgeKnown e f slot r s).1 := by
  unfold Machine.judgeKnown
  split
  · exact h.congr rfl rfl
  · split
    · exact h
    · split
      · exact h.congr rfl rfl
      · have h1 : TreeKept T E q (if r.seen then s else writeSensor slot { r with seen := true } s) := by
          split
          · exact h
          · exact h.congr rfl rfl
        refine TreeKept.storeReport _ _ _ ?_
        split
        · exact h1.congr rfl rfl
        · exact h1

theorem TreeKept.judgeEntry (e : ReportEntry) (h : TreeKept T E q s) : TreeKept T E q (judgeEntry e s).1 := by
  unfold Machine.judgeEntry
  split
  · exact h.congr rfl rfl
  · split
    · exact h.congr rfl rfl
    · split
      · exact h.congr rfl rfl
      · rename_i slot _
        have h1 := h.readSensor hE slot
        simp only
        split
        · exact h1.judgeKnown e _ _ _
        · exact h1.congr rfl rfl

theorem TreeKept.judgeEntries (es : List ReportEntry) (h : TreeKept T E q s) : TreeKept T E q (judgeEntries es s).1 := by
  induction es generalizing s with
  | nil => exact h
  | cons e es ih => exact ih (h.judgeEntry hE e)

end
end Sys2Proof.Machine
end

section
namespace Sys2Proof.Machine

section
variable {T : Nat → Option (Nat × List Nat)} {E : BitVec 32 → Prop} {q : List Request} {s t : State}

/-! #### The evaluation pass -/

theorem TreeKept.modifyPass (f : Pass → Pass) (h : TreeKept T E q s) : TreeKept T E q (modifyPass f s) := h.congr rfl rfl

theorem TreeKept.queueSensorNotices (bs : List NoticeBody) (h : TreeKept T E q s) : TreeKept T E q (queueSensorNotices bs s) :=
  h.modifyPass _

theorem TreeKept.queueSegmentNotices (n : Nat) (bs : List NoticeBody) (h : TreeKept T E q s) :
    TreeKept T E q (queueSegmentNotices n bs s) :=
  h.modifyPass _

theorem TreeKept.writeSensor (slot : Nat) (r : SensorRec) (h : TreeKept T E q s) : TreeKept T E q (writeSensor slot r s) :=
  h.congr rfl rfl

theorem TreeKept.writeInterrupter (x : Nat) (r : IntRec) (h : TreeKept T E q s) : TreeKept T E q (writeInterrupter x r s) :=
  h.congr rfl rfl

theorem TreeKept.modifySensor (slot : Nat) (f : SensorRec → SensorRec) (h : TreeKept T E q s) :
    TreeKept T E q (modifySensor slot f s) :=
  h.congr (by simp) (by simp)

theorem TreeKept.modifyInterrupter (x : Nat) (f : IntRec → IntRec) (h : TreeKept T E q s) :
    TreeKept T E q (modifyInterrupter x f s) :=
  h.congr (by simp) (by simp)

theorem TreeKept.arriveAt (due : Nat) (h : TreeKept T E q s) : TreeKept T E q (arriveAt due s) := h.congr rfl rfl

theorem TreeKept.settleUrgency (u : Bool) (h : TreeKept T E q s) : TreeKept T E q (settleUrgency u s) :=
  h.congr (by simp) (by simp)

variable (hE : Readable E)
include hE

theorem TreeKept.goStale (slot : Nat) (r : SensorRec) (h : TreeKept T E q s) : TreeKept T E q (goStale slot r s) := by
  have h1 := (h.writeSensor slot (unseed { r with status := .stale })).excludeEverywhere hE slot allSegments
  unfold Machine.goStale
  dsimp only
  generalize Machine.excludeEverywhere slot allSegments _ = out at h1 ⊢
  exact h1.queueSensorNotices _

theorem TreeKept.resume (slot : Nat) (r : SensorRec) (h : TreeKept T E q s) : TreeKept T E q (resume slot r s) :=
  TreeKept.queueSensorNotices _ ((h.writeSensor slot _).readSegments hE)

theorem TreeKept.statusStep (slot : Nat) (r : SensorRec) (v : Bool) (h : TreeKept T E q s) :
    TreeKept T E q (statusStep slot r v s) := by
  unfold Machine.statusStep
  split <;> split
  · exact h.goStale hE slot r
  · exact h.writeSensor slot r
  · exact h.resume hE slot r
  · exact h.writeSensor slot r

theorem TreeKept.writeReport (slot : Nat) (v : ReportValues) (f : FrameNo) (h : TreeKept T E q s) :
    TreeKept T E q (writeReport slot v f s) := by
  unfold Machine.writeReport
  exact (h.readSegments hE).modifySensor slot _

theorem TreeKept.stage1Sensor (f : Frame) (slot : Nat) (h : TreeKept T E q s) : TreeKept T E q (stage1Sensor f slot s) := by
  have h1 := h.readSensor hE slot
  unfold Machine.stage1Sensor
  extract_lets s1 report
  split
  · exact h1
  · extract_lets s2
    have h2 : TreeKept T E q s2 := h1.statusStep hE slot _ _
    clear_value s2 report
    split
    · exact h2.writeReport hE slot _ _
    · exact h2

theorem TreeKept.stage1 (h : TreeKept T E q s) : TreeKept T E q (stage1 s) := by
  unfold Machine.stage1
  split
  · exact forEach_kept (fun d _ hs => hs.stage1Sensor hE _ d) h
  · exact h

omit hE in
@[simp] theorem testedRecord_up (s : State) (sh : List Nat) (f : FrameNo) (r : SegRec) : (testedRecord s sh f r).up = r.up := by
  unfold testedRecord
  extract_lets
  split <;> rfl

omit hE in
@[simp] theorem testedRecord_down (s : State) (sh : List Nat) (f : FrameNo) (r : SegRec) :
    (testedRecord s sh f r).down = r.down := by
  unfold testedRecord
  extract_lets
  split <;> rfl

theorem TreeKept.stage2Segment (n : Nat) (h : TreeKept T E q s) : TreeKept T E q (stage2Segment n s) := by
  have h1 := h.readSegment hE n
  unfold Machine.stage2Segment
  extract_lets s1
  split
  · rename_i p r _ hr
    split
    · refine TreeKept.queueSegmentNotices n _ (TreeKept.modifyPass _ (h1.writeSegment hE ?_))
      simpa using (h1.records n r hr).1
    · exact h1
  · exact h1

theorem TreeKept.stage2 (h : TreeKept T E q s) : TreeKept T E q (stage2 s) :=
  forEach_kept (fun n _ hs => hs.stage2Segment hE n) h

theorem TreeKept.judgeSegment (p : Pass) {n : Nat} {r : SegRec} (hr : T n = some (r.up, r.down)) (h : TreeKept T E q s) :
    TreeKept T E q (judgeSegment p n r s) := by
  unfold Machine.judgeSegment
  extract_lets w enters s1
  have h1 : TreeKept T E q s1 := by
    unfold s1
    split
    · exact TreeKept.queueSegmentNotices n _ (h.writeSegment hE hr)
    · exact h
  split
  · exact h1.modifyPass _
  · split
    · exact TreeKept.queueSegmentNotices n _ (h1.modifySegment hE (by simp [clearSuspect]) n)
    · exact h1

theorem TreeKept.stage3Segment (n : Nat) (h : TreeKept T E q s) : TreeKept T E q (stage3Segment n s) := by
  have h1 := h.readSegment hE n
  unfold Machine.stage3Segment
  extract_lets s1
  have hdead {r : SegRec} (hT : T n = some (r.up, r.down)) (b : List NoticeBody) :
      TreeKept T E q (Machine.queueSegmentNotices n b (Machine.writeSegment n (deenergize r) s1)) :=
    TreeKept.queueSegmentNotices n b (h1.writeSegment hE hT)
  split
  · rename_i p r _ hr
    have hT := (h1.records n r hr).1
    have hrunning : TreeKept T E q (stage3Running p n r s1) := by
      unfold stage3Running
      split
      · exact hdead hT _
      · exact h1.judgeSegment hE p hT
    split
    · exact h1
    · split
      · exact hrunning
      · exact hrunning
      · unfold stage3Deenergized
        split
        · exact TreeKept.queueSegmentNotices n _ (h1.writeSegment hE hT)
        · exact h1
      · unfold stage3Settling
        split
        · exact h1
        · split
          · exact hdead hT _
          · exact h1.writeSegment hE hT
      all_goals exact h1
  · exact h1

theorem TreeKept.stage3 (h : TreeKept T E q s) : TreeKept T E q (stage3 s) :=
  forEach_kept (fun n _ hs => hs.stage3Segment hE n) h

theorem TreeKept.stage4Sensor (slot : Nat) (h : TreeKept T E q s) : TreeKept T E q (stage4Sensor slot s) := by
  have h1 := (h.readSensor hE slot).readSegments hE
  unfold Machine.stage4Sensor
  extract_lets s1
  split
  · split
    · extract_lets r' s2
      have h2 : TreeKept T E q s2 := h1.writeSensor slot r'
      split
      · exact h2.modifyPass _
      · exact h2
    · exact h1
  · exact h1

theorem TreeKept.stage4 (h : TreeKept T E q s) : TreeKept T E q (stage4 s) := by
  unfold Machine.stage4
  split
  · exact forEach_kept (fun d _ hs => hs.stage4Sensor hE d) h
  · exact h

theorem TreeKept.passDeadline {n : Nat} {r : SegRec} (hr : T n = some (r.up, r.down)) (h : TreeKept T E q s) :
    TreeKept T E q (passDeadline n r s) := by
  have h1 : TreeKept T E q (Machine.writeSegment n { r with deadline := none, deadlinePassed := true } s) :=
    h.writeSegment hE hr
  unfold Machine.passDeadline
  split
  · exact h1.raiseNow _
  · exact h1

theorem TreeKept.deadlineStart (p : Pass) (n : Nat) (h : TreeKept T E q s) : TreeKept T E q (deadlineStart p n s).1 := by
  have h1 := h.readSegment hE n
  unfold Machine.deadlineStart
  extract_lets s1
  split
  · exact h1
  · rename_i r hr
    have hT := (h1.records n r hr).1
    split
    · extract_lets left
      split
      · exact h1.writeSegment hE hT
      · split
        · exact h1
        · exact h1.passDeadline hE hT
    · exact h1

theorem TreeKept.deadlineStarts (p : Pass) (ns : List Nat) (h : TreeKept T E q s) : TreeKept T E q (deadlineStarts p ns s).1 := by
  induction ns generalizing s with
  | nil => exact h
  | cons n ns ih => exact ih (h.deadlineStart hE p n)

omit hE in
theorem TreeKept.raiseStageNotices (p : Pass) (h : TreeKept T E q s) : TreeKept T E q (raiseStageNotices p s) :=
  (h.raiseAll _ _).raiseAll _ _

theorem TreeKept.stopConfirmed (p : Pass) (h : TreeKept T E q s) : TreeKept T E q (stopConfirmed p s) := by
  refine forEach_kept (fun n t ht => ?_) h
  split
  · exact ht.modifySegment hE (by simp) n
  · exact ht

theorem TreeKept.stepThreeWalk (p : Pass) (ex : List Nat) (n : Nat) (h : TreeKept T E q s) :
    TreeKept T E q (stepThreeWalk p ex n s) := by
  unfold Machine.stepThreeWalk
  split
  · exact h
  · split
    · exact h.confirmWalk hE n _
    · split
      · exact h.confirmWalk hE n _
      · exact h

theorem TreeKept.proofStep (p : Pass) (x : Nat) (h : TreeKept T E q s) : TreeKept T E q (proofStep p x s) := by
  have h1 := h.readInterrupter hE x
  unfold Machine.proofStep
  extract_lets s1
  split
  · exact h1
  · split
    · extract_lets s2
      rename_i r _ _
      have h2 : TreeKept T E q s2 := h1.readSensor hE r.boundary
      split
      · exact h2.openInterrupter hE x _ _
      · exact h2
    · exact h1

omit hE in
theorem TreeKept.noteCorrections (f : FrameNo) (h : TreeKept T E q s) : TreeKept T E q (noteCorrections f s) := by
  unfold Machine.noteCorrections
  split
  · exact h
  · exact TreeKept.raiseAt _ _ (h.congr rfl rfl)

theorem TreeKept.completionSteps (p : Pass) (h : TreeKept T E q s) : TreeKept T E q (completionSteps p s) := by
  have h2 := (h.raiseStageNotices p).deadlineStarts hE p allSegments
  unfold Machine.completionSteps
  dsimp only
  generalize Machine.deadlineStarts p allSegments _ = out at h2 ⊢
  refine TreeKept.noteCorrections _ (TreeKept.raiseAll _ _ ?_)
  refine forEach_kept (fun x _ hs => hs.proofStep hE p x) ?_
  exact forEach_kept (fun n _ hs => hs.stepThreeWalk hE p _ n) (h2.stopConfirmed hE p)

theorem TreeKept.completePass (h : TreeKept T E q s) : TreeKept T E q (completePass s) := by
  unfold Machine.completePass
  split
  · rename_i p _
    have h1 := h.completionSteps hE p
    generalize Machine.completionSteps p s = t at h1 ⊢
    exact h1.congr rfl rfl
  · exact h

omit hE in
theorem TreeKept.runStage {work : State → State} (hw : TreeKept T E q (work s)) (g next : Stage) (h : TreeKept T E q s) :
    TreeKept T E q (runStage g next work s) := by
  unfold Machine.runStage
  split
  · exact hw.modifyPass _
  · exact h

theorem TreeKept.deadlineExpires (n : Nat) (h : TreeKept T E q s) : TreeKept T E q (deadlineExpires n s) := by
  unfold Machine.deadlineExpires
  split
  · exact h
  · split
    · exact h
    · rename_i due _
      have h1 := (h.arriveAt due).readSegment hE n
      extract_lets s1
      split
      · exact h1
      · rename_i r hr
        have hT := (h1.records n r hr).1
        split
        · exact TreeKept.confirmWalk hE n _ (h1.writeSegment hE hT)
        · exact h1.passDeadline hE hT

theorem TreeKept.confirmExpires (x : Nat) (h : TreeKept T E q s) : TreeKept T E q (confirmExpires x s) := by
  unfold Machine.confirmExpires
  split
  · exact h
  · split
    · exact h
    · rename_i due _
      have h1 := (h.arriveAt due).readInterrupter hE x
      extract_lets s1
      split
      · exact h1
      · split
        · exact h1.failTripping hE x _
        · exact h1

omit hE in
theorem TreeKept.pulseExpires (ch : Fin 4) (h : TreeKept T E q s) : TreeKept T E q (pulseExpires ch s) := by
  unfold Machine.pulseExpires
  split
  · exact h
  · exact h.congr rfl rfl

/-! #### The requests on sensors, segments and interrupters -/

theorem TreeKept.takeDefineSensor (slot : Nat) (a : FieldAddress) (ph : PhaseSet) (l : Nat) (h : TreeKept T E q s) :
    TreeKept T E q (takeDefineSensor slot a ph l s).1 := by
  have h1 := h.readSensor hE slot
  have h2 : TreeKept T E q (readAddress a (Machine.readSensor slot s)) := by
    unfold readAddress
    split
    · exact h1.readSensor hE _
    · exact h1
  unfold Machine.takeDefineSensor
  split
  · exact h
  · extract_lets s1 s2
    split
    · exact h1
    · split
      · exact h2
      · exact h2.congr rfl rfl

theorem TreeKept.takeRetireSensor (slot : Nat) (h : TreeKept T E q s) : TreeKept T E q (takeRetireSensor slot s).1 := by
  have h1 := ((h.readSensor hE slot).readSegments hE).readInterrupters hE
  unfold Machine.takeRetireSensor
  split
  · exact h
  · generalize Machine.readInterrupters _ = s1 at h1 ⊢
    simp only
    split
    · exact h1
    · split
      · exact h1
      · exact h1.congr rfl rfl

theorem TreeKept.takeQuerySensor (slot : Nat) (h : TreeKept T E q s) : TreeKept T E q (takeQuerySensor slot s).1 := by
  have h1 := (h.readSensor hE slot).readSegments hE
  unfold Machine.takeQuerySensor
  generalize Machine.readSegments _ = s1 at h1 ⊢
  simp only
  split
  · exact h
  · exact h1
  · exact h1

omit hE in
theorem TreeKept.dropSegment (n : Nat) (h : TreeKept T E q s) (hg : t.segments = dropRow s.segments n) (hl : t.hl = s.hl) :
    TreeKept T E q t where
  requests := by rw [hl, h.requests]
  records m p hp := by
    rw [segmentAt_row, hg, rowAt_dropRow] at hp
    split at hp
    · cases hp
    · exact h.records m p (segmentAt_row.mpr hp)

theorem TreeKept.takeRemoveSegment (n : Nat) (h : TreeKept T E q s) : TreeKept T E q (takeRemoveSegment n s).1 := by
  have h1 := h.readSegment hE n
  unfold Machine.takeRemoveSegment
  split
  · exact h
  · extract_lets s1
    split
    · exact h1
    · exact h1.dropSegment n rfl rfl

theorem TreeKept.takeQuerySegment (n : Nat) (h : TreeKept T E q s) : TreeKept T E q (takeQuerySegment n s).1 := by
  have h1 := h.readSegments hE
  have h2 : TreeKept T E q (readForEstimate n (Machine.readSegments s)) := by
    unfold readForEstimate
    split
    · exact h1.readSensors hE _
    · exact h1
  unfold Machine.takeQuerySegment
  generalize readForEstimate n _ = s2 at h2 ⊢
  simp only
  split
  · exact h
  · exact h2
  · exact h2

theorem TreeKept.takeReleaseSegment (n : Nat) (h : TreeKept T E q s) : TreeKept T E q (takeReleaseSegment n s).1 := by
  have h1 := h.readSegment hE n
  unfold Machine.takeReleaseSegment
  split
  · exact h
  · extract_lets s1
    split
    · exact h1
    · rename_i r hr
      split
      · exact forEach_kept (fun d _ hs => (hs.readSensor hE d).modifySensor d unseed)
          (h1.writeSegment hE (h1.records n r hr).1)
      · exact h1

theorem TreeKept.takeRestoreSegment (n : Nat) (h : TreeKept T E q s) : TreeKept T E q (takeRestoreSegment n s).1 := by
  have h1 := h.readSegment hE n
  unfold Machine.takeRestoreSegment
  split
  · exact h
  · extract_lets s1
    split
    · exact h1
    · extract_lets members s2
      have h2 : TreeKept T E q s2 := h1.readSensors hE members
      split
      · exact h2
      · exact h2.modifySegment hE (by simp) n

theorem TreeKept.takeDefineInterrupter (x : Nat) (k : InterrupterKind) (slot c : Nat) (h : TreeKept T E q s) :
    TreeKept T E q (takeDefineInterrupter x k slot c s).1 := by
  have h1 := h.readSensor hE slot
  have h2 := h1.readInterrupters hE
  unfold Machine.takeDefineInterrupter
  split
  · exact h
  · split
    · exact h
    · simp only
      split
      · exact h1
      · generalize Machine.readInterrupters _ = s2 at h2 ⊢
        split
        · exact h2
        · split
          · exact h2
          · exact h2.writeInterrupter x _

theorem TreeKept.takeRemoveInterrupter (x : Nat) (h : TreeKept T E q s) : TreeKept T E q (takeRemoveInterrupter x s).1 := by
  have h1 := h.readInterrupter hE x
  unfold Machine.takeRemoveInterrupter
  split
  · exact h
  · extract_lets s1
    split
    · exact h1
    · exact h1.congr rfl rfl

theorem TreeKept.takeQueryInterrupter (x : Nat) (h : TreeKept T E q s) : TreeKept T E q (takeQueryInterrupter x s).1 := by
  have h1 := h.readInterrupter hE x
  unfold Machine.takeQueryInterrupter
  extract_lets s1
  split
  · exact h
  · exact h1
  · exact h1

theorem TreeKept.onInterrupter {f : IntRec → State → State × Answer}
    (hf : ∀ r t, TreeKept T E q t → TreeKept T E q (f r t).1) (x : Nat) (h : TreeKept T E q s) :
    TreeKept T E q (onInterrupter x f s).1 := by
  have h1 := h.readInterrupter hE x
  unfold Machine.onInterrupter
  split
  · exact h
  · extract_lets s1
    split
    · exact h1
    · exact hf _ _ h1

theorem TreeKept.takeSetArm (x : Nat) (v : Bool) (h : TreeKept T E q s) : TreeKept T E q (takeSetArm x v s).1 :=
  h.onInterrupter hE (fun _ _ ht => ht.writeInterrupter x _) x

theorem TreeKept.takeAckTrip (x : Nat) (h : TreeKept T E q s) : TreeKept T E q (takeAckTrip x s).1 := by
  refine h.onInterrupter hE (fun r t ht => ?_) x
  split
  · exact ht
  · exact ht.writeInterrupter x _

theorem TreeKept.reportOpen (x : Nat) (r : IntRec) (h : TreeKept T E q s) : TreeKept T E q (reportOpen x r s) := by
  unfold Machine.reportOpen
  split
  · exact h.openInterrupter hE x _ _
  · exact (h.writeInterrupter x _).raiseNow _
  · exact (h.writeInterrupter x _).raiseNow _
  · exact (h.writeInterrupter x _).raiseNow _
  · exact h

omit hE in
theorem TreeKept.reportClosed (x : Nat) (r : IntRec) (h : TreeKept T E q s) : TreeKept T E q (reportClosed x r s) := by
  unfold Machine.reportClosed
  split
  · exact h.writeInterrupter x _
  · exact h.writeInterrupter x _
  · exact h.writeInterrupter x _
  · exact h
  · exact h

theorem TreeKept.reportFailed (x : Nat) (r : IntRec) (h : TreeKept T E q s) : TreeKept T E q (reportFailed x r s) := by
  unfold Machine.reportFailed
  split
  · exact h.failTripping hE x _
  all_goals exact h.writeInterrupter x _

theorem TreeKept.takeInterrupterState (x p : Nat) (h : TreeKept T E q s) : TreeKept T E q (takeInterrupterState x p s).1 := by
  refine h.onInterrupter hE (fun r t ht => ?_) x
  split
  · exact ht.reportOpen hE x r
  · split
    · split
      · exact ht
      · exact ht.reportClosed x r
    · exact ht.reportFailed hE x r

/-! #### The requests on the part as a whole -/

theorem TreeKept.rewriteSensors (f : SensorRec → SensorRec) (h : TreeKept T E q s) : TreeKept T E q (rewriteSensors f s) :=
  forEach_kept (fun d _ hs => (hs.readSensor hE d).modifySensor d f) h

theorem TreeKept.rewriteSegments {f : State → SegRec → SegRec} (hf : ∀ u r, (f u r).up = r.up ∧ (f u r).down = r.down)
    (h : TreeKept T E q s) : TreeKept T E q (rewriteSegments f s) :=
  forEach_kept (fun n _ hs => (hs.readSegment hE n).modifySegment hE (hf _) n) h

theorem TreeKept.rewriteInterrupters (f : IntRec → IntRec) (h : TreeKept T E q s) : TreeKept T E q (rewriteInterrupters f s) :=
  forEach_kept (fun x _ hs => (hs.readInterrupter hE x).modifyInterrupter x f) h

theorem TreeKept.enterRun (h : TreeKept T E q s) : TreeKept T E q (enterRun s) := by
  have h1 : TreeKept T E q (if s.mc.runEntered then s else Machine.rewriteSensors unseed s) := by
    split
    · exact h
    · exact h.rewriteSensors hE _
  exact h1.congr rfl rfl

omit hE in
theorem holdEntry_boundary (r : SegRec) : (holdEntry r).up = r.up ∧ (holdEntry r).down = r.down := by
  unfold holdEntry
  split <;> exact ⟨rfl, rfl⟩

theorem TreeKept.enterHold (h : TreeKept T E q s) : TreeKept T E q (enterHold s) :=
  TreeKept.rewriteSegments hE (fun _ r => holdEntry_boundary r) (h.congr rfl rfl)

theorem TreeKept.takeSetMode (toRun : Bool) (h : TreeKept T E q s) : TreeKept T E q (takeSetMode toRun s).1 := by
  unfold Machine.takeSetMode
  split
  · split
    · exact h
    · split
      · exact h.enterRun hE
      · exact h
  · split
    · exact h
    · split
      · exact h
      · dsimp only
        exact h.enterHold hE

/-- RESTART empties the request buffer and keeps the tree. -/
theorem TreeKept.restartEffects (h : TreeKept T E q s) : TreeKept T E [] (restartEffects s) := by
  have h0 : TreeKept T E [] (restartBlocks s) := ⟨rfl, h.records⟩
  have h3 := TreeKept.rewriteInterrupters hE restartInterrupter
    (TreeKept.rewriteSegments hE (f := restartSegment) (fun _ _ => ⟨rfl, rfl⟩) (h0.rewriteSensors hE restartSensor))
  unfold Machine.restartEffects
  generalize Machine.rewriteInterrupters _ _ = t at h3 ⊢
  exact h3.congr rfl rfl

theorem TreeKept.takeSetTimebase (p : Nat) (e : Bool) (next : Option FrameNo) (h : TreeKept T E q s) :
    TreeKept T E q (takeSetTimebase p e next s).1 := by
  unfold Machine.takeSetTimebase
  extract_lets t
  have ht : TreeKept T E q t := by
    unfold t
    split
    · exact h
    · unfold restartTimebase
      extract_lets new ft u
      have hu : TreeKept T E q u := h.congr rfl rfl
      split
      · exact hu
      · exact hu.enterTimebase _ _
  split
  · dsimp only
    exact TreeKept.rewriteSensors hE _ (ht.congr rfl rfl)
  · exact ht

theorem TreeKept.adjustSensor (old new slot : Nat) (h : TreeKept T E q s) : TreeKept T E q (adjustSensor old new slot s) := by
  have h1 := h.readSensor hE slot
  unfold Machine.adjustSensor
  extract_lets t
  split
  · exact h1
  · extract_lets u
    have hu : TreeKept T E q u := h1.writeSensor slot _
    split
    · exact hu.raiseNow _
    · exact hu

theorem TreeKept.takeSetParams (ps : List ParamPair) (h : TreeKept T E q s) : TreeKept T E q (takeSetParams ps s).1 := by
  unfold Machine.takeSetParams
  extract_lets new t
  have ht : TreeKept T E q t := h.congr rfl rfl
  split
  · exact ht
  · dsimp only
    exact forEach_kept (fun d _ hs => hs.adjustSensor hE _ _ d) ht

theorem TreeKept.takeConfigTripOutputs (es : List ChannelSetting) (h : TreeKept T E q s) :
    TreeKept T E q (takeConfigTripOutputs es s).1 := by
  have h1 := h.readInterrupters hE
  unfold Machine.takeConfigTripOutputs
  split
  · exact h
  · generalize Machine.readInterrupters s = s1 at h1 ⊢
    dsimp only
    split
    · exact h1
    · split
      · exact h1
      · refine List.foldlRecOn (motive := TreeKept T E q) es _ h1 fun t ht e _ => ?_
        exact ht.congr rfl rfl

theorem TreeKept.takeReport (es : List ReportEntry) (h : TreeKept T E q s) : TreeKept T E q (takeReport es s).1 :=
  h.judgeEntries hE es

omit hE in
theorem TreeKept.takeClearCounts (token : BitVec 8) (h : TreeKept T E q s) : TreeKept T E q (takeClearCounts token s).1 := by
  unfold Machine.takeClearCounts
  split
  · exact h
  · split
    · exact h.congr rfl rfl
    · exact h

/-- Every request but DEFINE_SEGMENT and INJECT keeps the tree when its owner acts on it. -/
theorem TreeKept.act (r : Request) (hdef : ∀ n ph up b p i d, r ≠ .defineSegment n ph up b p i d)
    (hinj : ∀ a b c d, r ≠ .inject a b c d) (h : TreeKept T E q s) : TreeKept T E q (act r s).1 := by
  unfold Machine.act
  cases r with
  | identify | getStatus | restart | selfTest | unknownKind | malformed => exact h
  | setMode => exact h.takeSetMode hE _
  | setTimebase => exact h.takeSetTimebase hE _ _ _
  | setProfile | setInhibit | fetchNotices | getCounts => exact h.congr rfl rfl
  | setParams => exact h.takeSetParams hE _
  | defineSensor => exact h.takeDefineSensor hE _ _ _ _
  | retireSensor =>
    dsimp only
    exact h.takeRetireSensor hE _
  | querySensor =>
    dsimp only
    exact h.takeQuerySensor hE _
  | defineSegment => exact absurd rfl (hdef _ _ _ _ _ _ _)
  | removeSegment => exact h.takeRemoveSegment hE _
  | querySegment =>
    dsimp only
    exact h.takeQuerySegment hE _
  | releaseSegment => exact h.takeReleaseSegment hE _
  | restoreSegment => exact h.takeRestoreSegment hE _
  | defineInterrupter => exact h.takeDefineInterrupter hE _ _ _ _
  | removeInterrupter => exact h.takeRemoveInterrupter hE _
  | queryInterrupter => exact h.takeQueryInterrupter hE _
  | setArm => exact h.takeSetArm hE _ _
  | interrupterState => exact h.takeInterrupterState hE _ _
  | ackTrip => exact h.takeAckTrip hE _
  | configTripOutputs =>
    dsimp only
    exact h.takeConfigTripOutputs hE _
  | report => exact h.takeReport hE _
  | clearCounts => exact h.takeClearCounts _
  | inject => exact absurd rfl (hinj _ _ _ _)

end
end Sys2Proof.Machine
end

section
namespace Sys2Proof.Machine

/-! ### Searches of the tree (R7) -/

theorem inTreeWith_iff {s : State} {f : SegRec → Bool} {n : Nat} :
    inTreeWith s f n = true ↔ ∃ r, segmentAt s n = some r ∧ f r = true := by
  unfold inTreeWith
  split <;> simp_all

theorem find_inTreeWith_none {s : State} {f : SegRec → Bool} :
    allSegments.find? (inTreeWith s f) = none ↔ ∀ m < 40, ∀ p, segmentAt s m = some p → f p = false := by
  simp only [List.find?_eq_none, mem_allSegments, inTreeWith_iff, not_exists, not_and, Bool.not_eq_true]

/-- A search of the tree finds the lowest segment that meets the test. -/
theorem find_inTreeWith_some {s : State} {f : SegRec → Bool} {g : Nat} {q : SegRec} (hg : g < 40) (hq : segmentAt s g = some q)
    (hf : f q = true) (hlow : ∀ m < g, ∀ p, segmentAt s m = some p → f p = false) :
    allSegments.find? (inTreeWith s f) = some g := by
  have hb : inTreeWith s f g = true := inTreeWith_iff.mpr ⟨q, hq, hf⟩
  rw [allSegments, List.find?_range_eq_some]
  refine ⟨hb, List.mem_range.mpr hg, fun m hm => ?_⟩
  rw [Bool.not_eq_true', ← Bool.not_eq_true, inTreeWith_iff]
  rintro ⟨p, hp, hfp⟩
  rw [hlow m hm p hp] at hfp
  cases hfp

theorem segmentBelow_none {s : State} {u : Nat} :
    segmentBelow s u = none ↔ ∀ m < 40, ∀ p, segmentAt s m = some p → p.up ≠ u := by
  rw [segmentBelow, find_inTreeWith_none]
  simp

theorem segmentAbove_none {s : State} {d : Nat} :
    segmentAbove s d = none ↔ ∀ m < 40, ∀ p, segmentAt s m = some p → d ∉ p.down := by
  rw [segmentAbove, find_inTreeWith_none]
  simp

/-- The state with the record of segment n set aside (R10). -/
def setAside (n : Nat) (s : State) : State := { s with segments := dropRow s.segments n }

theorem segmentAt_setAside (n m : Nat) (s : State) : segmentAt (setAside n s) m = if m = n then none else segmentAt s m := by
  unfold segmentAt setAside
  rw [rowAt_dropRow]
  by_cases h : m = n <;> simp [h]

theorem topologyFault_eq (s : State) (n : Nat) (ph : PhaseSet) (up : Nat) (down : List Nat) :
    topologyFault s n ph up down =
      (((selfList up down).or (sensorShared (setAside n s) up down)).or (cycle (setAside n s) up down)).or
        (phaseFault (setAside n s) ph up down) := rfl

theorem firstSome_none {α : Type} {f : Nat → Option α} {l : List Nat} : firstSome f l = none ↔ ∀ d ∈ l, f d = none := by
  induction l with
  | nil => simp [firstSome]
  | cons n rest ih =>
    unfold firstSome
    cases hn : f n <;> simp [hn, ih]

theorem sensorShared_none {s : State} {up : Nat} {down : List Nat} :
    sensorShared s up down = none ↔ segmentBelow s up = none ∧ ∀ d ∈ down, segmentAbove s d = none := by
  unfold sensorShared
  cases hb : segmentBelow s up <;> simp [firstSome_none]

/-- A definition that the tree checks pass shares no sensor with another segment (R11 order 2). -/
theorem notShared_of_topologyFault {s : State} {n : Nat} {ph : PhaseSet} {up : Nat} {down : List Nat}
    (h : topologyFault s n ph up down = none) {m : Nat} (hm : m < 40) (hmn : m ≠ n) {p : SegRec} (hp : segmentAt s m = some p) :
    p.up ≠ up ∧ ∀ d ∈ down, d ∉ p.down := by
  rw [topologyFault_eq] at h
  simp only [Option.or_eq_none_iff] at h
  obtain ⟨⟨⟨-, hshared⟩, -⟩, -⟩ := h
  obtain ⟨hup, hdown⟩ := sensorShared_none.mp hshared
  have hp' : segmentAt (setAside n s) m = some p := by rw [segmentAt_setAside, if_neg hmn, hp]
  exact ⟨segmentBelow_none.mp hup m hm p hp', fun d hd => segmentAbove_none.mp (hdown d hd) m hm p hp'⟩

/-! ### Sensors shared by no two segments (R11) -/

/-- Where the segment records of a state stand in the tree. -/
def treeOf (s : State) (n : Nat) : Option (Nat × List Nat) := (segmentAt s n).map fun r => (r.up, r.down)

theorem treeKept_self {E : BitVec 32 → Prop} {s : State} (h : ∀ n r, segmentAt s n = some r → E r.err) :
    TreeKept (treeOf s) E s.hl.requests s where
  requests := rfl
  records n r hr := ⟨by rw [treeOf, hr]; rfl, h n r hr⟩

/-- Records that name no sensor but those they named keep the law of R11. -/
theorem sharesNoSensor_of_tree {s t : State} (hs : sharesNoSensor s)
    (h : ∀ n r, segmentAt t n = some r → treeOf s n = some (r.up, r.down)) : sharesNoSensor t := by
  intro m n p r hm hn hp hr hmn
  have hp' := h m p hp
  have hr' := h n r hr
  simp only [treeOf, Option.map_eq_some_iff, Prod.mk.injEq] at hp' hr'
  obtain ⟨p', hp1, hp2, hp3⟩ := hp'
  obtain ⟨r', hr1, hr2, hr3⟩ := hr'
  rw [← hp2, ← hr2, ← hp3, ← hr3]
  exact hs m n p' r' hm hn hp1 hr1 hmn

theorem TreeKept.shares {E : BitVec 32 → Prop} {q : List Request} {s t : State} (h : TreeKept (treeOf s) E q t)
    (hs : sharesNoSensor s) : sharesNoSensor t :=
  sharesNoSensor_of_tree hs fun n r hr => (h.records n r hr).1

/-- A segment defined with sensors that no other names keeps the law of R11. -/
theorem sharesNoSensor_writeSegment {s : State} (hs : sharesNoSensor s) {n : Nat} {r : SegRec}
    (h : ∀ m < 40, m ≠ n → ∀ p, segmentAt s m = some p → p.up ≠ r.up ∧ ∀ d ∈ r.down, d ∉ p.down) :
    sharesNoSensor (writeSegment n r s) := by
  intro i j p q hi hj hp hq hij
  rw [segmentAt_writeSegment] at hp hq
  split at hp
  · subst i
    cases hp
    rw [if_neg (Ne.symm hij)] at hq
    obtain ⟨hup, hdown⟩ := h j hj (Ne.symm hij) q hq
    exact ⟨Ne.symm hup, hdown⟩
  · rename_i hin
    split at hq
    · subst j
      cases hq
      obtain ⟨hup, hdown⟩ := h i hi hin p hp
      exact ⟨hup, fun d hd hd' => hdown d hd' hd⟩
    · exact hs i j p q hi hj hp hq hij

/-! ### What a taken request does to the tree -/

theorem invertedBits_le_mask {position : Nat} (double : Bool) : invertedBits (injectMask double position) ≤ 2 := by
  by_cases h : position < 32
  · have hall : ∀ (b : Bool) (p : Fin 32), invertedBits (injectMask b p.val) ≤ 2 := by decide +kernel
    exact hall double ⟨position, h⟩
  · have hz : 1#32 <<< position = 0#32 := BitVec.shiftLeft_eq_zero (by omega)
    cases double with
    | false => simp [injectMask, hz]
    | true =>
      have h31 : ¬ position < 31 := by omega
      simp only [injectMask, h31, if_true, if_false]
      decide

/-- What DEFINE_SEGMENT does to the tree: nothing, or it writes a record that the tree checks have passed. -/
theorem takeDefineSegment_tree {T : Nat → Option (Nat × List Nat)} {E : BitVec 32 → Prop} {q : List Request} (hE : Readable E)
    {s : State} (n : Nat) (d : SegmentFields) (h : TreeKept T E q s) :
    TreeKept T E q (takeDefineSegment n d s).1 ∨
    ∃ u, TreeKept T E q u ∧ topologyFault u n d.phases d.up d.down = none ∧
      (takeDefineSegment n d s).1 = writeSegment n (freshSegment u d) u ∧ (takeDefineSegment n d s).2.follow ≠ .restart := by
  unfold takeDefineSegment
  split
  · exact .inl h
  · split
    · exact .inl h
    · have h1 := h.readSensors hE (d.up :: d.down)
      have h2 := h1.readSegments hE
      dsimp only
      split
      · exact .inl h1
      · generalize readSegments _ = u at h2 ⊢
        unfold defineSegmentChecked
        split
        · exact .inl h2
        · split
          · exact .inl h2
          · rename_i hnone
            refine .inr ⟨u, h2, hnone, rfl, ?_⟩
            unfold definedAnswer
            extract_lets fields
            split <;> simp [answer, okWith]

/-- What INJECT does to the tree: nothing, or it inverts at most two bits of one record. -/
theorem takeInject_tree {T : Nat → Option (Nat × List Nat)} {E : BitVec 32 → Prop} {q : List Request} {s : State}
    (target number position : Nat) (double : Bool) (h : TreeKept T E q s) :
    TreeKept T E q (takeInject target number double position s).1 ∨
    ((takeInject target number double position s).2.follow ≠ .restart ∧
      ∃ n p mask, segmentAt s n = some p ∧ invertedBits mask ≤ 2 ∧
        (takeInject target number double position s).1 =
          { s with segments := setRow s.segments n (.live { p with err := p.err ^^^ mask }) }) := by
  unfold takeInject
  split
  · unfold injectSensor
    split
    · exact .inl h
    · exact .inl h
    · exact .inl (h.congr rfl rfl)
  · unfold injectSegment
    split
    · exact .inl h
    · exact .inl h
    · rename_i p hp
      exact .inr ⟨by simp [okWith, answer], number, p, _, segmentAt_row.mpr hp, invertedBits_le_mask double, rfl⟩
  · unfold injectInterrupter
    split
    · exact .inl h
    · exact .inl h
    · exact .inl (h.congr rfl rfl)
  · exact .inl ⟨h.requests, h.records⟩

/-- What a request does to the tree when it is judged: nothing, or what DEFINE_SEGMENT or INJECT does. -/
theorem perform_tree {T : Nat → Option (Nat × List Nat)} {E : BitVec 32 → Prop} {q : List Request} (hE : Readable E) {s : State}
    (r : Request) (h : TreeKept T E q s) :
    TreeKept T E q (perform r s).1 ∨
    ((perform r s).2.follow ≠ .restart ∧ ((∃ n d u, TreeKept T E q u ∧ topologyFault u n d.phases d.up d.down = none ∧
        (perform r s).1 = writeSegment n (freshSegment u d) u) ∨
      ∃ n p mask, segmentAt s n = some p ∧ invertedBits mask ≤ 2 ∧
        (perform r s).1 = { s with segments := setRow s.segments n (.live { p with err := p.err ^^^ mask }) })) := by
  unfold perform
  split
  · exact .inl h
  · split
    · exact .inl h
    · by_cases hdef : ∃ n ph up b p i d, r = .defineSegment n ph up b p i d
      · obtain ⟨n, ph, up, b, p, i, d, rfl⟩ := hdef
        rcases takeDefineSegment_tree hE n.toNat (segmentFieldsOf ph up b p i d) h with
          hk | ⟨u, hu, hnone, he, hfollow⟩
        · exact .inl hk
        · exact .inr ⟨hfollow, .inl ⟨_, _, u, hu, hnone, he⟩⟩
      · by_cases hinj : ∃ a b c d, r = .inject a b c d
        · obtain ⟨a, b, c, d, rfl⟩ := hinj
          rcases takeInject_tree a.toNat b.toNat d.toNat (c == 1) h with hk | ⟨hfollow, hm⟩
          · exact .inl hk
          · exact .inr ⟨hfollow, .inr hm⟩
        · refine .inl (h.act hE r (fun n ph up b p i d e => hdef ⟨n, ph, up, b, p, i, d, e⟩)
            fun a b c d e => hinj ⟨a, b, c, d, e⟩)

/-! ### The law while requests are held -/

/-- The inverted bits a segment record may hold while that many requests are held: an INJECT among them may add two, and none is
left to read a record after the last. -/
def errorsBefore : Nat → BitVec 32 → Prop
  | 0, _ => True
  | 1, e => invertedBits e ≤ 2
  | _ + 2, e => e = 0

/-- The law of R11, with what the held requests need to keep it. -/
structure SensorLaw (s : State) : Prop where
  shares : sharesNoSensor s
  held : s.hl.requests.length ≤ 2
  errors : ∀ n r, segmentAt s n = some r → errorsBefore s.hl.requests.length r.err

theorem errorsBefore_zero (k : Nat) : errorsBefore k 0 := by
  match k with
  | 0 => exact trivial
  | 1 => simp [errorsBefore]
  | _ + 2 => rfl

theorem errorsBefore_succ {k : Nat} {e : BitVec 32} (h : errorsBefore (k + 1) e) : errorsBefore k e := by
  match k with
  | 0 => exact trivial
  | 1 =>
    have h0 : e = 0#32 := h
    simp [errorsBefore, h0]
  | _ + 2 => exact h

theorem readable_errorsBefore (k : Nat) : Readable (errorsBefore (k + 1)) := by
  refine ⟨errorsBefore_zero _, fun e he => ?_⟩
  match k with
  | 0 => exact he
  | _ + 1 =>
    have h0 : e = 0#32 := he
    simp [h0]

/-- Bits inverted in a record while at most one more request is held leave what that request may meet. -/
theorem errorsBefore_inject {k : Nat} (hk : k ≤ 1) {e mask : BitVec 32} (h : errorsBefore (k + 1) e)
    (hm : invertedBits mask ≤ 2) : errorsBefore k (e ^^^ mask) := by
  match k with
  | 0 => exact trivial
  | 1 =>
    have h0 : e = 0#32 := h
    simpa [errorsBefore, h0] using hm

theorem SensorLaw.congr {s t : State} (h : SensorLaw s) (hg : t.segments = s.segments)
    (hl : t.hl.requests = s.hl.requests) : SensorLaw t where
  shares := sharesNoSensor_of_tree h.shares fun n r hr => by
    rw [segmentAt_congr hg] at hr
    rw [treeOf, hr]
    rfl
  held := by rw [hl]; exact h.held
  errors n r hr := by
    rw [segmentAt_congr hg] at hr
    rw [hl]
    exact h.errors n r hr

theorem SensorLaw.treeKept {s : State} (h : SensorLaw s) :
    TreeKept (treeOf s) (errorsBefore s.hl.requests.length) s.hl.requests s :=
  treeKept_self h.errors

theorem segmentAt_setRow_live (n m : Nat) (r : SegRec) (s : State) :
    segmentAt { s with segments := setRow s.segments n (.live r) } m = if m = n then some r else segmentAt s m := by
  unfold segmentAt
  rw [rowAt_setRow]
  by_cases hm : m = n <;> simp [hm]

/-- Once the executing request has left the buffer the law stands, if its action has left what the requests behind it need. -/
theorem SensorLaw.handOver {t : State} {r : Request} {rest : List Request} (hs : sharesNoSensor t)
    (hq : t.hl.requests = r :: rest) (hk : rest.length ≤ 1)
    (he : ∀ n p, segmentAt t n = some p → errorsBefore rest.length p.err) (reply : Reply) : SensorLaw (handOver reply t) := by
  have hrest : (Machine.handOver reply t).hl.requests = rest := by simp [Machine.handOver, hq]
  refine ⟨hs, ?_, ?_⟩ <;> rw [hrest]
  · omega
  · exact he

theorem TreeKept.handOver {T : Nat → Option (Nat × List Nat)} {E : BitVec 32 → Prop} {r : Request} {rest : List Request}
    {t : State} (h : TreeKept T E (r :: rest) t) (reply : Reply) : TreeKept T E rest (handOver reply t) where
  requests := by simp [Machine.handOver, h.requests]
  records := h.records

/-- The taking of a request keeps the law of R11. -/
theorem SensorLaw.takeRequest {s : State} (h : SensorLaw s) {r : Request} {rest : List Request}
    (hq : s.hl.requests = r :: rest) : SensorLaw (takeRequest r s) := by
  have hk : rest.length ≤ 1 := by
    have := h.held
    rw [hq, List.length_cons] at this
    omega
  have hE := readable_errorsBefore rest.length
  have ht : TreeKept (treeOf s) (errorsBefore (rest.length + 1)) (r :: rest) (spendBadCheck s) := by
    have hself := h.treeKept
    rw [hq] at hself
    exact ⟨hself.requests, hself.records⟩
  have htree := perform_tree hE r ht
  unfold Machine.takeRequest
  generalize perform r (spendBadCheck s) = out at htree ⊢
  extract_lets out' t u
  rcases htree with hkept | ⟨hfollow, ⟨n, d, v, hv, hnone, he⟩ | ⟨n, p, mask, hp, hmask, he⟩⟩
  · have htk : TreeKept (treeOf s) (errorsBefore (rest.length + 1)) (r :: rest) t := hkept.settleUrgency _
    split
    · have hu := (htk.handOver (formReply r out.2 s.hl.badCheckNext t)).restartEffects hE
      change SensorLaw (Machine.restartEffects u)
      generalize Machine.restartEffects u = v at hu ⊢
      have hnone : v.hl.requests = [] := hu.requests
      exact ⟨hu.shares h.shares, by simp [hnone], fun n r _ => by rw [hnone]; exact True.intro⟩
    · exact SensorLaw.handOver (htk.shares h.shares) htk.requests hk (fun n p hp => errorsBefore_succ (htk.records n p hp).2) _
  · rw [if_neg hfollow]
    have hseg (m : Nat) : segmentAt t m = segmentAt (writeSegment n (freshSegment v d) v) m :=
      segmentAt_congr (by simp [t, out', he]) m
    refine SensorLaw.handOver ?_ (r := r) ?_ hk (fun m p hp => ?_) _
    · exact fun i j => by
        rw [hseg, hseg]
        exact sharesNoSensor_writeSegment (hv.shares h.shares)
          (fun m hm hmn p hp => notShared_of_topologyFault hnone hm hmn hp) i j
    · simp [t, out', he, hv.requests]
    · rw [hseg, segmentAt_writeSegment] at hp
      split at hp
      · cases hp
        exact errorsBefore_zero _
      · exact errorsBefore_succ (hv.records m p hp).2
  · rw [if_neg hfollow]
    have hseg (m : Nat) : segmentAt t m = if m = n then some { p with err := p.err ^^^ mask } else segmentAt s m := by
      rw [segmentAt_congr (t := t) (s := { spendBadCheck s with
        segments := setRow s.segments n (.live { p with err := p.err ^^^ mask }) }) (by simp [t, out', he, spendBadCheck])]
      exact segmentAt_setRow_live n m _ (spendBadCheck s)
    refine SensorLaw.handOver ?_ (r := r) ?_ hk (fun m x hx => ?_) _
    · refine sharesNoSensor_of_tree h.shares fun m x hx => ?_
      rw [hseg] at hx
      split at hx
      · cases hx
        subst m
        exact (ht.records n p hp).1
      · exact (ht.records m x hx).1
    · simpa [t, out', he] using ht.requests
    · rw [hseg] at hx
      split at hx
      · cases hx
        exact errorsBefore_inject hk (ht.records n p hp).2 hmask
      · exact errorsBefore_succ (ht.records m x hx).2

/-- The taking of every request that may be taken keeps the law of R11. -/
theorem SensorLaw.serveUpTo (n : Nat) {s : State} (h : SensorLaw s) : SensorLaw (serveUpTo n s) := by
  induction n generalizing s with
  | zero => exact h
  | succ n ih =>
    unfold Machine.serveUpTo
    split
    · exact h
    · rename_i r rest hq
      split
      · exact ih (h.takeRequest hq)
      · exact h

/-! ### Every command -/

section
variable {T : Nat → Option (Nat × List Nat)} {E : BitVec 32 → Prop} {q : List Request} {s t : State}

theorem TreeKept.congr_requests (h : TreeKept T E q s) (hg : t.segments = s.segments) (hl : t.hl.requests = s.hl.requests) :
    TreeKept T E q t where
  requests := by rw [hl, h.requests]
  records n r hr := h.records n r (by rwa [segmentAt_congr hg] at hr)

/-- A request is buffered, or discarded as an overrun (R168). -/
theorem TreeKept.buffer (h : TreeKept T E q s) (hq : q.length ≤ 2) (r : Request) :
    ∃ q', q'.length ≤ 2 ∧ TreeKept T E q' (buffer r s) := by
  unfold Machine.buffer
  split
  · rename_i hlen
    rw [h.requests] at hlen
    exact ⟨q ++ [r], by simp; omega, by simp [h.requests], h.records⟩
  · exact ⟨q, hq, h.congr_requests rfl rfl⟩

theorem TreeKept.dropOther (a : Byte) (h : TreeKept T E q s) : TreeKept T E q (dropOther a s) :=
  h.congr (by simp) (by simp)

theorem TreeKept.setRx (x : RxState) (h : TreeKept T E q s) : TreeKept T E q (setRx x s) := h.congr_requests rfl rfl

theorem TreeKept.bump (c : CountName) (h : TreeKept T E q s) : TreeKept T E q (bump c s) := h.congr rfl rfl

theorem TreeKept.requestArrives (h : TreeKept T E q s) (hq : q.length ≤ 2) (r : Request) :
    ∃ q', q'.length ≤ 2 ∧ TreeKept T E q' (requestArrives r s) := by
  unfold Machine.requestArrives
  split
  · exact ((h.dropOther _).setRx _).buffer hq r
  · exact ⟨q, hq, h⟩

theorem TreeKept.markedCharacter (a : Byte) (h : TreeKept T E q s) : TreeKept T E q (markedCharacter a s) := by
  unfold Machine.markedCharacter
  split
  · extract_lets u
    have hu : TreeKept T E q u := by
      unfold u
      split
      · exact h.bump _
      · exact h
    split <;> exact hu.setRx _
  · exact h

theorem TreeKept.messageArrives (h : TreeKept T E q s) (hq : q.length ≤ 2) (a : Byte) (payload : List Byte) (check : Half) :
    ∃ q', q'.length ≤ 2 ∧ TreeKept T E q' (messageArrives a payload check s) := by
  have hd := h.dropOther a
  unfold Machine.messageArrives
  split
  · exact ⟨q, hq, h⟩
  · split
    · exact ⟨q, hq, h.markedCharacter a⟩
    · dsimp only
      split
      · exact ⟨q, hq, (hd.bump _).setRx _⟩
      · split
        · exact ⟨q, hq, (hd.setRx _).bump _⟩
        · split
          · exact ⟨q, hq, hd.setRx _⟩
          · exact (hd.setRx _).buffer hq _

theorem TreeKept.breakArrives (h : TreeKept T E q s) : TreeKept T E q (breakArrives s) := by
  unfold Machine.breakArrives
  split
  · exact (h.bump _).setRx _
  · exact h

theorem TreeKept.framingArrives (c : FramingCause) (h : TreeKept T E q s) : TreeKept T E q (framingArrives c s) := by
  unfold Machine.framingArrives
  split
  · split
    · exact (h.bump _).setRx _
    · split
      · exact (h.bump _).setRx _
      · exact h
  · exact h

theorem TreeKept.gapArrives (h : TreeKept T E q s) : TreeKept T E q (gapArrives s) := by
  unfold Machine.gapArrives
  split
  · split
    · exact h
    · exact (h.bump _).setRx _
    · exact h.setRx _
  · exact h

theorem TreeKept.sendStarts (h : TreeKept T E q s) : TreeKept T E q (sendStarts s) := by
  unfold Machine.sendStarts
  split
  · exact h.congr_requests rfl rfl
  · exact h

theorem rowAt_map {α β : Type} (f : α → β) (tab : Table α) (k : Nat) :
    rowAt (tab.map fun p => (p.1, f p.2)) k = (rowAt tab k).map f := by
  induction tab with
  | nil => rfl
  | cons p rest ih =>
    obtain ⟨j, v⟩ := p
    by_cases h : j = k <;> simp [rowAt, h, ih]

/-- A hard reset keeps the sensors each record names, and its inverted bits (log 16). -/
theorem segmentAt_hardReset {st baud : BitVec 2} {n : Nat} {r : SegRec} (h : segmentAt (hardReset st baud s) n = some r) :
    ∃ p, segmentAt s n = some p ∧ r = { p with deadline := none } := by
  rw [segmentAt_row, hardReset_segments, rowAt_map, Option.map_eq_some_iff] at h
  obtain ⟨place, hplace, hstop⟩ := h
  cases place with
  | live p =>
    cases hstop
    exact ⟨p, segmentAt_row.mpr hplace, rfl⟩
  | quarantined => cases hstop

theorem TreeKept.hardReset (st baud : BitVec 2) (h : TreeKept T E q s) : TreeKept T E [] (hardReset st baud s) where
  requests := rfl
  records n r hr := by
    obtain ⟨p, hp, rfl⟩ := segmentAt_hardReset hr
    exact h.records n p hp

theorem TreeKept.replyEnds (h : TreeKept T E q s) (hq : q.length ≤ 2) :
    ∃ q', q'.length ≤ 2 ∧ TreeKept T E q' (replyEnds s) := by
  have hsent : TreeKept T E q (sendEnds s) := h.congr_requests rfl rfl
  unfold Machine.replyEnds
  split
  · split
    · split
      · exact ⟨[], by simp, (h.hardReset _ _).congr_requests rfl rfl⟩
      · exact ⟨q, hq, hsent⟩
    · exact ⟨q, hq, hsent⟩
  · exact ⟨q, hq, h⟩

theorem TreeKept.endSelfTest (h : s.hl.requests = q) : TreeKept T E q (endSelfTest (emptyTables s)) := by
  have h0 : TreeKept T E q (emptyTables s) := ⟨h, fun n r hr => by simp [segmentAt, emptyTables, rowAt] at hr⟩
  unfold Machine.endSelfTest
  split
  · exact h0.congr rfl rfl
  · exact TreeKept.raiseNow _ (h0.congr rfl rfl)

theorem TreeKept.stepEnds (f : StepFindings) (h : TreeKept T E q s) : TreeKept T E q (stepEnds f s) := by
  unfold Machine.stepEnds
  split
  · split
    · unfold endStepSix
      dsimp only
      split <;> exact h.congr rfl rfl
    · split <;> exact h.congr rfl rfl
    · dsimp only
      split <;> exact h.congr_requests rfl rfl
    · exact h.congr rfl rfl
    · split <;> exact h.congr rfl rfl
    · exact TreeKept.endSelfTest h.requests
    · exact h
  · exact h

theorem TreeKept.loopbackBegins (good : Bool) (h : TreeKept T E q s) : TreeKept T E q (loopbackBegins good s) := by
  unfold Machine.loopbackBegins
  split
  · exact h.congr_requests rfl rfl
  · exact h

theorem TreeKept.resetReleases (h : TreeKept T E q s) : TreeKept T E q (resetReleases s) := by
  unfold Machine.resetReleases
  split
  · exact h.congr rfl rfl
  · exact h

theorem TreeKept.settled {f : State → State} (h : TreeKept T E q (f s)) : TreeKept T E q (settled f s) := h.settleUrgency _

end

/-- A request row is the arrival of its request (log 3). -/
theorem exec_of_request {i : Instr} {r : Request} (h : requestOf i = some r) (s : State) :
    exec i s = event (requestArrives r) s := by
  cases i <;> cases h <;> rfl

/-- A command that, on a state without inverted bits, leaves every record where it was, and the requests held at its end taken. -/
theorem sharesNoSensor_event {f : State → State} {s t : State} {q : List Request} (hs : sharesNoSensor s) (hq : q.length ≤ 2)
    (hex : event f s = .next t) (hf : TreeKept (treeOf s) (· = 0) q (f s)) : sharesNoSensor t := by
  have hlaw : SensorLaw (f s) :=
    ⟨hf.shares hs, by rw [hf.requests]; exact hq, fun n r hr => by rw [(hf.records n r hr).2]; exact errorsBefore_zero _⟩
  cases hex
  exact (hlaw.serveUpTo _).shares

theorem readable_eq_zero : Readable (· = 0) := ⟨rfl, fun e he => by simp [he]⟩

/-- The completion of a pass, the requests it takes before ring step 2 included, keeps the law of R11. -/
theorem SensorLaw.passCompletes {s : State} (hs : sharesNoSensor s) (hq : s.hl.requests.length ≤ 2)
    (h : TreeKept (treeOf s) (· = 0) s.hl.requests s) (k : Nat) : SensorLaw (passCompletes k s) := by
  have hof {t : State} (ht : TreeKept (treeOf s) (· = 0) s.hl.requests t) : SensorLaw t :=
    ⟨ht.shares hs, by rw [ht.requests]; exact hq, fun n r hr => by rw [(ht.records n r hr).2]; exact errorsBefore_zero _⟩
  unfold Machine.passCompletes
  split
  · have hserved := (hof (h.completePass readable_eq_zero).settled).serveUpTo k
    unfold closeOldest
    split
    · split
      · exact hserved.congr rfl rfl
      · exact hserved
    · exact hserved
  · exact hof h

/-- Settles O32: from clean records every command keeps the tree, and each held request taken keeps the law of R11. -/
theorem everyCommandKeepsSensorLaw : Obligations.EveryCommandKeepsSensorLaw := by
  intro c s t hclean hbounds hs hex
  have hq : s.hl.requests.length ≤ 2 := by
    simp only [buffersBounded, Bool.and_eq_true, decide_eq_true_eq] at hbounds
    exact hbounds.1
  have hE := readable_eq_zero
  have h : TreeKept (treeOf s) (· = 0) s.hl.requests s := treeKept_self fun n r hr => clean_segment hclean hr
  have hrequest {r : Request} (hr : requestOf c = some r) : sharesNoSensor t := by
    rw [exec_of_request hr] at hex
    obtain ⟨q', hq', h'⟩ := h.requestArrives hq r
    exact sharesNoSensor_event hs hq' hex h'
  cases c with
  | hardReset st baud =>
    cases hex
    exact (h.hardReset st baud).shares hs
  | selfTestStepEnd f => exact sharesNoSensor_event hs hq hex (h.stepEnds f)
  | linkLoopback good => exact sharesNoSensor_event hs hq hex (h.loopbackBegins good)
  | messageReceived a p check =>
    obtain ⟨q', hq', h'⟩ := h.messageArrives hq a p check
    exact sharesNoSensor_event hs hq' hex h'
  | linkAborted a => exact sharesNoSensor_event hs hq hex (h.markedCharacter a)
  | linkBreak => exact sharesNoSensor_event hs hq hex h.breakArrives
  | linkFraming cause => exact sharesNoSensor_event hs hq hex (h.framingArrives cause)
  | gapTimeout => exact sharesNoSensor_event hs hq hex h.gapArrives
  | replySendStart => exact sharesNoSensor_event hs hq hex h.sendStarts
  | replySent =>
    obtain ⟨q', hq', h'⟩ := h.replyEnds hq
    exact sharesNoSensor_event hs hq' hex h'
  | syncEdge time =>
    exact sharesNoSensor_event (f := fun u => syncEdge (max u.now time) (arriveAt time u)) hs hq hex
      ((h.arriveAt time).syncEdge _)
  | edgeHistoryTimeout => exact sharesNoSensor_event hs hq hex h.historyTimeout
  | internalFrameStart => exact sharesNoSensor_event hs hq hex h.internalStart
  | edgeWindowClose => exact sharesNoSensor_event hs hq hex h.windowClose
  | passStage1 => exact sharesNoSensor_event hs hq hex (TreeKept.runStage (h.stage1 hE) _ _ h).settled
  | passStage2 => exact sharesNoSensor_event hs hq hex (TreeKept.runStage (h.stage2 hE) _ _ h).settled
  | passStage3 => exact sharesNoSensor_event hs hq hex (TreeKept.runStage (h.stage3 hE) _ _ h).settled
  | passStage4 => exact sharesNoSensor_event hs hq hex (TreeKept.runStage (h.stage4 hE) _ _ h).settled
  | passCompletion k =>
    cases hex
    exact ((SensorLaw.passCompletes hs hq h k.val).serveUpTo _).shares
  | deadlineExpiry n => exact sharesNoSensor_event hs hq hex (h.deadlineExpires hE n.val).settled
  | confirmTimerExpiry x => exact sharesNoSensor_event hs hq hex (h.confirmExpires hE x.val).settled
  | pulseTimerExpiry ch => exact sharesNoSensor_event hs hq hex (h.pulseExpires ch)
  | inhibitInputChange a => exact sharesNoSensor_event hs hq hex (h.congr (t := inhibitChanges a s) rfl rfl)
  | addressCharacter a => exact sharesNoSensor_event hs hq hex (h.markedCharacter a)
  | resetNRelease => exact sharesNoSensor_event hs hq hex h.resetReleases
  | _ => exact hrequest rfl

end Sys2Proof.Machine
end

section
namespace Sys2Proof.Machine

/-! ### Refusals for mode and fields (R156, R168, R170) -/

/-- The modes that refuse a kind (R21, R33, R37, R156, R160, R163). -/
theorem takenIn_refused {k : BitVec 6} {m : PartMode}
    (h : ((m = .start ∨ m = .failed) ∧ k ∉ [0, 1, 2, 30, 31]) ∨ (m = .hold ∧ k = 25) ∨ (m = .run ∧ k ∈ [5, 6, 29])) :
    takenIn k m = false := by
  have hfinite : ∀ k : BitVec 6, (k ∉ [0, 1, 2, 30, 31] → takenIn k .start = false ∧ takenIn k .failed = false) ∧
      (k = 25 → takenIn k .hold = false) ∧ (k ∈ [5, 6, 29] → takenIn k .run = false) := by decide +kernel
  obtain ⟨hunserviced, hhold, hrun⟩ := hfinite k
  rcases h with ⟨rfl | rfl, hk⟩ | ⟨rfl, hk⟩ | ⟨rfl, hk⟩
  · exact (hunserviced hk).1
  · exact (hunserviced hk).2
  · exact hhold hk
  · exact hrun hk

/-- A request with a bad field is answered BAD_FIELD at the offset of the first one (R170). -/
theorem exec_badField {i : Instr} {r : Request} {k : Nat} {s : State} (hi : requestOf i = some r) (ht : takesNow r s = true)
    (hm : takenIn (requestKind r) s.mc.mode = true) (hf : fieldFault r = some k) :
    exec i s = .next (answered (requestKind r) (badField k) s) := by
  obtain ⟨hready, hdelay⟩ := takesNow_iff.mp ht
  rw [exec_of_request hi]
  exact event_badField hready hdelay hm hf

theorem firstBad_outside {lo hi n offset : Nat} (h : n < lo ∨ hi < n) (rest : List (Nat × Bool)) :
    firstBad ((offset, within lo hi n) :: rest) = some offset := by
  have hw : within lo hi n = false := by
    simp only [within, Bool.and_eq_false_iff, decide_eq_false_iff_not]
    omega
  simp [firstBad, hw]

theorem firstBad_within {lo hi n offset : Nat} (h : lo ≤ n ∧ n ≤ hi) (rest : List (Nat × Bool)) :
    firstBad ((offset, within lo hi n) :: rest) = firstBad rest := by
  simp [firstBad, within, h.1, h.2]

/-- The fields of DEFINE_SENSOR fail in payload order (R2). -/
theorem fieldFault_defineSensor (slot phases latency : Byte) (address : FieldAddress) :
    fieldFault (.defineSensor slot address phases latency) =
      if 47 < slot.toNat then some 0
      else if address = 0 ∨ address = 0xFFFFFF then some 1
      else if phases = 0 ∨ 7 < phases.toNat then some 4
      else if 7 < latency.toNat then some 5
      else none := by
  change firstBad [(0, within 0 47 slot.toNat), (1, within 1 16777214 address.toNat), (4, within 1 7 phases.toNat),
    (5, within 0 7 latency.toNat)] = _
  split
  · exact firstBad_outside (.inr ‹_›) _
  · rw [firstBad_within (by omega)]
    split
    · exact firstBad_outside (by bv_omega) _
    · rw [firstBad_within (by bv_omega)]
      split
      · exact firstBad_outside (by bv_omega) _
      · rw [firstBad_within (by bv_omega)]
        split
        · exact firstBad_outside (.inr ‹_›) _
        · rw [firstBad_within (by omega)]
          rfl

/-- Settles O3: the mode is judged, then the fields, before any owner acts. -/
theorem modeAndFieldRefusals : Obligations.ModeAndFieldRefusals := by
  refine ⟨fun i r s hi ht hmode => ?_, fun b i r s hi ht hs hrows => ?_, fun i r k s hi ht hm hf => exec_badField hi ht hm hf,
    fieldFault_defineSensor⟩
  · obtain ⟨hready, hdelay⟩ := takesNow_iff.mp ht
    rw [exec_of_request hi]
    refine event_wrongMode hready hdelay (takenIn_refused ?_)
    simpa only [and_or_left, or_and_right] using hmode
  · have hbad (hk : [0, 1, 2, 5, 6, 25, 29, 30, 31].contains (requestKind r).toNat = false) (hf : fieldFault r = some 0) :
        exec i s = .next (answered (requestKind r) (badField 0) s) :=
      exec_badField hi ht (takenIn_service hs hk) hf
    have habove {lim : Nat} (h : lim < b.toNat) (hk : [0, 1, 2, 5, 6, 25, 29, 30, 31].contains (requestKind r).toNat = false)
        (hf : fieldFault r = firstBad [(0, within 0 lim b.toNat)]) :
        exec i s = .next (answered (requestKind r) (badField 0) s) :=
      hbad hk (hf.trans (firstBad_outside (.inr h) []))
    simp only [List.mem_cons, List.not_mem_nil, or_false] at hrows
    rcases hrows with ⟨h, rfl | rfl⟩ | ⟨h, rfl | rfl | rfl | rfl⟩ | ⟨h, rfl | rfl | rfl⟩ | ⟨h, rfl | rfl | rfl⟩ | ⟨h, rfl⟩ <;>
      cases hi
    case inr.inr.inr.inr.refl => exact hbad rfl (firstBad_outside (by bv_omega) [])
    all_goals exact habove h rfl rfl

/-! ### Hard reset and self-test (R156, R157, R161) -/

/-- Settles O24: the reset state block by block, and step 6 running when RESET_N returns high. -/
theorem hardResetTakesResetValues : Obligations.HardResetTakesResetValues := by
  intro station baud s
  have hseg (n : Nat) : rowAt (hardReset station baud s).segments n = (rowAt s.segments n).map stopDeadline := by
    rw [hardReset_segments, rowAt_map]
  have hint (x : Nat) : rowAt (hardReset station baud s).interrupters x = (rowAt s.interrupters x).map stopConfirm := by
    rw [hardReset_interrupters, rowAt_map]
  refine ⟨hardReset station baud s, rfl, rfl, rfl, ⟨rfl, rfl, rfl, rfl⟩, fun n => ?_, fun x => ?_, fun ch => ?_, rfl, rfl,
    fun c => ?_, fun c => ?_, rfl, rfl, rfl, rfl, rfl, rfl, ⟨rfl, rfl, rfl, rfl, rfl, rfl, rfl⟩, rfl, rfl, rfl, rfl, rfl, ?_, rfl⟩
  · rw [hseg]
    rcases rowAt s.segments n with _ | _ | _ <;> rfl
  · rw [hint]
    rcases rowAt s.interrupters x with _ | _ | _ <;> rfl
  · match ch with
    | 0 | 1 | 2 | 3 => rfl
  · cases c <;> rfl
  · cases c <;> exact ⟨rfl, rfl⟩
  · exact event_none rfl

/-- An event of self-test with no request held is the event alone. -/
theorem exec_event {c : Instr} {f : State → State} {s t : State} (hc : ∀ u, exec c u = event f u) (hf : f s = t)
    (ht : t.hl.requests = []) : exec c s = .next t := by
  subst hf
  rw [hc, event_none ht]

theorem exec_selfTestStepEnd {f : StepFindings} {s t : State} (h : stepEnds f s = t) (ht : t.hl.requests = []) :
    exec (.selfTestStepEnd f) s = .next t :=
  exec_event (fun _ => rfl) h ht

/-- Step 6 counts the present banks: those without a bad word. -/
theorem presentBanks_not (bad : BitVec 8) : presentBanks (~~~bad) = (List.range 8).countP fun k => !bad.getLsbD k := by
  unfold presentBanks
  refine List.countP_congr fun k hk => ?_
  simp [List.mem_range.mp hk]

theorem mem_failedChannels {s : State} {k : Nat} :
    k ∈ failedChannels s ↔ ∃ ch : Fin 4, ch.val = k ∧ (s.channels.get ch).failed = true := by
  have hall (ch : Fin 4) : ch ∈ ([0, 1, 2, 3] : List (Fin 4)) := by revert ch; decide
  simp only [failedChannels, List.mem_filterMap, hall, true_and, Option.ite_none_right_eq_some, Option.some.injEq]
  exact exists_congr fun ch => and_comm

theorem statCode_run {s : State} (h : s.mc.mode = .run) : statCode s = if effectiveInhibit s then 0xA else 0x9 := by
  simp only [statCode, h]

/-- The end of step 1 empties the tables, and FAILED follows a FATAL failure (R161). -/
theorem endSelfTest_fatal {s : State} {k : TestStep} (h : s.mc.fatalStep = some k) :
    endSelfTest (emptyTables s) = { emptyTables s with mc := { s.mc with
      mode := .failed, selfTest := .ended, outcome := some .fatal, failingStep := some k, profile := .normal
      inhibitFlag := false } } := by
  have h' : (emptyTables s).mc.fatalStep = some k := h
  unfold endSelfTest
  split
  · rename_i step hstep
    obtain rfl : step = k := Option.some.inj (hstep.symm.trans h')
    rfl
  · rename_i hstep
    rw [h'] at hstep
    cases hstep

/-- The end of step 1 empties the tables, and HOLD begins with SELF_TEST_DONE when no FATAL failure came before (R28, R161). -/
theorem endSelfTest_hold {s : State} (h : s.mc.fatalStep = none) (hq : s.nq.queue.length < 32) :
    endSelfTest (emptyTables s) = { emptyTables s with
      mc := { s.mc with
        mode := .hold, selfTest := .ended, outcome := some (if s.mc.hardSeen then TestOutcome.hard else .pass)
        profile := .normal, inhibitFlag := false }
      ft := { s.ft with expected := some (s.now + s.ft.period * 1000), lastInternal := none }
      nq := { s.nq with
        queue := s.nq.queue ++ [⟨s.nq.seq, s.ft.frame, .selfTestDone (if s.mc.hardSeen then TestOutcome.hard else .pass)
          s.tm.bankMap (failedChannels (emptyTables s))⟩]
        seq := s.nq.seq + 1 } } := by
  have h' : (emptyTables s).mc.fatalStep = none := h
  unfold endSelfTest
  split
  · rename_i step hstep
    rw [h'] at hstep
    cases hstep
  · extract_lets outcome mc t
    have ht : t.nq.queue.length < 32 := hq
    rw [raiseNow, raiseAt_free _ _ t ht]
    rfl

/-- Settles O25: the end of each step by what it found, the end of step 1, and the STAT code. -/
theorem selfTestRunsAndEnds : Obligations.SelfTestRunsAndEnds := by
  refine ⟨fun s hheld hstart => ?_, fun s hheld hstart hone => ?_, fun s => ?_⟩
  · have hnone : s.hl.requests = [] := by simpa [noneHeld] using hheld
    intro fatalAt on idle
    have hends {f : StepFindings} {t : State} (h : stepEnds f s = t) (ht : t.hl.requests = []) :
        exec (.selfTestStepEnd f) s = .next t := exec_event (fun _ => rfl) h ht
    have hjudged {f : StepFindings} {ok : Bool} {t u : State} (h : stepEnds f s = if ok then t else u)
        (ht : t.hl.requests = []) (hu : u.hl.requests = []) : exec (.selfTestStepEnd f) s = .next (if ok then t else u) :=
      hends h (by cases ok <;> assumption)
    refine ⟨fun bad ibad hstep => ?_, fun ok hstep => ?_, fun good hstep => ⟨fun hrep => ?_, fun hrep => ?_⟩, fun hstep => ?_,
      fun bad hstep => ?_, fun ok hstep => ?_⟩
    · have hsix : stepEnds (.pattern bad ibad) s = endStepSix bad ibad s := by simp [stepEnds, hstart, hstep]
      refine hends ?_ ?_
      · rw [hsix, endStepSix, presentBanks_not]
        simp only [Bool.or_eq_true, decide_eq_true_eq]
        rfl
      · split <;> exact hnone
    · exact hjudged (by simp only [stepEnds, hstart, hstep, if_true]; rfl) hnone hnone
    · refine exec_event (f := loopbackBegins good) (fun _ => rfl) ?_ hnone
      simp only [loopbackBegins, hstart, hstep, hrep, and_self, if_true]
      rfl
    · refine exec_event (f := loopbackBegins good) (fun _ => rfl) ?_ hnone
      simp [loopbackBegins, hrep]
    · exact hjudged (by simp only [stepEnds, hstart, hstep, if_true]; rfl) hnone hnone
    · refine ⟨channelsOf fun k => { s.channels.get k with failed := bad.getLsbD k.val }, hends ?_ hnone, fun k => by simp⟩
      simp only [stepEnds, hstart, hstep, if_true]
      rfl
    · exact hjudged (by simp only [stepEnds, hstart, hstep, if_true]; rfl) hnone hnone
  · have hnone : s.hl.requests = [] := by simpa [noneHeld] using hheld
    have hends : stepEnds .tables s = endSelfTest (emptyTables s) := by simp [stepEnds, hstart, hone]
    refine ⟨(emptyTables s).channels, fun k => by simp [emptyTables, Channel.default], fun k hk => ?_, fun hk hq => ?_⟩
    · exact exec_event (fun _ => rfl) (hends.trans (endSelfTest_fatal hk)) hnone
    · refine ⟨failedChannels (emptyTables s), fun k => ?_, ?_⟩
      · rw [mem_failedChannels]
        simp [emptyTables]
      · exact exec_event (fun _ => rfl) (hends.trans (endSelfTest_hold hk hq)) hnone
  · refine ⟨rfl, fun h => ?_, fun h => by simp [statCode, h], fun h hpin hflag => ?_, fun h hset => ?_,
      fun h => by simp [statCode, h]⟩
    · refine ⟨fun e => ?_, fun e => ?_, ?_, fun e => ?_, fun e => ?_, fun e => ?_, fun e => ?_⟩
      case refine_3 => rintro (e | e) <;> simp [statCode, h, e, stepNumber]
      all_goals simp [statCode, h, e, stepNumber]
    · simp [statCode_run h, effectiveInhibit, hpin, hflag]
    · rcases hset with h' | h' <;> simp [statCode_run h, effectiveInhibit, h']

end Sys2Proof.Machine
end

section
namespace Sys2Proof.Machine

/-! ### Searches for the lowest number -/

theorem find_range_none {n : Nat} {f : Nat → Bool} {P : Nat → Prop} (hf : ∀ k, f k = true ↔ P k) :
    (List.range n).find? f = none ↔ ∀ k < n, ¬ P k := by
  simp only [List.find?_eq_none, List.mem_range, hf]

theorem find_range_some {n k : Nat} {f : Nat → Bool} {P : Nat → Prop} (hf : ∀ k, f k = true ↔ P k) (hk : k < n) (hP : P k)
    (hlow : ∀ j < k, ¬ P j) : (List.range n).find? f = some k := by
  rw [List.find?_range_eq_some]
  refine ⟨(hf k).mpr hP, List.mem_range.mpr hk, fun j hj => ?_⟩
  rw [Bool.not_eq_true', ← Bool.not_eq_true, hf]
  exact hlow j hj

theorem interrupterOn_eq (s : State) (d : Nat) :
    interrupterOn s d = allInterrupters.find? fun x => (interrupterAt s x).any (·.boundary == d) := by
  unfold interrupterOn
  congr
  funext x
  cases interrupterAt s x <;> rfl

theorem boundTo_eq (s : State) (ch : Fin 4) :
    boundTo s ch = allInterrupters.find? fun x => (interrupterAt s x).any (·.kind == .loc ch) := by
  unfold boundTo
  congr
  funext x
  cases interrupterAt s x <;> rfl

theorem interrupterOn_none {s : State} {d : Nat} :
    interrupterOn s d = none ↔ ∀ x < 16, ¬ ∃ r, interrupterAt s x = some r ∧ r.boundary = d := by
  rw [interrupterOn_eq]
  exact find_range_none fun x => by simp [Option.any_eq_true]

theorem interrupterOn_some {s : State} {d x : Nat} (hx : x < 16) (h : ∃ r, interrupterAt s x = some r ∧ r.boundary = d)
    (hlow : ∀ y < x, ¬ ∃ r, interrupterAt s y = some r ∧ r.boundary = d) : interrupterOn s d = some x := by
  rw [interrupterOn_eq]
  exact find_range_some (fun x => by simp [Option.any_eq_true]) hx h hlow

theorem boundTo_none {s : State} {ch : Fin 4} :
    boundTo s ch = none ↔ ∀ x < 16, ¬ ∃ r, interrupterAt s x = some r ∧ r.kind = .loc ch := by
  rw [boundTo_eq]
  exact find_range_none fun x => by simp [Option.any_eq_true]

theorem boundTo_some {s : State} {ch : Fin 4} {x : Nat} (hx : x < 16)
    (h : ∃ r, interrupterAt s x = some r ∧ r.kind = .loc ch)
    (hlow : ∀ y < x, ¬ ∃ r, interrupterAt s y = some r ∧ r.kind = .loc ch) : boundTo s ch = some x := by
  rw [boundTo_eq]
  exact find_range_some (fun x => by simp [Option.any_eq_true]) hx h hlow

/-! ### Requests taken at once -/

theorem act_defineSensor (slot phases latency : Byte) (address : FieldAddress) (s : State) :
    act (.defineSensor slot address phases latency) s =
      takeDefineSensor slot.toNat address (phasesOfByte phases) latency.toNat s := rfl

theorem act_retireSensor (b : Byte) (s : State) : act (.retireSensor b) s = takeRetireSensor b.toNat s := rfl

theorem act_querySensor (b : Byte) (s : State) : act (.querySensor b) s = takeQuerySensor b.toNat s := rfl

theorem act_removeSegment (b : Byte) (s : State) : act (.removeSegment b) s = takeRemoveSegment b.toNat s := rfl

theorem act_querySegment (b : Byte) (s : State) : act (.querySegment b) s = takeQuerySegment b.toNat s := rfl

theorem act_removeInterrupter (b : Byte) (s : State) : act (.removeInterrupter b) s = takeRemoveInterrupter b.toNat s := rfl

theorem act_queryInterrupter (b : Byte) (s : State) : act (.queryInterrupter b) s = takeQueryInterrupter b.toNat s := rfl

/-- A request in service, taken at once with good fields, that leaves the urgency source alone. -/
theorem exec_taken {i : Instr} {r : Request} {s t : State} {a : Answer} (hi : requestOf i = some r) (hready : ready s = true)
    (hd : (isDelayed r && s.pass.isSome) = false) (hs : inService s = true)
    (hk : [0, 1, 2, 5, 6, 25, 29, 30, 31].contains (requestKind r).toNat = false) (hf : fieldFault r = none)
    (hact : act r (acting r s) = ({ t with hl := (acting r s).hl }, a)) (hfollow : a.follow ≠ .restart) (hh : t.hl = s.hl)
    (hu : urgencySource t = urgencySource s) : exec i s = .next (answered (requestKind r) a t) := by
  rw [exec_of_request hi]
  exact event_answered hready hd (takenIn_service hs hk) hf hact hfollow hh hu

/-- A request that leaves the state as it was. -/
theorem exec_unchanged {i : Instr} {r : Request} {s : State} {a : Answer} (hi : requestOf i = some r) (hready : ready s = true)
    (hd : (isDelayed r && s.pass.isSome) = false) (hs : inService s = true)
    (hk : [0, 1, 2, 5, 6, 25, 29, 30, 31].contains (requestKind r).toNat = false) (hf : fieldFault r = none)
    (hact : act r (acting r s) = (acting r s, a)) (hfollow : a.follow ≠ .restart) :
    exec i s = .next (answered (requestKind r) a s) :=
  exec_taken hi hready hd hs hk hf hact hfollow rfl rfl

theorem clean_acting {s : State} (h : clean s = true) (r : Request) : clean (acting r s) = true := h

theorem not_delayed {r : Request} {s : State} (h : s.pass = none) : (isDelayed r && s.pass.isSome) = false := by
  simp [h]

theorem follow_refuse (c : ResultCode) : (refuse c).follow ≠ .restart := by simp [refuse, answer]

theorem follow_refuseNaming (c : ResultCode) (i : ItemType) (n : Nat) : (refuseNaming c i n).follow ≠ .restart := by
  simp [refuseNaming, answer]

theorem follow_okWith (b : List Byte) : (okWith b).follow ≠ .restart := by simp [okWith, answer]

/-! ### The queries (R6, R16, R20) -/

theorem readForEstimate_clean {s : State} (h : clean s = true) (n : Nat) : readForEstimate n s = s := by
  unfold readForEstimate
  split
  · exact readSensors_clean h _
  · rfl

/-- What QUERY_SENSOR answers of a slot, by what its place holds (R6; log 25). -/
def sensorAnswer (s : State) (d : Nat) : Option SensorPlace → Answer
  | none => refuse .notFound
  | some (.live r) => okWith (sensorBytes s d r)
  | some .quarantined => okWith (sensorQuarantinedBytes s d)

/-- What QUERY_SEGMENT answers, by what the number holds (R16; log 25). -/
def segmentAnswer (s : State) : Option SegPlace → Answer
  | none => refuse .notFound
  | some (.live r) => okWith (segmentBytes s r)
  | some .quarantined => okWith segmentQuarantinedBytes

/-- What QUERY_INTERRUPTER answers, by what the id holds (R20; log 25). -/
def interrupterAnswer (s : State) : Option IntPlace → Answer
  | none => refuse .notFound
  | some (.live r) => okWith (interrupterBytes s r)
  | some .tableError => okWith interrupterLostBytes

theorem follow_sensorAnswer (s : State) (d : Nat) (p : Option SensorPlace) : (sensorAnswer s d p).follow ≠ .restart := by
  rcases p with _ | _ | _ <;> simp [sensorAnswer, refuse, okWith, answer]

theorem follow_segmentAnswer (s : State) (p : Option SegPlace) : (segmentAnswer s p).follow ≠ .restart := by
  rcases p with _ | _ | _ <;> simp [segmentAnswer, refuse, okWith, answer]

theorem follow_interrupterAnswer (s : State) (p : Option IntPlace) : (interrupterAnswer s p).follow ≠ .restart := by
  rcases p with _ | _ | _ <;> simp [interrupterAnswer, refuse, okWith, answer]

theorem takeQuerySensor_clean {s : State} (h : clean s = true) (d : Nat) :
    takeQuerySensor d s = (s, sensorAnswer s d (rowAt s.sensors d)) := by
  have hread : readSegments (readSensor d s) = s := by rw [readSensor_clean h, readSegments_clean h]
  unfold takeQuerySensor
  rw [hread]
  dsimp only
  rcases rowAt s.sensors d with _ | _ | _ <;> rfl

theorem takeQuerySegment_clean {s : State} (h : clean s = true) (n : Nat) :
    takeQuerySegment n s = (s, segmentAnswer s (rowAt s.segments n)) := by
  have hread : readForEstimate n (readSegments s) = s := by rw [readSegments_clean h, readForEstimate_clean h]
  unfold takeQuerySegment
  rw [hread]
  dsimp only
  rcases rowAt s.segments n with _ | _ | _ <;> rfl

theorem takeQueryInterrupter_clean {s : State} (h : clean s = true) (x : Nat) :
    takeQueryInterrupter x s = (s, interrupterAnswer s (rowAt s.interrupters x)) := by
  unfold takeQueryInterrupter
  rw [readInterrupter_clean h]
  dsimp only
  rcases rowAt s.interrupters x with _ | _ | _ <;> rfl

/-- Settles O29: the reads of a clean state find nothing, and the queries are of kinds that meet no pass. -/
theorem queriesReadAndChangeNothing : Obligations.QueriesReadAndChangeNothing := by
  intro b s hready hs hclean
  have hgood {lim : Nat} (h : b.toNat < lim + 1) : firstBad [(0, within 0 lim b.toNat)] = none :=
    firstBad_within (by omega) []
  refine ⟨fun hb => ?_, fun hb => ?_, fun hb => ?_⟩
  · have hask : exec (.querySensor b) s = .next (answered 12 (sensorAnswer s b.toNat (rowAt s.sensors b.toNat)) s) := by
      refine exec_unchanged (r := .querySensor b) rfl hready rfl hs rfl (hgood hb)
        ((act_querySensor b _).trans (takeQuerySensor_clean (clean_acting hclean _) b.toNat)) (follow_sensorAnswer _ _ _)
    refine ⟨fun h => ?_, fun r h => ?_, fun h => ?_⟩ <;> rw [hask, h] <;> rfl
  · have hask : exec (.querySegment b) s = .next (answered 15 (segmentAnswer s (rowAt s.segments b.toNat)) s) := by
      refine exec_unchanged (r := .querySegment b) rfl hready rfl hs rfl (hgood hb)
        ((act_querySegment b _).trans (takeQuerySegment_clean (clean_acting hclean _) b.toNat)) (follow_segmentAnswer _ _)
    refine ⟨fun h => ?_, fun r h => ?_, fun h => ?_⟩ <;> rw [hask, h] <;> rfl
  · have hask : exec (.queryInterrupter b) s = .next (answered 20 (interrupterAnswer s (rowAt s.interrupters b.toNat)) s) := by
      refine exec_unchanged (r := .queryInterrupter b) rfl hready rfl hs rfl (hgood hb)
        ((act_queryInterrupter b _).trans (takeQueryInterrupter_clean (clean_acting hclean _) b.toNat)) (follow_interrupterAnswer _ _)
    refine ⟨fun h => ?_, fun r h => ?_, fun h => ?_⟩ <;> rw [hask, h] <;> rfl

end Sys2Proof.Machine
end

section
namespace Sys2Proof.Machine

/-! ### The urgency source after a table changes (R148) -/

theorem any_congr_mem {α : Type} {l : List α} {f g : α → Bool} (h : ∀ x ∈ l, f x = g x) : l.any f = l.any g := by
  rw [Bool.eq_iff_iff, List.any_eq_true, List.any_eq_true]
  exact exists_congr fun x => and_congr_right fun hx => by rw [h x hx]

/-- The urgency source stays where every segment and every interrupter is as urgent as before. -/
theorem urgencySource_same {s t : State} (hmode : t.mc.mode = s.mc.mode)
    (hseg : ∀ n < 40, segmentUrgent t n = segmentUrgent s n) (hint : ∀ x < 16, isTripping t x = isTripping s x) :
    urgencySource t = urgencySource s := by
  have h1 : allSegments.any (segmentUrgent t) = allSegments.any (segmentUrgent s) :=
    any_congr_mem fun n hn => hseg n (mem_allSegments.mp hn)
  have h2 : allInterrupters.any (isTripping t) = allInterrupters.any (isTripping s) :=
    any_congr_mem fun x hx => hint x (mem_allInterrupters.mp hx)
  unfold urgencySource
  rw [h1, h2, hmode]

/-- A segment that is neither SUSPECT nor ISOLATING may give way to another that is neither. -/
theorem urgencySource_segment {s t : State} {n : Nat} (hmode : t.mc.mode = s.mc.mode) (hint : t.interrupters = s.interrupters)
    (hrow : ∀ m, m ≠ n → rowAt t.segments m = rowAt s.segments m) (ht : segmentUrgent t n = false)
    (hs : segmentUrgent s n = false) : urgencySource t = urgencySource s := by
  refine urgencySource_same hmode (fun m _ => ?_) fun x _ => ?_
  · by_cases hm : m = n
    · rw [hm, ht, hs]
    · unfold segmentUrgent segmentAt
      rw [hrow m hm]
  · unfold isTripping
    rw [interrupterAt_congr hint]

/-- An interrupter that is not TRIPPING may give way to another that is not. -/
theorem urgencySource_interrupter {s t : State} {x : Nat} (hmode : t.mc.mode = s.mc.mode) (hseg : t.segments = s.segments)
    (hrow : ∀ y, y ≠ x → rowAt t.interrupters y = rowAt s.interrupters y) (ht : isTripping t x = false)
    (hs : isTripping s x = false) : urgencySource t = urgencySource s := by
  refine urgencySource_same hmode (fun m _ => ?_) fun y _ => ?_
  · unfold segmentUrgent
    rw [segmentAt_congr hseg]
  · by_cases hy : y = x
    · rw [hy, ht, hs]
    · unfold isTripping interrupterAt
      rw [hrow y hy]

theorem segmentUrgent_none {s : State} {n : Nat} (h : segmentAt s n = none) : segmentUrgent s n = false := by
  simp [segmentUrgent, h]

theorem segmentUrgent_editable {s : State} {n : Nat} {r : SegRec} (h : segmentAt s n = some r) (hr : mayEdit r.state = true) :
    segmentUrgent s n = false := by
  simp only [segmentUrgent, h]
  revert hr
  cases r.state <;> decide

theorem isTripping_of_state {s : State} {x : Nat} {r : IntRec} (h : interrupterAt s x = some r) :
    isTripping s x = (r.state == .tripping) := by
  simp [isTripping, h]

theorem isTripping_none {s : State} {x : Nat} (h : interrupterAt s x = none) : isTripping s x = false := by
  simp [isTripping, h]

/-! ### REMOVE_SEGMENT and REMOVE_INTERRUPTER (R14, R19) -/

theorem refusesEdit_of {s : State} {n : Nat} {r : SegRec} (h : segmentAt s n = some r) :
    refusesEdit s n = !mayEdit r.state := by
  simp [refusesEdit, h]

theorem mayEdit_false {st : SegState} (h : st ∈ [.suspect, .isolating, .isolated, .withheld, .isolationFailed]) :
    mayEdit st = false := by
  revert h
  cases st <;> decide

theorem mayEdit_true {st : SegState} (h : st ∈ [.normal, .deenergized, .settling]) : mayEdit st = true := by
  revert h
  cases st <;> decide

theorem takeRemoveSegment_notFound {s : State} {n : Nat} (h : rowAt s.segments n = none) :
    takeRemoveSegment n s = (s, refuse .notFound) := by
  simp [takeRemoveSegment, h]

theorem takeRemoveSegment_conflict {s : State} (hc : clean s = true) {n : Nat} {r : SegRec} (h : segmentAt s n = some r)
    (hst : mayEdit r.state = false) : takeRemoveSegment n s = (s, refuse .stateConflict) := by
  simp [takeRemoveSegment, segmentAt_row.mp h, readSegment_clean hc, refusesEdit_of h, hst]

theorem takeRemoveSegment_done {s : State} (hc : clean s = true) {n : Nat} (h : rowAt s.segments n ≠ none)
    (hedit : refusesEdit s n = false) :
    takeRemoveSegment n s = ({ s with segments := dropRow s.segments n }, okWith []) := by
  simp [takeRemoveSegment, h, readSegment_clean hc, hedit]

theorem takeRemoveInterrupter_notFound {s : State} {x : Nat} (h : rowAt s.interrupters x = none) :
    takeRemoveInterrupter x s = (s, refuse .notFound) := by
  simp [takeRemoveInterrupter, h]

theorem takeRemoveInterrupter_conflict {s : State} (hc : clean s = true) {x : Nat} (h : rowAt s.interrupters x ≠ none)
    (ht : isTripping s x = true) : takeRemoveInterrupter x s = (s, refuse .stateConflict) := by
  simp [takeRemoveInterrupter, h, readInterrupter_clean hc, ht]

theorem takeRemoveInterrupter_done {s : State} (hc : clean s = true) {x : Nat} (h : rowAt s.interrupters x ≠ none)
    (ht : isTripping s x = false) :
    takeRemoveInterrupter x s = ({ s with interrupters := dropRow s.interrupters x }, okWith []) := by
  simp [takeRemoveInterrupter, h, readInterrupter_clean hc, ht]

theorem segmentAt_quarantined {s : State} {n : Nat} (h : rowAt s.segments n = some .quarantined) : segmentAt s n = none := by
  simp [segmentAt, h]

theorem interrupterAt_tableError {s : State} {x : Nat} (h : rowAt s.interrupters x = some .tableError) :
    interrupterAt s x = none := by
  simp [interrupterAt, h]

/-- Settles O33: the record read is clean, so the place alone decides. -/
theorem removalsFreeNumbers : Obligations.RemovalsFreeNumbers := by
  refine ⟨fun b s hready hpass hs hclean hb => ?_, fun b s hready hpass hs hclean hb => ?_⟩
  · have hfield : fieldFault (.removeSegment b) = none := firstBad_within (by omega) []
    have hc := clean_acting hclean (.removeSegment b)
    have hsame {a : Answer} (h : takeRemoveSegment b.toNat (acting (.removeSegment b) s) = (acting (.removeSegment b) s, a)) :=
      exec_unchanged (i := .removeSegment b) rfl hready (not_delayed hpass) hs rfl hfield ((act_removeSegment b _).trans h)
    have hfree (hrow : rowAt s.segments b.toNat ≠ none) (hedit : refusesEdit s b.toNat = false)
        (hurgent : segmentUrgent s b.toNat = false) :
        ∃ g, exec (.removeSegment b) s = .next (answered 14 (okWith []) { s with segments := g }) ∧
          ∀ k, rowAt g k = if k = b.toNat then none else rowAt s.segments k := by
      refine ⟨dropRow s.segments b.toNat, ?_, fun k => rowAt_dropRow _ _ _⟩
      refine exec_taken (r := .removeSegment b) (t := { s with segments := dropRow s.segments b.toNat })
        rfl hready (not_delayed hpass) hs rfl hfield
        ((act_removeSegment b _).trans (takeRemoveSegment_done hc hrow hedit)) (follow_okWith _) rfl ?_
      refine urgencySource_segment rfl rfl (fun m hm => ?_) (segmentUrgent_none ?_) hurgent
      · rw [rowAt_dropRow, if_neg hm]
      · simp [segmentAt, rowAt_dropRow]
    refine ⟨fun h => hsame (takeRemoveSegment_notFound h) (follow_refuse _), fun h => ?_, fun r h => ⟨fun hst => ?_, fun hst => ?_⟩⟩
    · have hnone := segmentAt_quarantined h
      exact hfree (by simp [h]) (by simp [refusesEdit, hnone]) (segmentUrgent_none hnone)
    · exact hsame (takeRemoveSegment_conflict hc (segmentAt_row.mpr h) (mayEdit_false hst)) (follow_refuse _)
    · have hr := segmentAt_row.mpr h
      exact hfree (by simp [h]) (by simp [refusesEdit_of hr, mayEdit_true hst]) (segmentUrgent_editable hr (mayEdit_true hst))
  · have hfield : fieldFault (.removeInterrupter b) = none := firstBad_within (by omega) []
    have hc := clean_acting hclean (.removeInterrupter b)
    have hsame {a : Answer}
        (h : takeRemoveInterrupter b.toNat (acting (.removeInterrupter b) s) = (acting (.removeInterrupter b) s, a)) :=
      exec_unchanged (i := .removeInterrupter b) rfl hready (not_delayed hpass) hs rfl hfield
        ((act_removeInterrupter b _).trans h)
    have hfree (hrow : rowAt s.interrupters b.toNat ≠ none) (ht : isTripping s b.toNat = false) :
        ∃ g, exec (.removeInterrupter b) s = .next (answered 19 (okWith []) { s with interrupters := g }) ∧
          ∀ k, rowAt g k = if k = b.toNat then none else rowAt s.interrupters k := by
      refine ⟨dropRow s.interrupters b.toNat, ?_, fun k => rowAt_dropRow _ _ _⟩
      refine exec_taken (r := .removeInterrupter b) (t := { s with interrupters := dropRow s.interrupters b.toNat })
        rfl hready (not_delayed hpass) hs rfl hfield
        ((act_removeInterrupter b _).trans (takeRemoveInterrupter_done hc hrow ht)) (follow_okWith _) rfl ?_
      refine urgencySource_interrupter rfl rfl (fun y hy => ?_) (isTripping_none ?_) ht
      · rw [rowAt_dropRow, if_neg hy]
      · simp [interrupterAt, rowAt_dropRow]
    refine ⟨fun h => hsame (takeRemoveInterrupter_notFound h) (follow_refuse _),
      fun h => hfree (by simp [h]) (isTripping_none (interrupterAt_tableError h)), fun r h => ⟨fun hst => ?_, fun hst => ?_⟩⟩
    · have ht : isTripping s b.toNat = true := by simp [isTripping_of_state (interrupterAt_row.mpr h), hst]
      exact hsame (takeRemoveInterrupter_conflict hc (by simp [acting_eq, h]) ht) (follow_refuse _)
    · exact hfree (by simp [h]) (by simp [isTripping_of_state (interrupterAt_row.mpr h), hst])

/-! ### DEFINE_INTERRUPTER (R17, R18) -/

theorem act_defineInterrupter (id kind channel slot : Byte) (confirm : Half) (s : State) :
    act (.defineInterrupter id kind channel slot confirm) s =
      takeDefineInterrupter id.toNat (kindOfBytes kind channel) slot.toNat confirm.toNat s := rfl

theorem isQuarantined_of_live {s : State} {d : Nat} (h : (sensorAt s d).isSome = true) : isQuarantined s d = false := by
  obtain ⟨r, hr⟩ := Option.isSome_iff_exists.mp h
  simp [isQuarantined, sensorAt_row.mp hr]

theorem row_of_live {s : State} {d : Nat} (h : (sensorAt s d).isSome = true) : rowAt s.sensors d ≠ none := by
  obtain ⟨r, hr⟩ := Option.isSome_iff_exists.mp h
  simp [sensorAt_row.mp hr]

section
variable {s : State} {x slot confirm : Nat} {kind : InterrupterKind}

theorem takeDefineInterrupter_inUse (hx : rowAt s.interrupters x ≠ none) :
    takeDefineInterrupter x kind slot confirm s = (s, refuse .inUse) := by
  simp [takeDefineInterrupter, Option.isSome_iff_ne_none.mpr hx]

theorem takeDefineInterrupter_notFound (hx : rowAt s.interrupters x = none) (hslot : rowAt s.sensors slot = none) :
    takeDefineInterrupter x kind slot confirm s = (s, refuse .notFound) := by
  simp [takeDefineInterrupter, hx, hslot]

theorem takeDefineInterrupter_quarantined (hc : clean s = true) (hx : rowAt s.interrupters x = none)
    (hslot : rowAt s.sensors slot = some .quarantined) :
    takeDefineInterrupter x kind slot confirm s = (s, refuse .stateConflict) := by
  simp [takeDefineInterrupter, hx, hslot, readSensor_clean hc, isQuarantined]

variable (hc : clean s = true) (hx : rowAt s.interrupters x = none) (hslot : (sensorAt s slot).isSome = true)
include hc hx hslot

theorem takeDefineInterrupter_bounded {y : Nat} (hon : interrupterOn s slot = some y) :
    takeDefineInterrupter x kind slot confirm s = (s, refuseNaming .inUse .interrupter y) := by
  simp [takeDefineInterrupter, hx, row_of_live hslot, readSensor_clean hc, isQuarantined_of_live hslot,
    readInterrupters_clean hc, hon]

theorem takeDefineInterrupter_channel {a : Answer} (hon : interrupterOn s slot = none) (hch : channelRefusal s kind = some a) :
    takeDefineInterrupter x kind slot confirm s = (s, a) := by
  simp [takeDefineInterrupter, hx, row_of_live hslot, readSensor_clean hc, isQuarantined_of_live hslot,
    readInterrupters_clean hc, hon, hch]

theorem takeDefineInterrupter_done (hon : interrupterOn s slot = none) (hch : channelRefusal s kind = none) :
    takeDefineInterrupter x kind slot confirm s =
      (writeInterrupter x (freshInterrupter kind slot confirm) s, okWith []) := by
  simp [takeDefineInterrupter, hx, row_of_live hslot, readSensor_clean hc, isQuarantined_of_live hslot,
    readInterrupters_clean hc, hon, hch]

end

/-- The fields of DEFINE_INTERRUPTER are good only with a kind of 0 or 1 (R17). -/
theorem kind_of_fieldFault {id kind channel slot : Byte} {confirm : Half}
    (h : fieldFault (.defineInterrupter id kind channel slot confirm) = none) : kind = 0 ∨ kind = 1 := by
  change (if kind = 0 then _ else if kind = 1 then _ else _) = none at h
  split at h
  · exact .inl ‹_›
  · split at h
    · exact .inr ‹_›
    · simp only [firstBad] at h
      split at h <;> cases h

theorem kindOfBytes_local (channel : Byte) : kindOfBytes 0 channel = .loc (Fin.ofNat 4 channel.toNat) := rfl

theorem channelRefusal_failed {s : State} {ch : Fin 4} (h : (s.channels.get ch).failed = true) :
    channelRefusal s (.loc ch) = some (refuse .noSlot) := by
  simp [channelRefusal, h]

theorem channelRefusal_good {s : State} {ch : Fin 4} (h : (s.channels.get ch).failed = false) :
    channelRefusal s (.loc ch) = (boundTo s ch).map (refuseNaming .inUse .interrupter) := by
  simp [channelRefusal, h]

/-- Settles O36: the checks in their order on a clean state, then the record written. -/
theorem defineInterrupterPlacesRecord : Obligations.DefineInterrupterPlacesRecord := by
  intro id kind channel slot confirm s hready hpass hs hclean hfield x ch cmd free
  have hc := clean_acting hclean (.defineInterrupter id kind channel slot confirm)
  have hsame {a : Answer} (h : takeDefineInterrupter id.toNat (kindOfBytes kind channel) slot.toNat confirm.toNat
      (acting (.defineInterrupter id kind channel slot confirm) s) =
        (acting (.defineInterrupter id kind channel slot confirm) s, a)) :=
    exec_unchanged (i := cmd) rfl hready (not_delayed hpass) hs rfl hfield
      ((act_defineInterrupter id kind channel slot confirm _).trans h)
  have hnoBoundary (h : free) : interrupterOn s slot.toNat = none :=
    interrupterOn_none.mpr fun y hy ⟨q, hq, hb⟩ => h y hy q hq hb
  refine ⟨fun hx => hsame (takeDefineInterrupter_inUse hx) (follow_refuse _),
    fun hx hslot => hsame (takeDefineInterrupter_notFound hx hslot) (follow_refuse _),
    fun hx hslot => hsame (takeDefineInterrupter_quarantined hc hx hslot) (follow_refuse _),
    fun y q hx hslot hy hq hb hlow => ?_, fun hx hslot hfree hkind hfailed => ?_,
    fun y q hx hslot hfree hkind hfailed hy hq hb hlow => ?_, fun hx hslot hfree hok => ?_⟩
  · have hon : interrupterOn s slot.toNat = some y :=
      interrupterOn_some hy ⟨q, hq, hb⟩ fun z hz ⟨p, hp, hpb⟩ => hlow z hz p hp hpb
    exact hsame (takeDefineInterrupter_bounded hc hx hslot hon) (follow_refuseNaming _ _ _)
  · have hch : channelRefusal s (kindOfBytes kind channel) = some (refuse .noSlot) := by
      rw [hkind, kindOfBytes_local, channelRefusal_failed hfailed]
    exact hsame (takeDefineInterrupter_channel hc hx hslot (hnoBoundary hfree) hch) (follow_refuse _)
  · have hbound : boundTo s ch = some y := boundTo_some hy ⟨q, hq, hb⟩ fun z hz ⟨p, hp, hpk⟩ => hlow z hz p hp hpk
    have hch : channelRefusal s (kindOfBytes kind channel) = some (refuseNaming .inUse .interrupter y) := by
      rw [hkind, kindOfBytes_local, channelRefusal_good hfailed, hbound]
      rfl
    exact hsame (takeDefineInterrupter_channel hc hx hslot (hnoBoundary hfree) hch) (follow_refuseNaming _ _ _)
  · have hch : channelRefusal s (kindOfBytes kind channel) = none := by
      rcases kind_of_fieldFault hfield with hkind | hkind
      · obtain ⟨hgood, hnone⟩ := hok hkind
        have hbound : boundTo s ch = none := boundTo_none.mpr fun y hy ⟨q, hq, hqk⟩ => hnone y hy q hq hqk
        rw [hkind, kindOfBytes_local, channelRefusal_good hgood, hbound]
        rfl
      · rw [hkind]
        rfl
    let r := freshInterrupter (kindOfBytes kind channel) slot.toNat confirm.toNat
    have hrow (k : Nat) : rowAt (setRow s.interrupters x (.live r)) k = if k = x then some (.live r) else rowAt s.interrupters k :=
      rowAt_setRow _ _ _ _
    refine ⟨setRow s.interrupters x (.live r), ?_, hrow⟩
    refine exec_taken (r := .defineInterrupter id kind channel slot confirm)
      (t := { s with interrupters := setRow s.interrupters x (.live r) }) rfl hready (not_delayed hpass) hs rfl hfield
      ((act_defineInterrupter id kind channel slot confirm _).trans
        (takeDefineInterrupter_done hc hx hslot (hnoBoundary hfree) hch)) (follow_okWith _) rfl ?_
    refine urgencySource_interrupter (x := x) rfl rfl (fun y hy => ?_) ?_ (isTripping_none ?_)
    · rw [hrow, if_neg hy]
    · rw [isTripping_of_state (r := r) (interrupterAt_row.mpr (by rw [hrow, if_pos rfl]))]
      rfl
    · simp [interrupterAt, hx]

end Sys2Proof.Machine
end

section
namespace Sys2Proof.Machine

/-! ### DEFINE_SENSOR (R2 to R4) -/

theorem readAddress_clean {s : State} (hc : clean s = true) (a : FieldAddress) : readAddress a s = s := by
  unfold readAddress
  split
  · exact readSensor_clean hc _
  · rfl

/-- DEFINE_SENSOR from check 5 on, with no error to read. -/
theorem takeDefineSensor_clean {s : State} (hc : clean s = true) (d : Nat) (a : FieldAddress) (ph : PhaseSet) (l : Nat) :
    takeDefineSensor d a ph l s =
      if !bankPresent s (sensorBank d) then (s, refuse .noSlot)
      else if (rowAt s.sensors d).isSome then (s, refuseAt .inUse 0)
      else if (rowAt s.index a.toNat).isSome then (s, refuseAt .inUse 1)
      else (placeSensor d (freshSensor a ph l) s, okWith []) := by
  unfold takeDefineSensor
  simp only [readSensor_clean hc, readAddress_clean hc]

theorem follow_refuseAt (c : ResultCode) (k : Nat) : (refuseAt c k).follow ≠ .restart := by simp [refuseAt]

/-- Settles O27: the checks of a clean state in their order, then the record and its index entry. -/
theorem defineSensorPlacesRecord : Obligations.DefineSensorPlacesRecord := by
  intro slot phases latency address s hready hpass hs hclean hfield d cmd
  have hc := clean_acting hclean (.defineSensor slot address phases latency)
  have htake := (act_defineSensor slot phases latency address _).trans
    (takeDefineSensor_clean hc slot.toNat address (phasesOfByte phases) latency.toNat)
  have hbank : bankPresent (acting (.defineSensor slot address phases latency) s) (sensorBank slot.toNat) =
      s.tm.bankMap.getLsbD (d / 6) := rfl
  have hsame {a : Answer} := exec_unchanged (i := cmd) (a := a) rfl hready (not_delayed hpass) hs rfl hfield
  refine ⟨fun hb => hsame (htake.trans ?_) (follow_refuse _), fun hb hslot => hsame (htake.trans ?_) (follow_refuseAt _ _),
    fun hb hslot hindex => hsame (htake.trans ?_) (follow_refuseAt _ _), fun hb hslot hindex => ?_⟩
  · simp [hbank, hb]
  · have h1 : (rowAt (acting (.defineSensor slot address phases latency) s).sensors slot.toNat).isSome = true :=
      Option.isSome_iff_ne_none.mpr hslot
    simp [hbank, hb, h1]
  · have h1 : rowAt (acting (.defineSensor slot address phases latency) s).sensors slot.toNat = none := hslot
    have h2 : (rowAt (acting (.defineSensor slot address phases latency) s).index address.toNat).isSome = true :=
      Option.isSome_iff_ne_none.mpr hindex
    simp [hbank, hb, h1, h2]
  · have h1 : rowAt (acting (.defineSensor slot address phases latency) s).sensors slot.toNat = none := hslot
    have h2 : rowAt (acting (.defineSensor slot address phases latency) s).index address.toNat = none := hindex
    have hdone := htake.trans (by simp only [hbank, hb, h1, h2]; rfl)
    exact ⟨_, _, exec_taken (t := { s with
        sensors := setRow s.sensors d (.live (freshSensor address (phasesOfByte phases) latency.toNat))
        index := setRow s.index address.toNat d }) rfl hready (not_delayed hpass) hs rfl hfield hdone (follow_okWith _) rfl rfl,
      fun k => rowAt_setRow _ _ _ _, fun k => rowAt_setRow _ _ _ _⟩

/-! ### RETIRE_SENSOR (R5, R53) -/

theorem names_iff {r : SegRec} {d : Nat} : names r d = true ↔ d ∈ r.up :: r.down := by
  simp [names, boundarySensors]

theorem segmentsNaming_nil {s : State} {d : Nat} :
    segmentsNaming s d = [] ↔ ∀ n < 40, ¬ ∃ r, segmentAt s n = some r ∧ d ∈ r.up :: r.down := by
  unfold segmentsNaming
  simp only [List.filter_eq_nil_iff, mem_allSegments, inTreeWith_iff, names_iff]

theorem segmentsNaming_cons {s : State} {d n : Nat} (hn : n < 40) (h : ∃ r, segmentAt s n = some r ∧ d ∈ r.up :: r.down)
    (hlow : ∀ m < n, ¬ ∃ r, segmentAt s m = some r ∧ d ∈ r.up :: r.down) : ∃ rest, segmentsNaming s d = n :: rest := by
  have hhead : (segmentsNaming s d).head? = some n := by
    rw [segmentsNaming, List.head?_filter]
    exact find_range_some (fun k => by rw [inTreeWith_iff]; simp only [names_iff]) hn h hlow
  exact List.head?_eq_some_iff.mp hhead

theorem rowAt_of_mem {α : Type} {tab : Table α} (hwf : tableWf tab = true) {k : Nat} {v : α} (h : (k, v) ∈ tab) :
    rowAt tab k = some v := by
  rw [tableWf_pairwise] at hwf
  induction tab with
  | nil => cases h
  | cons p rest ih =>
    obtain ⟨hlt, hrest⟩ := List.pairwise_cons.mp hwf
    rcases List.mem_cons.mp h with rfl | hmem
    · simp [rowAt]
    · have hne : p.1 ≠ k := Nat.ne_of_lt (hlt _ hmem)
      simp [rowAt, hne, ih hrest hmem]

/-- In a table with rising numbers a row stands exactly when it is listed. -/
theorem rowAt_iff_mem {α : Type} {tab : Table α} (hwf : tableWf tab = true) {k : Nat} {v : α} :
    rowAt tab k = some v ↔ (k, v) ∈ tab :=
  ⟨rowAt_mem, rowAt_of_mem hwf⟩

section
variable {s : State} {d : Nat}

theorem takeRetireSensor_notFound (h : rowAt s.sensors d = none) : takeRetireSensor d s = (s, refuse .notFound) := by
  simp [takeRetireSensor, h]

variable (hc : clean s = true) (h : rowAt s.sensors d ≠ none)
include hc h

/-- RETIRE_SENSOR of a defined slot, with no error to read. -/
theorem takeRetireSensor_clean :
    takeRetireSensor d s = (match segmentsNaming s d, interrupterOn s d with
      | n :: _, _ => (s, refuseNaming .inUse .segment n)
      | [], some x => (s, refuseNaming .inUse .interrupter x)
      | [], none => (freeSlot d s, okWith [])) := by
  have hread : readInterrupters (readSegments (readSensor d s)) = s := by
    rw [readSensor_clean hc, readSegments_clean hc, readInterrupters_clean hc]
  have hdef : (rowAt s.sensors d).isNone = false := by
    rw [Option.isNone_eq_false_iff, Option.isSome_iff_ne_none]
    exact h
  unfold takeRetireSensor
  rw [hdef, hread]
  dsimp only
  rcases segmentsNaming s d with _ | ⟨n, rest⟩
  · rcases interrupterOn s d with _ | x <;> rfl
  · rfl

end

/-- Settles O28: the lowest segment, else the lowest interrupter, that holds the sensor refuses; a free sensor's slot is freed. -/
theorem retireSensorFreesSlot : Obligations.RetireSensorFreesSlot := by
  intro slot s hready hpass hs hclean hslot d named bounds
  have hfield : fieldFault (.retireSensor slot) = none := firstBad_within (by omega) []
  have hc := clean_acting hclean (.retireSensor slot)
  have hsame {a : Answer} (h : takeRetireSensor slot.toNat (acting (.retireSensor slot) s) = (acting (.retireSensor slot) s, a)) :=
    exec_unchanged (i := .retireSensor slot) rfl hready (not_delayed hpass) hs rfl hfield ((act_retireSensor slot _).trans h)
  refine ⟨fun hrow => hsame (takeRetireSensor_notFound hrow) (follow_refuse _), fun n hn hrow hname hlow => ?_,
    fun x hx hrow hfree hbound hlow => ?_, fun hrow hfree hunbound hwf => ?_⟩
  · obtain ⟨rest, hlist⟩ := segmentsNaming_cons hn hname hlow
    have hlist' : segmentsNaming (acting (.retireSensor slot) s) slot.toNat = n :: rest := hlist
    refine hsame ((takeRetireSensor_clean hc hrow).trans ?_) (follow_refuseNaming _ _ _)
    rw [hlist']
  · have hlist : segmentsNaming (acting (.retireSensor slot) s) slot.toNat = [] := segmentsNaming_nil.mpr hfree
    have hon : interrupterOn (acting (.retireSensor slot) s) slot.toNat = some x := interrupterOn_some hx hbound hlow
    refine hsame ((takeRetireSensor_clean hc hrow).trans ?_) (follow_refuseNaming _ _ _)
    rw [hlist, hon]
  · have hlist : segmentsNaming (acting (.retireSensor slot) s) slot.toNat = [] := segmentsNaming_nil.mpr hfree
    have hon : interrupterOn (acting (.retireSensor slot) s) slot.toNat = none := interrupterOn_none.mpr hunbound
    have hdone := (act_retireSensor slot _).trans ((takeRetireSensor_clean hc hrow).trans (by rw [hlist, hon]))
    refine ⟨dropRow s.sensors d, s.index.filter fun p => p.2 != d,
      exec_taken (t := { s with
        sensors := dropRow s.sensors d, index := s.index.filter fun p => p.2 != d
        ring := s.ring.map fun f => { f with expected := f.expected.filter (· != d), reports := dropRow f.reports d } })
        rfl hready (not_delayed hpass) hs rfl hfield hdone (follow_okWith _) rfl rfl,
      fun k => rowAt_dropRow _ _ _, fun k e => ?_⟩
    rw [rowAt_iff_mem (tableWf_filter _ _ hwf), rowAt_iff_mem hwf]
    simp

end Sys2Proof.Machine
end

section
namespace Sys2Proof.Machine

/-! ### DEFINE_SEGMENT past the tables (R9, R10, R12, R13) -/

theorem act_defineSegment (n ph up p : Byte) (b i : Half) (down : List Byte) (s : State) :
    act (.defineSegment n ph up b p i down) s = takeDefineSegment n.toNat (segmentFieldsOf ph up b p i down) s := rfl

section
variable {s : State} {n : Nat} {d : SegmentFields}

theorem takeDefineSegment_noSlot (h : bankPresent s (segmentBank n) = false) :
    takeDefineSegment n d s = (s, refuse .noSlot) := by
  simp [takeDefineSegment, h]

theorem takeDefineSegment_notFound (hb : bankPresent s (segmentBank n) = true) {x : Nat}
    (h : (d.up :: d.down).find? (fun x => (rowAt s.sensors x).isNone) = some x) :
    takeDefineSegment n d s = (s, refuseNaming .notFound .sensor x) := by
  unfold takeDefineSegment
  rw [hb, h]
  rfl

variable (hc : clean s = true) (hb : bankPresent s (segmentBank n) = true)
  (hdef : (d.up :: d.down).find? (fun x => (rowAt s.sensors x).isNone) = none)
include hc hb hdef

theorem takeDefineSegment_quarantined {x : Nat} (h : (d.up :: d.down).find? (isQuarantined s) = some x) :
    takeDefineSegment n d s = (s, refuseNaming .stateConflict .sensor x) := by
  unfold takeDefineSegment
  rw [hb, hdef, readSensors_clean hc]
  dsimp only
  rw [h]
  rfl

theorem takeDefineSegment_checked (h : (d.up :: d.down).find? (isQuarantined s) = none) :
    takeDefineSegment n d s = defineSegmentChecked n d s := by
  unfold takeDefineSegment
  rw [hb, hdef, readSensors_clean hc]
  dsimp only
  rw [h, readSegments_clean hc]
  rfl

end

theorem find_undefined_none {s : State} {l : List Nat} (h : ∀ x ∈ l, (sensorAt s x).isSome = true) :
    l.find? (fun x => (rowAt s.sensors x).isNone) = none := by
  rw [List.find?_eq_none]
  intro x hx
  simp [row_of_live (h x hx)]

theorem find_quarantined_none {s : State} {l : List Nat} (h : ∀ x ∈ l, (sensorAt s x).isSome = true) :
    l.find? (isQuarantined s) = none := by
  rw [List.find?_eq_none]
  intro x hx
  simp [isQuarantined_of_live (h x hx)]

/-- DEFINE_SEGMENT with every named sensor a live record goes on to the checks of state and tree. -/
theorem takeDefineSegment_live {s : State} (hc : clean s = true) {n : Nat} {d : SegmentFields}
    (hb : bankPresent s (segmentBank n) = true) (h : ∀ x ∈ d.up :: d.down, (sensorAt s x).isSome = true) :
    takeDefineSegment n d s = defineSegmentChecked n d s :=
  takeDefineSegment_checked hc hb (find_undefined_none h) (find_quarantined_none h)

theorem refusesEdit_false {s : State} {n : Nat}
    (h : ∀ r, segmentAt s n = some r → r.state ∈ [.normal, .deenergized, .settling]) : refusesEdit s n = false := by
  unfold refusesEdit
  split
  · rename_i r hr
    simp [mayEdit_true (h r hr)]
  · rfl

theorem segmentUrgent_false {s : State} {n : Nat}
    (h : ∀ r, segmentAt s n = some r → r.state ∈ [.normal, .deenergized, .settling]) : segmentUrgent s n = false := by
  match hr : segmentAt s n with
  | none => exact segmentUrgent_none hr
  | some r => exact segmentUrgent_editable hr (mayEdit_true (h r hr))

/-! #### The estimate and the excluded set -/

theorem foldl_max_le {f : Nat → Nat} {l : List Nat} {m : Nat} :
    m ≤ l.foldl (fun m d => max m (f d)) m ∧ ∀ d ∈ l, f d ≤ l.foldl (fun m d => max m (f d)) m := by
  induction l generalizing m with
  | nil => simp
  | cons x l ih =>
    obtain ⟨h1, h2⟩ := ih (m := max m (f x))
    rw [List.foldl_cons]
    refine ⟨by omega, fun d hd => ?_⟩
    rcases List.mem_cons.mp hd with rfl | hd
    · omega
    · exact h2 d hd

theorem foldl_max_attained {f : Nat → Nat} {l : List Nat} {m : Nat} :
    l.foldl (fun m d => max m (f d)) m = m ∨ ∃ d ∈ l, f d = l.foldl (fun m d => max m (f d)) m := by
  induction l generalizing m with
  | nil => exact .inl rfl
  | cons x l ih =>
    rw [List.foldl_cons]
    rcases ih (m := max m (f x)) with h | ⟨d, hd, h⟩
    · rw [h]
      rcases Nat.le_total (f x) m with hle | hle
      · exact .inl (by omega)
      · exact .inr ⟨x, by simp, by omega⟩
    · exact .inr ⟨d, List.mem_cons_of_mem _ hd, h⟩

theorem latencyOf_live {s : State} {d : Nat} {r : SensorRec} (h : sensorAt s d = some r) : latencyOf s d = r.latency := by
  simp [latencyOf, h]

/-- The largest latency class of live sensors bounds each, and is one of theirs, or 0 (R12). -/
theorem maxLatency_spec {s : State} {l : List Nat} (h : ∀ d ∈ l, (sensorAt s d).isSome = true) :
    (∀ d ∈ l, ∀ r, sensorAt s d = some r → r.latency ≤ maxLatency s l) ∧
    (maxLatency s l = 0 ∨ ∃ d ∈ l, ∃ r, sensorAt s d = some r ∧ r.latency = maxLatency s l) := by
  refine ⟨fun d hd r hr => ?_, ?_⟩
  · rw [← latencyOf_live hr]
    exact foldl_max_le.2 d hd
  · refine foldl_max_attained.imp id fun ⟨d, hd, he⟩ => ?_
    obtain ⟨r, hr⟩ := Option.isSome_iff_exists.mp (h d hd)
    exact ⟨d, hd, r, hr, (latencyOf_live hr).symm.trans he⟩

theorem mem_insertAsc {d n : Nat} {l : List Nat} : d ∈ insertAsc n l ↔ d = n ∨ d ∈ l := by
  induction l with
  | nil => simp [insertAsc]
  | cons m rest ih =>
    unfold insertAsc
    split
    · simp
    · split
      · rename_i hm
        simp [hm]
      · simp [ih]
        tauto

theorem mem_asSet {d : Nat} {l : List Nat} : d ∈ asSet l ↔ d ∈ l := by
  unfold asSet
  induction l with
  | nil => simp
  | cons n l ih => simp [mem_insertAsc, ih]

theorem isStale_iff {s : State} {d : Nat} : isStale s d = true ↔ ∃ r, sensorAt s d = some r ∧ r.status = .stale := by
  unfold isStale
  split <;> simp_all

theorem isBlind_eq (r : SegRec) : isBlind r = decide (r.up ∈ r.excluded) := by
  rw [isBlind, List.contains_eq_mem]

theorem isDegraded_eq (r : SegRec) : isDegraded r = decide (∃ d ∈ r.down, d ∈ r.excluded) := by
  rw [Bool.eq_iff_iff]
  simp [isDegraded]

theorem follow_definedAnswer (b e : Nat) (r : SegRec) : (definedAnswer b e r).follow ≠ .restart := by
  unfold definedAnswer
  dsimp only
  split <;> simp [okWith, answer]

/-- Settles O31: the record written, its excluded set and its estimate. -/
theorem defineSegmentWritesRecord : Obligations.DefineSegmentWritesRecord := by
  intro segment phases up policy budget iSurge down s hready hpass hs hclean hfield n names set hb hlive hedit htree
  let req : Request := .defineSegment segment phases up budget policy iSurge down
  let d : SegmentFields := segmentFieldsOf phases up budget policy iSurge down
  have hc : clean (acting req s) = true := clean_acting hclean req
  let r := freshSegment s d
  have hrefuse : refusesEdit (acting req s) n = false := refusesEdit_false hedit
  have htree' : topologyFault (acting req s) n d.phases d.up d.down = none := htree
  have hdone : act req (acting req s) = ({ s with
      hl := (acting req s).hl, segments := setRow s.segments n (.live r) }, definedAnswer d.budget (estimate s names) r) := by
    rw [act_defineSegment, takeDefineSegment_live hc hb hlive, defineSegmentChecked, hrefuse, htree']
    rfl
  have hrow (k : Nat) : rowAt (setRow s.segments n (.live r)) k = if k = n then some (.live r) else rowAt s.segments k :=
    rowAt_setRow _ _ _ _
  have hstale (x : Nat) : x ∈ r.excluded ↔ x ∈ names ∧ ∃ q, sensorAt s x = some q ∧ q.status = .stale := by
    change x ∈ asSet (names.filter (isStale s)) ↔ _
    rw [mem_asSet, List.mem_filter, isStale_iff]
  have hanswer : definedAnswer d.budget (estimate s names) r = if budget.toNat < estimate s names
      then answer .okWarning (int1 1 ++ int2 (estimate s names) ++ flag (decide (up.toNat ∈ r.excluded))
        ++ flag (decide (∃ d ∈ down.map BitVec.toNat, d ∈ r.excluded)))
      else okWith (int2 (estimate s names) ++ flag (decide (up.toNat ∈ r.excluded))
        ++ flag (decide (∃ d ∈ down.map BitVec.toNat, d ∈ r.excluded))) := by
    rw [definedAnswer, isBlind_eq, isDegraded_eq]
    simp only [List.append_assoc]
    rfl
  refine ⟨setRow s.segments n (.live r), estimate s names, maxLatency s names, r.excluded, ?_, rfl, maxLatency_spec hlive, hstale,
    hrow⟩
  rw [← hanswer]
  refine exec_taken (r := req) (t := { s with segments := setRow s.segments n (.live r) }) rfl hready (not_delayed hpass) hs rfl
    hfield hdone (follow_definedAnswer _ _ _) rfl ?_
  refine urgencySource_segment (n := n) rfl rfl (fun m hm => ?_) ?_ (segmentUrgent_false hedit)
  · rw [hrow, if_neg hm]
  · exact segmentUrgent_editable (r := r) (segmentAt_row.mpr (by rw [hrow, if_pos rfl])) rfl

end Sys2Proof.Machine
end

section
namespace Sys2Proof.Machine

/-! ### The refusals of DEFINE_SEGMENT (R9, R10, R11) -/

theorem find_split {α : Type} {p : α → Bool} {before after : List α} {x : α} (hb : ∀ y ∈ before, p y = false)
    (hx : p x = true) :
    (before ++ x :: after).find? p = some x :=
  List.find?_eq_some_iff_append.mpr ⟨hx, before, after, rfl, fun y hy => by simp [hb y hy]⟩

theorem firstSome_split {α : Type} {f : Nat → Option α} {before after : List Nat} {x : Nat} {a : α}
    (hb : ∀ y ∈ before, f y = none) (hx : f x = some a) : firstSome f (before ++ x :: after) = some a := by
  induction before with
  | nil => simp [firstSome, hx]
  | cons y before ih =>
    simp only [List.cons_append, firstSome, hb y (by simp)]
    exact ih fun z hz => hb z (by simp [hz])

theorem map_split {α β : Type} {f : α → β} {l before after : List α} {x : α} (h : l = before ++ x :: after) :
    l.map f = before.map f ++ f x :: after.map f := by
  simp [h]

/-! #### Segments of the tree -/

/-- Segment m stands in the tree with record q. -/
def inTree (s : State) (m : Nat) (q : SegRec) : Prop := m < 40 ∧ segmentAt s m = some q

theorem inTree_setAside {n m : Nat} {s : State} {q : SegRec} :
    inTree (setAside n s) m q ↔ m < 40 ∧ m ≠ n ∧ segmentAt s m = some q := by
  unfold inTree
  rw [segmentAt_setAside]
  by_cases h : m = n <;> simp [h]

theorem sharesNoSensor_setAside {s : State} (h : sharesNoSensor s) (n : Nat) : sharesNoSensor (setAside n s) := by
  intro i j q r hi hj hq hr hij
  obtain ⟨-, -, hq'⟩ := inTree_setAside.mp ⟨hi, hq⟩
  obtain ⟨-, -, hr'⟩ := inTree_setAside.mp ⟨hj, hr⟩
  exact h i j q r hi hj hq' hr' hij

section
variable {s : State} {g : Nat} {q : SegRec} {d : Nat}

theorem segmentBelow_lowest (h : inTree s g q) (hd : q.up = d) (hlow : ∀ m p, inTree s m p → p.up = d → g ≤ m) :
    segmentBelow s d = some g := by
  refine find_inTreeWith_some h.1 h.2 (by simp [hd]) fun m hm p hp => ?_
  have hne : p.up ≠ d := fun e => absurd (hlow m p ⟨hm.trans h.1, hp⟩ e) (by omega)
  simp [hne]

theorem segmentAbove_lowest (h : inTree s g q) (hd : d ∈ q.down) (hlow : ∀ m p, inTree s m p → d ∈ p.down → g ≤ m) :
    segmentAbove s d = some g := by
  refine find_inTreeWith_some h.1 h.2 (by simp [hd]) fun m hm p hp => ?_
  have hne : d ∉ p.down := fun e => absurd (hlow m p ⟨hm.trans h.1, hp⟩ e) (by omega)
  simp [hne]

theorem segmentBelow_of_shares (hs : sharesNoSensor s) (h : inTree s g q) (hd : q.up = d) : segmentBelow s d = some g := by
  refine segmentBelow_lowest h hd fun m p hp he => ?_
  by_cases hm : m = g
  · omega
  · exact absurd (he.trans hd.symm) (hs m g p q hp.1 h.1 hp.2 h.2 hm).1

theorem segmentAbove_of_shares (hs : sharesNoSensor s) (h : inTree s g q) (hd : d ∈ q.down) : segmentAbove s d = some g := by
  refine segmentAbove_lowest h hd fun m p hp he => ?_
  by_cases hm : m = g
  · omega
  · exact absurd hd ((hs m g p q hp.1 h.1 hp.2 h.2 hm).2 d he)

theorem inTree_of_find {f : SegRec → Bool} (h : allSegments.find? (inTreeWith s f) = some g) :
    ∃ q, inTree s g q ∧ f q = true := by
  obtain ⟨q, hq, hf⟩ := inTreeWith_iff.mp (List.find?_some h)
  exact ⟨q, ⟨mem_allSegments.mp (List.mem_of_find?_eq_some h), hq⟩, hf⟩

theorem inTree_of_segmentBelow (h : segmentBelow s d = some g) : ∃ q, inTree s g q ∧ q.up = d := by
  obtain ⟨q, hq, hf⟩ := inTree_of_find h
  exact ⟨q, hq, by simpa using hf⟩

theorem inTree_of_segmentAbove (h : segmentAbove s d = some g) : ∃ q, inTree s g q ∧ d ∈ q.down := by
  obtain ⟨q, hq, hf⟩ := inTree_of_find h
  exact ⟨q, hq, by simpa using hf⟩

theorem segmentBelow_none_iff : segmentBelow s d = none ↔ ∀ m p, inTree s m p → p.up ≠ d := by
  rw [segmentBelow_none]
  exact ⟨fun h m p hp => h m hp.1 p hp.2, fun h m hm p hp => h m p ⟨hm, hp⟩⟩

theorem segmentAbove_none_iff : segmentAbove s d = none ↔ ∀ m p, inTree s m p → d ∉ p.down := by
  rw [segmentAbove_none]
  exact ⟨fun h m p hp => h m hp.1 p hp.2, fun h m hm p hp => h m p ⟨hm, hp⟩⟩

/-! #### Going down the tree -/

/-- The segment below d has u in its list, or a sensor from which u is reached. -/
theorem reaches_step {u e fuel : Nat} (hb : segmentBelow s d = some g) (hq : segmentAt s g = some q) (he : e ∈ q.down)
    (hu : e = u ∨ reaches s u fuel e = true) : reaches s u (fuel + 1) d = true := by
  simp only [reaches, hb, Option.bind_some, hq, List.any_eq_true, Bool.or_eq_true, beq_iff_eq]
  exact ⟨e, he, hu⟩

theorem step_of_reaches {u fuel : Nat} (h : reaches s u (fuel + 1) d = true) :
    ∃ g q e, inTree s g q ∧ q.up = d ∧ e ∈ q.down ∧ (e = u ∨ reaches s u fuel e = true) := by
  rcases hb : segmentBelow s d with _ | g
  · simp [reaches, hb] at h
  · obtain ⟨q, hq, hup⟩ := inTree_of_segmentBelow hb
    simp only [reaches, hb, Option.bind_some, hq.2, List.any_eq_true, Bool.or_eq_true, beq_iff_eq] at h
    obtain ⟨e, he, hu⟩ := h
    exact ⟨g, q, e, hq, hup, he, hu⟩

end

section
variable {s : State} {n u : Nat}

theorem leadsDown_of_reaches {fuel d : Nat} (h : reaches (setAside n s) u fuel d = true) : ∃ way, leadsDown s n u d way := by
  induction fuel generalizing d with
  | zero => cases h
  | succ fuel ih =>
    obtain ⟨g, q, e, hq, hup, he, hu⟩ := step_of_reaches h
    obtain ⟨hg, hgn, hrow⟩ := inTree_setAside.mp hq
    rcases hu with rfl | hu
    · exact ⟨[g], hg, hgn, q, hrow, hup, .inl ⟨rfl, he⟩⟩
    · obtain ⟨rest, hrest⟩ := ih hu
      exact ⟨g :: rest, hg, hgn, q, hrow, hup, .inr ⟨e, he, hrest⟩⟩

theorem not_reaches_of_noWay {d : Nat} (h : ∀ way, ¬ leadsDown s n u d way) (fuel : Nat) :
    reaches (setAside n s) u fuel d = false := by
  rw [← Bool.not_eq_true]
  exact fun hr => (leadsDown_of_reaches hr).elim h

theorem reaches_of_leadsDown (hs : sharesNoSensor s) {path : List Nat} {d fuel : Nat} (h : leadsDown s n u d path)
    (hlen : path.length ≤ fuel) : reaches (setAside n s) u fuel d = true := by
  induction path generalizing d fuel with
  | nil => cases h
  | cons g rest ih =>
    obtain ⟨hg, hgn, q, hrow, hup, hnext⟩ := h
    have hq : inTree (setAside n s) g q := inTree_setAside.mpr ⟨hg, hgn, hrow⟩
    have hb := segmentBelow_of_shares (sharesNoSensor_setAside hs n) hq hup
    obtain _ | fuel := fuel
    · simp at hlen
    · rcases hnext with ⟨-, hu⟩ | ⟨e, he, hrest⟩
      · exact reaches_step hb hq.2 hu (.inl rfl)
      · exact reaches_step hb hq.2 he (.inr (ih hrest (by simpa using hlen)))

/-- The last segment of a path down has the sensor that the path leads to in its list. -/
theorem last_of_leadsDown {path : List Nat} {d g : Nat} (h : leadsDown s n u d path) (hl : path.getLast? = some g) :
    ∃ q, inTree (setAside n s) g q ∧ u ∈ q.down := by
  induction path generalizing d with
  | nil => cases h
  | cons k rest ih =>
    obtain ⟨hk, hkn, q, hrow, -, hnext⟩ := h
    rcases hnext with ⟨rfl, hu⟩ | ⟨e, -, hrest⟩
    · obtain rfl : k = g := by simpa using hl
      exact ⟨q, inTree_setAside.mpr ⟨hk, hkn, hrow⟩, hu⟩
    · rcases rest with _ | ⟨j, rest⟩
      · cases hrest
      · exact ih hrest (by simpa using hl)

end

/-! #### The tree checks -/

theorem phaseSubset_false {x y : PhaseSet} : phaseSubset x y = false ↔ ∃ k, perPhase x k = true ∧ perPhase y k = false := by
  have hall (k : Phase) : k ∈ allPhases := by cases k <;> decide
  simp [phaseSubset, hall]

theorem phaseSubset_true {x y : PhaseSet} : phaseSubset x y = true ↔ ¬ ∃ k, perPhase x k = true ∧ perPhase y k = false := by
  rw [← phaseSubset_false, Bool.not_eq_false]

theorem sensorPhases_live {s : State} {d : Nat} {r : SensorRec} (h : sensorAt s d = some r) : sensorPhases s d = r.phases := by
  simp [sensorPhases, h]

theorem segmentPhases_inTree {s : State} {g : Nat} {q : SegRec} (h : inTree s g q) : segmentPhases s g = q.phases := by
  simp [segmentPhases, h.2]

section
variable {s : State} {n up : Nat} {down : List Nat} {ph : PhaseSet}

theorem topologyFault_selfList (h : up ∈ down) : topologyFault s n ph up down = some ⟨4, some up, none⟩ := by
  simp [topologyFault_eq, selfList, h]

variable (hself : up ∉ down)
include hself

theorem topologyFault_upShared {g : Nat} (h : segmentBelow (setAside n s) up = some g) :
    topologyFault s n ph up down = some ⟨2, some up, some g⟩ := by
  simp [topologyFault_eq, selfList, hself, sensorShared, h]

theorem topologyFault_downShared {before after : List Nat} {d g : Nat} (hup : segmentBelow (setAside n s) up = none)
    (hsplit : down = before ++ d :: after) (hb : ∀ e ∈ before, segmentAbove (setAside n s) e = none)
    (hd : segmentAbove (setAside n s) d = some g) : topologyFault s n ph up down = some ⟨2, some d, some g⟩ := by
  have hshared : sensorShared (setAside n s) up down = some ⟨2, some d, some g⟩ := by
    simp only [sensorShared, hup]
    rw [hsplit]
    exact firstSome_split (fun e he => by simp [hb e he]) (by simp [hd])
  simp [topologyFault_eq, selfList, hself, hshared]

variable (hshared : sensorShared (setAside n s) up down = none)
include hshared

theorem topologyFault_cycle {before after : List Nat} {d : Nat} (hsplit : down = before ++ d :: after)
    (hb : ∀ e ∈ before, reaches (setAside n s) up 40 e = false) (hd : reaches (setAside n s) up 40 d = true) :
    topologyFault s n ph up down = some ⟨1, some d, segmentAbove (setAside n s) up⟩ := by
  have hcycle : cycle (setAside n s) up down = some ⟨1, some d, segmentAbove (setAside n s) up⟩ := by
    rw [cycle, hsplit]
    exact firstSome_split (fun e he => by simp [hb e he]) (by simp [hd])
  simp [topologyFault_eq, selfList, hself, hshared, hcycle]

variable (hcycle : cycle (setAside n s) up down = none)
include hcycle

theorem topologyFault_phase : topologyFault s n ph up down = phaseFault (setAside n s) ph up down := by
  simp [topologyFault_eq, selfList, hself, hshared, hcycle]

end

section
variable {s : State} {up : Nat} {down : List Nat} {ph : PhaseSet}

theorem phaseFault_sensor {before after : List Nat} {x : Nat} (hsplit : up :: down = before ++ x :: after)
    (hb : ∀ y ∈ before, phaseSubset ph (sensorPhases s y) = true) (hx : phaseSubset ph (sensorPhases s x) = false) :
    phaseFault s ph up down = some ⟨3, some x, none⟩ := by
  unfold phaseFault
  rw [hsplit, firstSome_split (fun y hy => by simp [hb y hy]) (by rw [hx]; rfl)]
  rfl

variable (hsensors : ∀ y ∈ up :: down, phaseSubset ph (sensorPhases s y) = true)
include hsensors

theorem phaseFault_parent {g : Nat} (hg : segmentAbove s up = some g) (h : phaseSubset ph (segmentPhases s g) = false) :
    phaseFault s ph up down = some ⟨3, none, some g⟩ := by
  unfold phaseFault
  rw [firstSome_none.mpr fun y hy => by simp [hsensors y hy], hg]
  simp [h]

theorem phaseFault_child {before after : List Nat} {d g : Nat}
    (hparent : ∀ p, segmentAbove s up = some p → phaseSubset ph (segmentPhases s p) = true)
    (hsplit : down = before ++ d :: after)
    (hb : ∀ e ∈ before, ∀ p, segmentBelow s e = some p → phaseSubset (segmentPhases s p) ph = true)
    (hg : segmentBelow s d = some g) (h : phaseSubset (segmentPhases s g) ph = false) :
    phaseFault s ph up down = some ⟨3, none, some g⟩ := by
  have hpar : ((segmentAbove s up).bind fun g =>
      if phaseSubset ph (segmentPhases s g) then none else some (⟨3, none, some g⟩ : TopologyFault)) = none := by
    rcases ha : segmentAbove s up with _ | p
    · rfl
    · simp [hparent p ha]
  unfold phaseFault
  rw [firstSome_none.mpr fun y hy => by simp [hsensors y hy], hpar, hsplit,
    firstSome_split (x := d) (a := ⟨3, none, some g⟩) (fun e he => ?_) (by simp [hg, h])]
  · rfl
  · rcases hbelow : segmentBelow s e with _ | p
    · rfl
    · simp [hb e he p hbelow]

end

/-! #### The refusals -/

/-- The bytes of a failing tree check (R173). -/
def faultBytes (f : TopologyFault) : List Byte := int1 f.subcode ++ optBytes int1 f.sensor ++ optBytes int1 f.segment

theorem faultBytes_sensor (k : Nat) (d : Byte) (g : Nat) :
    faultBytes ⟨k, some d.toNat, some g⟩ = [BitVec.ofNat 8 k, 1, d, 1, BitVec.ofNat 8 g] := by
  simp [faultBytes, int1, optBytes]

theorem faultBytes_sensorOnly (k : Nat) (d : Byte) : faultBytes ⟨k, some d.toNat, none⟩ = [BitVec.ofNat 8 k, 1, d, 0] := by
  simp [faultBytes, int1, optBytes]

theorem faultBytes_segment (k g : Nat) : faultBytes ⟨k, none, some g⟩ = [BitVec.ofNat 8 k, 0, 1, BitVec.ofNat 8 g] := by
  simp [faultBytes, int1, optBytes]

theorem defineSegmentChecked_conflict {s : State} {n : Nat} {d : SegmentFields} {r : SegRec} (h : segmentAt s n = some r)
    (hst : mayEdit r.state = false) : defineSegmentChecked n d s = (s, refuse .stateConflict) := by
  simp [defineSegmentChecked, refusesEdit_of h, hst]

theorem defineSegmentChecked_fault {s : State} {n : Nat} {d : SegmentFields} {f : TopologyFault}
    (hr : refusesEdit s n = false) (h : topologyFault s n d.phases d.up d.down = some f) :
    defineSegmentChecked n d s = (s, answer .topology (faultBytes f)) := by
  rw [defineSegmentChecked, hr, h]
  rfl

theorem mem_map_toNat {b : Byte} {l : List Byte} : b.toNat ∈ l.map BitVec.toNat ↔ b ∈ l := by
  rw [List.mem_map]
  exact ⟨fun ⟨c, hc, he⟩ => BitVec.eq_of_toNat_eq he ▸ hc, fun h => ⟨b, h, rfl⟩⟩

theorem forall_map_toNat {l : List Byte} {P : Nat → Prop} : (∀ k ∈ l.map BitVec.toNat, P k) ↔ ∀ b ∈ l, P b.toNat := by
  simp

theorem isQuarantined_iff {s : State} {d : Nat} : isQuarantined s d = true ↔ rowAt s.sensors d = some .quarantined := by
  simp [isQuarantined]

section
variable {segment phases up policy : Byte} {budget iSurge : Half} {down : List Byte} {s : State} (hready : ready s = true)
  (hpass : s.pass = none) (hs : inService s = true) (hclean : clean s = true)
  (hfield : fieldFault (.defineSegment segment phases up budget policy iSurge down) = none)
include hready hpass hs hfield

/-- A refusal of DEFINE_SEGMENT changes nothing but Host Link. -/
theorem exec_defineSegment_refused {a : Answer} (ha : a.follow ≠ .restart)
    (h : takeDefineSegment segment.toNat (segmentFieldsOf phases up budget policy iSurge down)
      (acting (.defineSegment segment phases up budget policy iSurge down) s) =
        (acting (.defineSegment segment phases up budget policy iSurge down) s, a)) :
    exec (.defineSegment segment phases up budget policy iSurge down) s = .next (answered 13 a s) :=
  exec_unchanged (r := .defineSegment segment phases up budget policy iSurge down) rfl hready (not_delayed hpass) hs rfl hfield
    ((act_defineSegment ..).trans h) ha

include hclean

/-- A failing tree check is answered with its bytes (R11). -/
theorem exec_defineSegment_fault (hb : s.tm.bankMap.getLsbD (segment.toNat / 5) = true)
    (hlive : ∀ y ∈ up :: down, (sensorAt s y.toNat).isSome = true)
    (hedit : ∀ r, segmentAt s segment.toNat = some r → r.state ∈ [.normal, .deenergized, .settling]) {f : TopologyFault}
    (h : topologyFault s segment.toNat (phasesOfByte phases) up.toNat (down.map BitVec.toNat) = some f) :
    exec (.defineSegment segment phases up budget policy iSurge down) s =
      .next (answered 13 (answer .topology (faultBytes f)) s) :=
  exec_defineSegment_refused hready hpass hs hfield (by simp [answer])
    ((takeDefineSegment_live (d := segmentFieldsOf phases up budget policy iSurge down) (clean_acting hclean _) hb
      (forall_map_toNat (l := up :: down) (P := fun k => (sensorAt s k).isSome = true).mpr hlive)).trans
      (defineSegmentChecked_fault (refusesEdit_false hedit) h))

/-- The tables and the state of the number refuse before the tree is looked at (R9, R10). -/
theorem defineSegment_tableRefusals :
    (s.tm.bankMap.getLsbD (segment.toNat / 5) = false →
      exec (.defineSegment segment phases up budget policy iSurge down) s = .next (answered 13 (refuse .noSlot) s)) ∧
    (s.tm.bankMap.getLsbD (segment.toNat / 5) = true → ∀ before x after, up :: down = before ++ x :: after →
      ((∀ y ∈ before, rowAt s.sensors y.toNat ≠ none) → rowAt s.sensors x.toNat = none →
        exec (.defineSegment segment phases up budget policy iSurge down) s =
          .next (answered 13 (refuseNaming .notFound .sensor x.toNat) s)) ∧
      ((∀ y ∈ up :: down, rowAt s.sensors y.toNat ≠ none) → (∀ y ∈ before, rowAt s.sensors y.toNat ≠ some .quarantined) →
        rowAt s.sensors x.toNat = some .quarantined →
        exec (.defineSegment segment phases up budget policy iSurge down) s =
          .next (answered 13 (refuseNaming .stateConflict .sensor x.toNat) s))) ∧
    (s.tm.bankMap.getLsbD (segment.toNat / 5) = true → (∀ y ∈ up :: down, (sensorAt s y.toNat).isSome = true) →
      ∀ r, segmentAt s segment.toNat = some r → r.state ∈ [.suspect, .isolating, .isolated, .withheld, .isolationFailed] →
        exec (.defineSegment segment phases up budget policy iSurge down) s = .next (answered 13 (refuse .stateConflict) s)) := by
  have hc := clean_acting hclean (.defineSegment segment phases up budget policy iSurge down)
  have hrefused {a : Answer} := exec_defineSegment_refused (a := a) hready hpass hs hfield
  refine ⟨fun hb => hrefused (follow_refuse _) (takeDefineSegment_noSlot hb), fun hb before x after hsplit => ⟨fun hdef hx => ?_,
    fun hdef hgood hx => ?_⟩, fun hb hlive r hr hst => ?_⟩
  · have hfind : ((up :: down).map BitVec.toNat).find? (fun k => (rowAt s.sensors k).isNone) = some x.toNat := by
      rw [map_split hsplit]
      exact find_split (forall_map_toNat.mpr fun y hy => by simpa [Option.isSome_iff_ne_none] using hdef y hy) (by simpa using hx)
    exact hrefused (follow_refuseNaming _ _ _) (takeDefineSegment_notFound (s := acting _ s)
      (d := segmentFieldsOf phases up budget policy iSurge down) hb hfind)
  · have hnone : ((up :: down).map BitVec.toNat).find? (fun k => (rowAt s.sensors k).isNone) = none := by
      rw [List.find?_eq_none]
      exact forall_map_toNat.mpr fun y hy => by simpa using hdef y hy
    have hfind : ((up :: down).map BitVec.toNat).find? (isQuarantined s) = some x.toNat := by
      rw [map_split hsplit]
      exact find_split (forall_map_toNat.mpr fun y hy => by simpa [isQuarantined] using hgood y hy) (isQuarantined_iff.mpr hx)
    exact hrefused (follow_refuseNaming _ _ _) (takeDefineSegment_quarantined
      (d := segmentFieldsOf phases up budget policy iSurge down) hc hb hnone hfind)
  · have hlive' := forall_map_toNat (l := up :: down) (P := fun k => (sensorAt s k).isSome = true).mpr hlive
    exact hrefused (follow_refuse _)
      ((takeDefineSegment_live (d := segmentFieldsOf phases up budget policy iSurge down) hc hb hlive').trans
        (defineSegmentChecked_conflict hr (mayEdit_false hst)))

end

/-- Settles O30: the tables and states on a clean state, then each tree check on the tree with the old record set aside. -/
theorem defineSegmentRefusedByTablesAndTree : Obligations.DefineSegmentRefusedByTablesAndTree := by
  refine ⟨fun _ _ _ _ _ _ _ _ => defineSegment_tableRefusals, ?_⟩
  intro segment phases up policy budget iSurge down s hready hpass hs hclean hfield n cmd hb hlive hedit other fault num taken
      lacks mine
  let aside : State := setAside n s
  let slots : List Nat := down.map BitVec.toNat
  have hfault {f : TopologyFault} {bytes : List Byte} (h : topologyFault s n mine up.toNat slots = some f)
      (hbytes : faultBytes f = bytes) : fault bytes :=
    hbytes ▸ exec_defineSegment_fault hready hpass hs hclean hfield hb hlive hedit h
  have hother {m : Nat} {p : SegRec} : inTree aside m p ↔ other m p := inTree_setAside
  have htaken (e : Byte) : segmentAbove aside e.toNat = none ↔ ¬ taken e := by
    rw [segmentAbove_none_iff]
    exact ⟨fun h ⟨m, p, hp, he⟩ => h m p (hother.mpr hp) he, fun h m p hp he => h ⟨m, p, hother.mp hp, he⟩⟩
  refine ⟨fun hself => hfault (topologyFault_selfList (mem_map_toNat.mpr hself)) (faultBytes_sensorOnly 4 up),
    fun hself' => ?_⟩
  have hself : up.toNat ∉ slots := mt mem_map_toNat.mp hself'
  refine ⟨fun g q hg hup hlow => ?_, fun hfree => ?_⟩
  · have hbelow : segmentBelow aside up.toNat = some g :=
      segmentBelow_lowest (hother.mpr hg) hup fun m p hp => hlow m p (hother.mp hp)
    exact hfault (topologyFault_upShared hself hbelow) (faultBytes_sensor 2 up g)
  have hbelow : segmentBelow aside up.toNat = none := segmentBelow_none_iff.mpr fun m p hp => hfree m p (hother.mp hp)
  refine ⟨fun before e after g q hsplit hb hg he hlow => ?_, fun hdown => ?_⟩
  · have habove : segmentAbove aside e.toNat = some g :=
      segmentAbove_lowest (hother.mpr hg) he fun m p hp => hlow m p (hother.mp hp)
    exact hfault (topologyFault_downShared hself hbelow (map_split hsplit)
      (forall_map_toNat.mpr fun y hy => (htaken y).mpr (hb y hy)) habove) (faultBytes_sensor 2 e g)
  have hshared : sensorShared aside up.toNat slots = none :=
    sensorShared_none.mpr ⟨hbelow, forall_map_toNat.mpr fun y hy => (htaken y).mpr (hdown y hy)⟩
  refine ⟨fun g q e hone hg hup hu honly => ?_, fun before e after path g hshares hsplit hb hway hlen hlast => ?_,
    fun hnoway => ?_⟩
  · have honly' {m : Nat} {p : SegRec} (hp : inTree aside m p) (h : p.up = e.toNat ∨ up.toNat ∈ p.down) : g ≤ m := by
      by_cases hm : m = g
      · omega
      · obtain ⟨h1, h2⟩ := honly m p (hother.mp hp) hm
        exact absurd h (not_or.mpr ⟨h1, h2⟩)
    have hdown : segmentBelow aside e.toNat = some g :=
      segmentBelow_lowest (hother.mpr hg) hup fun m p hp h => honly' hp (.inl h)
    have habove : segmentAbove aside up.toNat = some g :=
      segmentAbove_lowest (hother.mpr hg) hu fun m p hp h => honly' hp (.inr h)
    have hfound := topologyFault_cycle (ph := mine) (before := []) (after := []) (d := e.toNat) hself hshared
      (by simp [slots, hone]) (by simp) (reaches_step hdown (hother.mpr hg).2 hu (.inl rfl))
    rw [habove] at hfound
    exact hfault hfound (faultBytes_sensor 1 e g)
  · obtain ⟨q, hq, hu⟩ := last_of_leadsDown hway hlast
    have habove := segmentAbove_of_shares (sharesNoSensor_setAside hshares n) hq hu
    have hfound := topologyFault_cycle (ph := mine) hself hshared (map_split hsplit)
      (forall_map_toNat.mpr fun y hy => not_reaches_of_noWay (hb y hy) 40) (reaches_of_leadsDown hshares hway hlen)
    rw [habove] at hfound
    exact hfault hfound (faultBytes_sensor 1 e g)
  have hcycle : cycle aside up.toNat slots = none :=
    firstSome_none.mpr (forall_map_toNat.mpr fun y hy => by
      simp [aside, not_reaches_of_noWay (hnoway y hy)])
  have hphase := topologyFault_phase (ph := mine) hself hshared hcycle
  have hcarries {y : Byte} (hy : y ∈ up :: down) (h : ∀ q, sensorAt s y.toNat = some q → ¬ lacks mine q.phases) :
      phaseSubset mine (sensorPhases aside y.toNat) = true := by
    obtain ⟨q, hq⟩ := Option.isSome_iff_exists.mp (hlive y hy)
    rw [sensorPhases_live (s := aside) hq]
    exact phaseSubset_true.mpr (h q hq)
  refine ⟨fun before x after r hsplit hr hx hb => ?_, fun hall hshares => ?_⟩
  · refine hfault (hphase.trans (phaseFault_sensor (map_split hsplit) (forall_map_toNat.mpr fun y hy => ?_) ?_))
      (faultBytes_sensorOnly 3 x)
    · exact hcarries (by simp [hsplit, hy]) (hb y hy)
    · rw [sensorPhases_live (s := aside) hr]
      exact phaseSubset_false.mpr hx
  have hsensors : ∀ k ∈ up.toNat :: slots, phaseSubset mine (sensorPhases aside k) = true :=
    forall_map_toNat (l := up :: down).mpr fun y hy => hcarries hy (hall y hy)
  have haside := sharesNoSensor_setAside hshares n
  refine ⟨fun g q hg hu hl => ?_, fun hparent before e after g q hsplit hg hup hl hb => ?_⟩
  · refine hfault (hphase.trans (phaseFault_parent hsensors (segmentAbove_of_shares haside (hother.mpr hg) hu) ?_))
      (faultBytes_segment 3 g)
    rw [segmentPhases_inTree (hother.mpr hg)]
    exact phaseSubset_false.mpr hl
  · refine hfault (hphase.trans (phaseFault_child hsensors (fun p hp => ?_) (map_split hsplit)
      (forall_map_toNat.mpr fun y hy p hp => ?_) (segmentBelow_of_shares haside (hother.mpr hg) hup) ?_)) (faultBytes_segment 3 g)
    · obtain ⟨q', hq', hu⟩ := inTree_of_segmentAbove hp
      rw [segmentPhases_inTree hq']
      exact phaseSubset_true.mpr (hparent p q' (hother.mp hq') hu)
    · obtain ⟨q', hq', hu⟩ := inTree_of_segmentBelow hp
      rw [segmentPhases_inTree hq']
      exact phaseSubset_true.mpr (hb y hy p q' (hother.mp hq') hu)
    · rw [segmentPhases_inTree (hother.mpr hg)]
      exact phaseSubset_false.mpr hl

end Sys2Proof.Machine
end

section
namespace Sys2Proof.Machine

/-! ### RESTART (R25, R26, R159) -/

/-- RESTART in service forms its reply from the state as it stands and hands it over; then its effects follow (R159). -/
theorem takeRequest_restart {s : State} (h : inService s = true) :
    takeRequest .restart s = restartEffects (handOver
      (formReply .restart { okWith [] with follow := .restart } s.hl.badCheckNext (spendBadCheck s)) (spendBadCheck s)) := by
  have hp : perform .restart (spendBadCheck s) = (spendBadCheck s, { okWith [] with follow := .restart }) :=
    perform_act (takenIn_service (s := spendBadCheck s) h rfl) rfl
  have hu : settleUrgency (urgencySource s) (spendBadCheck s) = spendBadCheck s := settleUrgency_same rfl
  unfold takeRequest
  rw [hp]
  dsimp only
  rw [hu]
  rfl

/-- The reply to a RESTART that arrives ready is the OK answer, the state as it stands (R159). -/
theorem handOver_restart {s : State} (h : ready s = true) :
    handOver (formReply .restart { okWith [] with follow := .restart } s.hl.badCheckNext (acting .restart s))
      (acting .restart s) =
      answered 4 (okWith []) s := by
  obtain ⟨hr, -⟩ := ready_iff.mp h
  have hl : linkStatus (acting .restart s) = linkStatus s := linkStatus_withHl rfl
  have hanswered : answered 4 (okWith []) s =
      { answered 4 (okWith []) s with hl := { (answered 4 (okWith []) s).hl with requests := [] } } := by
    rw [← hr]
    rfl
  rw [hanswered]
  unfold handOver formReply answered
  rw [hl]
  rfl

theorem quarantined_rewrittenSensor {f : SensorRec → SensorRec} {p : Option SensorPlace} :
    p.map (rewrittenSensor f) = some .quarantined ↔ p = some .quarantined := by
  rcases p with _ | _ | _ <;> simp [rewrittenSensor]

theorem rewrittenSensor_notLive {s : State} {d : Nat} (f : SensorRec → SensorRec) (h : sensorAt s d = none) :
    (rowAt s.sensors d).map (rewrittenSensor f) = rowAt s.sensors d := by
  rcases hp : rowAt s.sensors d with _ | r | _
  · rfl
  · simp [sensorAt, hp] at h
  · rfl

theorem rewrittenSegment_notLive {s : State} {n : Nat} (f : SegRec → SegRec) (h : segmentAt s n = none) :
    (rowAt s.segments n).map (rewrittenSegment f) = rowAt s.segments n := by
  rcases hp : rowAt s.segments n with _ | r | _
  · rfl
  · simp [segmentAt, hp] at h
  · rfl

theorem rewrittenInterrupter_notLive {s : State} {x : Nat} (f : IntRec → IntRec) (h : interrupterAt s x = none) :
    (rowAt s.interrupters x).map (rewrittenInterrupter f) = rowAt s.interrupters x := by
  rcases hp : rowAt s.interrupters x with _ | r | _
  · rfl
  · simp [interrupterAt, hp] at h
  · rfl

/-- What RESTART leaves of a state without inverted bits: every block but the three tables, and each place of the tables. -/
theorem restartEffects_clean {s : State} (hc : clean s = true) :
    ∃ a b c, restartEffects s = { s with
        sensors := a, segments := b, interrupters := c, ring := [], pass := none
        hl := { s.hl with requests := [] }
        nq := { s.nq with queue := [], tail := 0 }
        cb := { s.cb with snapshot := none, raised := .clear }
        tm := { s.tm with pendingCorrections := 0, firstBank := none }
        mc := { s.mc with mode := .hold } } ∧
      (∀ d, rowAt a d = if d < 48 then (rowAt s.sensors d).map (rewrittenSensor restartSensor) else rowAt s.sensors d) ∧
      (∀ n, rowAt b n = if n < 40 then (rowAt s.segments n).map (rewrittenSegment (restartSegment { s with sensors := a }))
        else rowAt s.segments n) ∧
      ∀ x, rowAt c x = if x < 16 then (rowAt s.interrupters x).map (rewrittenInterrupter restartInterrupter)
        else rowAt s.interrupters x := by
  obtain ⟨a, ha, hrowa⟩ := forEach_modifySensor (f := restartSensor) nodup_allSlots (s := restartBlocks s)
    fun n _ r hr => clean_sensor hc hr
  obtain ⟨b, hb, hrowb⟩ := forEach_modifySegment (g := restartSegment) (f := restartSegment { s with sensors := a })
    nodup_allSegments (s := { restartBlocks s with sensors := a }) (fun _ => rfl) fun n _ r hr => clean_segment hc hr
  obtain ⟨c, hx, hrowc⟩ := forEach_modifyInterrupter (f := restartInterrupter) nodup_allInterrupters
    (s := { restartBlocks s with sensors := a, segments := b }) fun n _ r hr => clean_interrupter hc hr
  simp only [mem_allSlots, mem_allSegments, mem_allInterrupters] at hrowa hrowb hrowc
  refine ⟨a, b, c, ?_, hrowa, hrowb, hrowc⟩
  have hblocks : rewriteInterrupters restartInterrupter (rewriteSegments restartSegment (rewriteSensors restartSensor
      (restartBlocks s))) = { restartBlocks s with sensors := a, segments := b, interrupters := c } := by
    unfold rewriteSensors
    rw [ha]
    unfold rewriteSegments
    rw [hb]
    exact hx
  unfold restartEffects
  rw [hblocks]
  rfl

theorem stepFourHolds_inService {s : State} (h : inService s = true) : stepFourHolds s = false := by
  unfold inService at h
  unfold stepFourHolds
  revert h
  cases s.mc.mode <;> simp

theorem serveUpTo_none (k : Nat) {s : State} (h : s.hl.requests = []) : serveUpTo k s = s := by
  cases k <;> simp [serveUpTo, h]

/-- The first held request is taken, and it leaves none behind it. -/
theorem serve_last {s : State} {r : Request} {rest : List Request} (hr : s.hl.requests = r :: rest) (ht : takeable r s = true)
    (hnone : (takeRequest r s).hl.requests = []) : serve s = takeRequest r s := by
  rw [serve, hr, List.length_cons, serveUpTo, hr]
  dsimp only
  rw [if_pos ht, serveUpTo_none _ hnone]

/-- Settles O7: the reply from the state as it stands, then the effects table by table; a request behind it is not taken. -/
theorem restartClearsWorkingState : Obligations.RestartClearsWorkingState := by
  refine ⟨fun s hready hpass hs hclean => ?_, fun q x y s hreq hsending hreplies hx hy hpass hs hclean => ?_⟩
  · obtain ⟨a, b, c, heff, hrowa, hrowb, hrowc⟩ := restartEffects_clean (s := answered 4 (okWith []) s) hclean
    obtain ⟨hnone, -⟩ := ready_iff.mp hready
    refine ⟨a, b, c, ?_, fun d r hd hr => ?_, fun d hd => ?_, fun n r hn hr => ?_, fun n hn => ?_, fun x r hx hr => ?_,
      fun x hx => ?_⟩
    · have hdone : exec .restart s = .next (restartEffects (answered 4 (okWith []) s)) := by
        rw [exec_of_request (i := .restart) rfl, event_request hready (not_delayed hpass),
          takeRequest_restart (s := arrived .restart s) hs]
        exact congrArg (fun u => Host.Outcome.next (restartEffects u)) (handOver_restart hready)
      rw [hdone, heff]
      simp only [answered, hnone, hpass]
    · rw [hrowa, if_pos hd]
      simp [answered, sensorAt_row.mp hr, rewrittenSensor, restartSensor, unseed, clean_sensor hclean hr]
    · rw [hrowa]
      split
      · exact rewrittenSensor_notLive (s := s) _ (hd.resolve_left (by omega))
      · rfl
    · refine ⟨(restartSegment { answered 4 (okWith []) s with sensors := a } r).excluded, ?_, fun d => ?_⟩
      · rw [hrowb, if_pos hn]
        simp [answered, segmentAt_row.mp hr, rewrittenSegment, restartSegment, clean_segment hclean hr]
      · have hmem := mem_asSet (d := d) (l := (boundarySensors r).filter fun d => rowAt a d == some .quarantined)
        have hquar : rowAt a d = some .quarantined ↔ rowAt s.sensors d = some .quarantined := by
          rw [hrowa]
          split
          · exact quarantined_rewrittenSensor
          · rfl
        rw [List.mem_filter, beq_iff_eq, hquar] at hmem
        exact hmem
    · rw [hrowb]
      split
      · exact rewrittenSegment_notLive (s := s) _ (hn.resolve_left (by omega))
      · rfl
    · rw [hrowc, if_pos hx]
      simp [answered, interrupterAt_row.mp hr, rewrittenInterrupter, restartInterrupter, clean_interrupter hclean hr]
    · rw [hrowc]
      split
      · exact rewrittenInterrupter_notLive (s := s) _ (hx.resolve_left (by omega))
      · rfl
  · have hends : replyEnds s = sendEnds s := by
      rw [replyEnds, hsending, hreplies]
      simp [hx]
    have htake : takeable .restart (sendEnds s) = true := by
      have hstep : stepFourHolds (sendEnds s) = false := stepFourHolds_inService hs
      have hlen : (sendEnds s).hl.replies = [y] := by simp [sendEnds, hreplies]
      have hpass' : (sendEnds s).pass = none := hpass
      simp only [takeable, hstep, hlen, hpass']
      simp [hy]
    let z : Reply :=
      formReply .restart { okWith [] with follow := .restart } (sendEnds s).hl.badCheckNext (spendBadCheck (sendEnds s))
    have htaken : takeRequest .restart (sendEnds s) = restartEffects (handOver z (spendBadCheck (sendEnds s))) :=
      takeRequest_restart hs
    obtain ⟨a, b, c, heff, -, -, -⟩ := restartEffects_clean (s := handOver z (spendBadCheck (sendEnds s))) hclean
    have hserved : exec .replySent s = .next (takeRequest .restart (sendEnds s)) := by
      change Host.Outcome.next (serve (replyEnds s)) = _
      rw [hends, serve_last (s := sendEnds s) hreq htake (by rw [htaken, heff])]
    refine ⟨_, z, hserved.trans (congrArg _ (htaken.trans heff)), rfl, rfl, rfl, ?_, rfl, rfl, rfl, rfl, rfl⟩
    simp [handOver, spendBadCheck, sendEnds, hreplies, z]

end Sys2Proof.Machine
end

section
namespace Sys2Proof.Machine

/-! ### What no operation on records, notices, counts, ring or pass touches -/

/-- The blocks beside the tables, the queue of notices, the counts, the ring and the pass: the input pins, Host Link, the timebase,
Mode Control, the parameters, the tail count, and the channels without their pulses. -/
structure Standing where
  pending : List Instr
  inhibitPin : Bool
  stnPins : BitVec 2
  baudPins : BitVec 2
  strapReads : Nat
  hl : HostLink
  ft : Timebase
  tail : Nat
  channels : Channels
  mc : ModeControl
  params : Params

def standing (s : State) : Standing where
  pending := s.pending
  inhibitPin := s.inhibitPin
  stnPins := s.stnPins
  baudPins := s.baudPins
  strapReads := s.strapReads
  hl := s.hl
  ft := s.ft
  tail := s.nq.tail
  channels := channelsOf fun k => { s.channels.get k with pulse := none }
  mc := s.mc
  params := s.params

/-- A state with the clock, the tables, the ring, the pass, the counts and Table Memory's own values replaced. -/
@[simp] theorem standing_update (now : Nat) (a : Table SensorPlace) (b : Table Nat) (c : Table SegPlace) (d : Table IntPlace)
    (ring : List Frame) (pass : Option Pass) (cb : CountBank) (tm : TableMemory) (s : State) :
    standing { s with now, sensors := a, index := b, segments := c, interrupters := d, ring, pass, cb, tm } = standing s := rfl

theorem standing_forEach {ns : List Nat} {f : Nat → State → State} (h : ∀ n s, standing (f n s) = standing s) (s : State) :
    standing (forEach ns f s) = standing s :=
  forEach_keeps (P := fun t => standing t = standing s) (fun n _ t ht => (h n t).trans ht) rfl

section
variable (s : State)

@[simp] theorem standing_bump (c : CountName) : standing (bump c s) = standing s := rfl
@[simp] theorem standing_latch (c : CondName) : standing (latch c s) = standing s := rfl
@[simp] theorem standing_writeSensor (n : Nat) (r : SensorRec) : standing (writeSensor n r s) = standing s := rfl
@[simp] theorem standing_writeSegment (n : Nat) (r : SegRec) : standing (writeSegment n r s) = standing s := rfl
@[simp] theorem standing_writeInterrupter (n : Nat) (r : IntRec) : standing (writeInterrupter n r s) = standing s := rfl
@[simp] theorem standing_noteCorrection (k : Nat) : standing (noteCorrection k s) = standing s := rfl
@[simp] theorem standing_arriveAt (due : Nat) : standing (arriveAt due s) = standing s := rfl
@[simp] theorem standing_forgetWork (n : Nat) : standing (forgetWork n s) = standing s := rfl
@[simp] theorem standing_leaveWaiters (n : Nat) : standing (leaveWaiters n s) = standing s := rfl
@[simp] theorem standing_lostSensor (n : Nat) : standing (lostSensor n s) = standing s := rfl
@[simp] theorem standing_freeSlot (n : Nat) : standing (freeSlot n s) = standing s := rfl
@[simp] theorem standing_modifyPass (f : Pass → Pass) : standing (modifyPass f s) = standing s := rfl

@[simp] theorem standing_modifySensor (n : Nat) (f : SensorRec → SensorRec) : standing (modifySensor n f s) = standing s := by
  rw [modifySensor_eq, standing_update]

@[simp] theorem standing_modifySegment (n : Nat) (f : SegRec → SegRec) : standing (modifySegment n f s) = standing s := by
  rw [modifySegment_eq, standing_update]

@[simp] theorem standing_modifyInterrupter (n : Nat) (f : IntRec → IntRec) :
    standing (modifyInterrupter n f s) = standing s := by
  rw [modifyInterrupter_eq, standing_update]

/-! #### Notices -/

@[simp] theorem standing_enqueue (n : Notice) : standing (enqueue n s) = standing s := by
  rcases enqueue_cases n s with ⟨_, he⟩ | ⟨_, _, he⟩ | he <;> rw [he] <;> rfl

@[simp] theorem standing_raiseAt (f : FrameNo) (b : NoticeBody) : standing (raiseAt f b s) = standing s :=
  standing_enqueue _ _

@[simp] theorem standing_raiseNow (b : NoticeBody) : standing (raiseNow b s) = standing s := standing_raiseAt _ _ _

@[simp] theorem standing_raiseAll (f : FrameNo) (bs : List NoticeBody) : standing (raiseAll f bs s) = standing s :=
  raiseAll_keeps (P := fun t => standing t = standing s) (fun b t ht => (standing_raiseAt t f b).trans ht) bs rfl

/-! #### Reads (R162) and what they find lost (R22, R23) -/

@[simp] theorem standing_quarantineSegment (n : Nat) : standing (quarantineSegment n s) = standing s := by
  simp [quarantineSegment]

@[simp] theorem standing_readSegment (n : Nat) : standing (readSegment n s) = standing s := by
  unfold readSegment
  split
  · rfl
  · dsimp only
    split
    · split <;> simp
    · simp
    · simp

@[simp] theorem standing_readSegments : standing (readSegments s) = standing s :=
  standing_forEach (fun n t => standing_readSegment t n) s

@[simp] theorem standing_excludeFrom (slot n : Nat) : standing (excludeFrom slot n s).1 = standing s := by
  unfold excludeFrom
  split
  · split <;> simp
  · rfl

@[simp] theorem standing_excludeEverywhere (slot : Nat) (ns : List Nat) :
    standing (excludeEverywhere slot ns s).1 = standing s := by
  induction ns generalizing s with
  | nil => rfl
  | cons n ns ih => exact (ih _).trans ((standing_excludeFrom _ slot n).trans (standing_readSegment s n))

@[simp] theorem standing_quarantineSensor (slot : Nat) : standing (quarantineSensor slot s) = standing s := by
  simp [quarantineSensor_eq]

@[simp] theorem standing_readSensor (slot : Nat) : standing (readSensor slot s) = standing s := by
  rcases readSensor_cases slot s with he | ⟨r, he⟩ | ⟨r, he⟩ | he <;> simp [he]

@[simp] theorem standing_readSensors (slots : List Nat) : standing (readSensors slots s) = standing s :=
  standing_forEach (fun n t => standing_readSensor t n) s

/-! #### Isolation -/

@[simp] theorem standing_modifyChain (n : Nat) (f : List ChainEntry → List ChainEntry) :
    standing (modifyChain n f s) = standing s := standing_modifySegment _ _ _

@[simp] theorem standing_setSegState (n : Nat) (st : SegState) : standing (setSegState n st s) = standing s :=
  standing_modifySegment _ _ _

@[simp] theorem standing_recordVisit (n x : Nat) (o : ChainOutcome) : standing (recordVisit n x o s) = standing s :=
  standing_modifyChain _ _ _

/-- A change of a channel that leaves its settings and its failed mark. -/
theorem standing_modifyChannel {f : Channel → Channel} (h : ∀ c, { f c with pulse := none } = { c with pulse := none })
    (ch : Fin 4) : standing (modifyChannel ch f s) = standing s := by
  have hget (k : Fin 4) : { (modifyChannel ch f s).channels.get k with pulse := none } =
      { s.channels.get k with pulse := none } := by
    rw [modifyChannel_get]
    split
    · exact h _
    · rfl
  simp only [standing, hget]
  rfl

@[simp] theorem standing_startPulse (ch : Fin 4) : standing (startPulse ch s) = standing s :=
  standing_modifyChannel s (fun c => by cases hc : c.failed <;> simp [hc]) ch

@[simp] theorem standing_startTrip (x : Nat) (r : IntRec) (n : Nat) (c : TripCause) :
    standing (startTrip x r n c s) = standing s := by
  unfold startTrip
  cases r.kind <;> simp

section
variable {e : Escalation} (he : ∀ x c b ws t, standing (e x c b ws t) = standing t)
include he

theorem standing_quarantineInterrupter (x : Nat) (r : IntRec) : standing (quarantineInterrupter e x r s) = standing s := by
  unfold quarantineInterrupter
  dsimp only
  split
  · simp [he]
  · simp

theorem standing_readInterrupterWith (x : Nat) : standing (readInterrupterWith e x s) = standing s := by
  rcases readInterrupterWith_cases e x s with h | ⟨r, h⟩ | ⟨r, h⟩ | ⟨r, h⟩ <;>
    simp [h, standing_quarantineInterrupter _ he]

theorem standing_walkWith (n : Nat) (c : TripCause) (bs : List Nat) : standing (walkWith e n c bs s) = standing s := by
  induction bs generalizing s with
  | nil => exact standing_setSegState _ _ _
  | cons b bs ih =>
    have hread (x : Nat) := standing_readInterrupterWith s he x
    unfold walkWith
    split
    · exact ih s
    · dsimp only
      split
      · simp [ih, hread]
      · split
        · simp [hread]
        · simp [ih, hread]
        · simp [ih, hread]
        all_goals split <;> simp [ih, hread]

end

@[simp] theorem standing_noteIsolationFailed (n : Nat) : standing (noteIsolationFailed n s) = standing s := by
  unfold noteIsolationFailed
  split
  · split <;> simp
  · rfl

@[simp] theorem standing_noteEscalated (x : Nat) (c : FailReason) (n : Nat) : standing (noteEscalated x c n s) = standing s :=
  standing_raiseNow _ _

theorem standing_escalateOne {w : Nat → TripCause → List Nat → State → State}
    (hw : ∀ n c bs t, standing (w n c bs t) = standing t) (x : Nat) (c : FailReason) (b n : Nat) :
    standing (escalateOne w x c b n s) = standing s := by
  unfold escalateOne
  dsimp only
  split
  · simp
  · split <;> simp [hw]

theorem standing_escalateWith (fuel x : Nat) (c : FailReason) (b : Nat) (ws : List Nat) :
    standing (escalateWith fuel x c b ws s) = standing s := by
  induction fuel generalizing x c b ws s with
  | zero => rfl
  | succ fuel ih =>
    unfold escalateWith
    split
    · simp
    · exact standing_forEach (fun n t => standing_escalateOne t
        (fun m c' bs u => standing_walkWith u (fun x c b ws v => ih v x c b ws) m c' bs) x c b n) s

@[simp] theorem standing_escalate (x : Nat) (c : FailReason) (b : Nat) (ws : List Nat) :
    standing (escalate x c b ws s) = standing s := standing_escalateWith s 17 x c b ws

@[simp] theorem standing_walk (n : Nat) (c : TripCause) (bs : List Nat) : standing (walk n c bs s) = standing s :=
  standing_walkWith s (fun x c b ws t => standing_escalate t x c b ws) n c bs

@[simp] theorem standing_readInterrupter (x : Nat) : standing (readInterrupter x s) = standing s :=
  standing_readInterrupterWith s (fun x c b ws t => standing_escalate t x c b ws) x

@[simp] theorem standing_readInterrupters : standing (readInterrupters s) = standing s :=
  standing_forEach (fun x t => standing_readInterrupter t x) s

@[simp] theorem standing_noteVerdict (n : Nat) (a : Option Nat) : standing (noteVerdict n a s) = standing s := by
  unfold noteVerdict
  split
  · split <;> simp
  · rfl

@[simp] theorem standing_confirmWalk (n : Nat) (k : Confirmation) : standing (confirmWalk n k s) = standing s := by
  unfold confirmWalk
  dsimp only
  split
  · simp
  · split
    · simp
    · split <;> simp

@[simp] theorem standing_openInterrupter (x : Nat) (o : OpenSource) (f : FrameNo) :
    standing (openInterrupter x o f s) = standing s := by
  unfold openInterrupter
  split
  · rfl
  · dsimp only
    rw [standing_raiseAt, standing_forEach fun n t => by simp, standing_writeInterrupter]

@[simp] theorem standing_failTripping (x : Nat) (c : FailReason) : standing (failTripping x c s) = standing s := by
  unfold failTripping
  split <;> simp

/-! #### The ring -/

@[simp] theorem standing_closeOldest : standing (closeOldest s) = standing s := by
  unfold closeOldest
  split
  · split <;> simp
  · rfl

@[simp] theorem standing_discardOldest : standing (discardOldest s) = standing s := by
  unfold discardOldest
  split <;> simp

@[simp] theorem standing_openFrame : standing (openFrame s) = standing s := rfl

@[simp] theorem standing_ringFrameStart : standing (ringFrameStart s) = standing s := by
  unfold ringFrameStart
  split
  · dsimp only
    rw [standing_closeOldest, standing_update, standing_openFrame]
    split <;> simp
  · rfl

@[simp] theorem standing_storeReport (number : FrameNo) (slot : Nat) (r : StoredReport) :
    standing (storeReport number slot r s) = standing s := by
  unfold storeReport
  dsimp only
  split
  · split <;> simp
  · simp

@[simp] theorem standing_judgeKnown (e : ReportEntry) (f : Frame) (slot : Nat) (r : SensorRec) :
    standing (judgeKnown e f slot r s).1 = standing s := by
  unfold judgeKnown
  split
  · simp
  · split
    · rfl
    · split
      · simp
      · dsimp only
        rw [standing_storeReport]
        repeat' split
        all_goals simp

@[simp] theorem standing_judgeEntry (e : ReportEntry) : standing (judgeEntry e s).1 = standing s := by
  unfold judgeEntry
  split
  · simp
  · split
    · simp
    · split
      · simp
      · dsimp only
        split <;> simp

@[simp] theorem standing_judgeEntries (es : List ReportEntry) : standing (judgeEntries es s).1 = standing s := by
  induction es generalizing s with
  | nil => rfl
  | cons e es ih => exact (ih _).trans (standing_judgeEntry s e)

end
end Sys2Proof.Machine
end

section
namespace Sys2Proof.Machine

section
variable (s : State)

/-! #### The evaluation pass -/

@[simp] theorem standing_queueSensorNotices (bs : List NoticeBody) : standing (queueSensorNotices bs s) = standing s := rfl

@[simp] theorem standing_queueSegmentNotices (n : Nat) (bs : List NoticeBody) :
    standing (queueSegmentNotices n bs s) = standing s := rfl

@[simp] theorem standing_goStale (slot : Nat) (r : SensorRec) : standing (goStale slot r s) = standing s := by
  simp [goStale]

@[simp] theorem standing_resume (slot : Nat) (r : SensorRec) : standing (resume slot r s) = standing s := by
  simp [resume]

@[simp] theorem standing_writeReport (slot : Nat) (v : ReportValues) (f : FrameNo) :
    standing (writeReport slot v f s) = standing s := by
  simp [writeReport]

@[simp] theorem standing_statusStep (slot : Nat) (r : SensorRec) (v : Bool) : standing (statusStep slot r v s) = standing s := by
  unfold statusStep
  split <;> split <;> simp

@[simp] theorem standing_stage1Sensor (f : Frame) (slot : Nat) : standing (stage1Sensor f slot s) = standing s := by
  unfold stage1Sensor
  dsimp only
  split
  · simp
  · split <;> simp

@[simp] theorem standing_stage1 : standing (stage1 s) = standing s := by
  unfold stage1
  split
  · exact standing_forEach (fun d t => standing_stage1Sensor t _ d) s
  · rfl

@[simp] theorem standing_stage2Segment (n : Nat) : standing (stage2Segment n s) = standing s := by
  unfold stage2Segment
  dsimp only
  split
  · split <;> simp
  · simp

@[simp] theorem standing_stage2 : standing (stage2 s) = standing s := standing_forEach (fun n t => standing_stage2Segment t n) s

@[simp] theorem standing_judgeSegment (p : Pass) (n : Nat) (r : SegRec) : standing (judgeSegment p n r s) = standing s := by
  unfold judgeSegment
  extract_lets w enters s1
  have h1 : standing s1 = standing s := by
    unfold s1
    split <;> simp
  split
  · simp [h1]
  · split <;> simp [h1]

@[simp] theorem standing_stage3Running (p : Pass) (n : Nat) (r : SegRec) : standing (stage3Running p n r s) = standing s := by
  unfold stage3Running
  split <;> simp

@[simp] theorem standing_stage3Deenergized (n : Nat) (r : SegRec) : standing (stage3Deenergized n r s) = standing s := by
  unfold stage3Deenergized
  split <;> simp

@[simp] theorem standing_stage3Settling (n : Nat) (r : SegRec) : standing (stage3Settling n r s) = standing s := by
  unfold stage3Settling
  split
  · rfl
  · split <;> simp

@[simp] theorem standing_stage3Segment (n : Nat) : standing (stage3Segment n s) = standing s := by
  unfold stage3Segment
  dsimp only
  split
  · split
    · simp
    · split <;> simp
  · simp

@[simp] theorem standing_stage3 : standing (stage3 s) = standing s := standing_forEach (fun n t => standing_stage3Segment t n) s

@[simp] theorem standing_stage4Sensor (slot : Nat) : standing (stage4Sensor slot s) = standing s := by
  unfold stage4Sensor
  dsimp only
  split
  · split
    · split <;> simp
    · simp
  · simp

@[simp] theorem standing_stage4 : standing (stage4 s) = standing s := by
  unfold stage4
  split
  · exact standing_forEach (fun d t => standing_stage4Sensor t d) s
  · rfl

@[simp] theorem standing_passDeadline (n : Nat) (r : SegRec) : standing (passDeadline n r s) = standing s := by
  unfold passDeadline
  dsimp only
  split <;> simp

@[simp] theorem standing_deadlineStart (p : Pass) (n : Nat) : standing (deadlineStart p n s).1 = standing s := by
  unfold deadlineStart
  dsimp only
  split
  · simp
  · split
    · split
      · simp
      · split <;> simp
    · simp

@[simp] theorem standing_deadlineStarts (p : Pass) (ns : List Nat) : standing (deadlineStarts p ns s).1 = standing s := by
  induction ns generalizing s with
  | nil => rfl
  | cons n ns ih => exact (ih _).trans (standing_deadlineStart s p n)

@[simp] theorem standing_raiseStageNotices (p : Pass) : standing (raiseStageNotices p s) = standing s := by
  simp [raiseStageNotices]

@[simp] theorem standing_stopConfirmed (p : Pass) : standing (stopConfirmed p s) = standing s := by
  refine standing_forEach (fun n t => ?_) s
  split <;> simp

@[simp] theorem standing_stepThreeWalk (p : Pass) (ex : List Nat) (n : Nat) : standing (stepThreeWalk p ex n s) = standing s := by
  unfold stepThreeWalk
  split
  · rfl
  · split
    · simp
    · split <;> simp

@[simp] theorem standing_proofStep (p : Pass) (x : Nat) : standing (proofStep p x s) = standing s := by
  unfold proofStep
  dsimp only
  split
  · simp
  · split
    · split <;> simp
    · simp

@[simp] theorem standing_noteCorrections (f : FrameNo) : standing (noteCorrections f s) = standing s := by
  unfold noteCorrections
  split <;> simp

@[simp] theorem standing_completionSteps (p : Pass) : standing (completionSteps p s) = standing s := by
  unfold completionSteps
  dsimp only
  rw [standing_noteCorrections, standing_raiseAll, standing_forEach fun x t => standing_proofStep t p x,
    standing_forEach fun n t => standing_stepThreeWalk t p _ n, standing_stopConfirmed, standing_deadlineStarts,
    standing_raiseStageNotices]

@[simp] theorem standing_completePass : standing (completePass s) = standing s := by
  unfold completePass leaveFrame
  split <;> simp

theorem standing_runStage (g next : Stage) {work : State → State} (h : standing (work s) = standing s) :
    standing (runStage g next work s) = standing s := by
  unfold runStage goTo
  split <;> simp [h]

@[simp] theorem standing_deadlineExpires (n : Nat) : standing (deadlineExpires n s) = standing s := by
  unfold deadlineExpires
  split
  · rfl
  · split
    · rfl
    · dsimp only
      split
      · simp
      · split <;> simp

@[simp] theorem standing_confirmExpires (x : Nat) : standing (confirmExpires x s) = standing s := by
  unfold confirmExpires
  split
  · rfl
  · split
    · rfl
    · dsimp only
      split
      · simp
      · split <;> simp

@[simp] theorem standing_pulseExpires (ch : Fin 4) : standing (pulseExpires ch s) = standing s := by
  unfold pulseExpires
  split
  · rfl
  · exact standing_modifyChannel (f := fun c => { c with pulse := none }) (arriveAt _ s) (fun _ => rfl) ch

/-! #### The requests on sensors, segments and interrupters -/

@[simp] theorem standing_readAddress (a : FieldAddress) : standing (readAddress a s) = standing s := by
  unfold readAddress
  split <;> simp

@[simp] theorem standing_takeDefineSensor (slot : Nat) (a : FieldAddress) (ph : PhaseSet) (l : Nat) :
    standing (takeDefineSensor slot a ph l s).1 = standing s := by
  unfold takeDefineSensor
  split
  · rfl
  · dsimp only
    split
    · simp
    · split <;> simp [placeSensor]

@[simp] theorem standing_takeRetireSensor (slot : Nat) : standing (takeRetireSensor slot s).1 = standing s := by
  unfold takeRetireSensor
  split
  · rfl
  · dsimp only
    split
    · simp
    · split <;> simp

@[simp] theorem standing_takeQuerySensor (slot : Nat) : standing (takeQuerySensor slot s).1 = standing s := by
  unfold takeQuerySensor
  dsimp only
  split <;> simp

@[simp] theorem standing_takeDefineSegment (n : Nat) (d : SegmentFields) : standing (takeDefineSegment n d s).1 = standing s := by
  unfold takeDefineSegment defineSegmentChecked
  split
  · rfl
  · split
    · rfl
    · dsimp only
      split
      · simp
      · split
        · simp
        · split <;> simp

@[simp] theorem standing_takeRemoveSegment (n : Nat) : standing (takeRemoveSegment n s).1 = standing s := by
  unfold takeRemoveSegment
  split
  · rfl
  · dsimp only
    split <;> simp

@[simp] theorem standing_takeQuerySegment (n : Nat) : standing (takeQuerySegment n s).1 = standing s := by
  unfold takeQuerySegment readForEstimate
  dsimp only
  split
  · rfl
  all_goals split <;> simp

@[simp] theorem standing_takeReleaseSegment (n : Nat) : standing (takeReleaseSegment n s).1 = standing s := by
  unfold takeReleaseSegment
  split
  · rfl
  · dsimp only
    split
    · simp
    · split
      · dsimp only
        rw [standing_forEach fun d t => by simp [unseedSensor]]
        simp
      · simp

@[simp] theorem standing_takeRestoreSegment (n : Nat) : standing (takeRestoreSegment n s).1 = standing s := by
  unfold takeRestoreSegment
  split
  · rfl
  · dsimp only
    split
    · simp
    · split <;> simp

@[simp] theorem standing_takeDefineInterrupter (x : Nat) (k : InterrupterKind) (slot c : Nat) :
    standing (takeDefineInterrupter x k slot c s).1 = standing s := by
  unfold takeDefineInterrupter
  split
  · rfl
  · split
    · rfl
    · dsimp only
      split
      · simp
      · split
        · simp
        · split <;> simp

@[simp] theorem standing_takeRemoveInterrupter (x : Nat) : standing (takeRemoveInterrupter x s).1 = standing s := by
  unfold takeRemoveInterrupter
  split
  · rfl
  · dsimp only
    split <;> simp

@[simp] theorem standing_takeQueryInterrupter (x : Nat) : standing (takeQueryInterrupter x s).1 = standing s := by
  unfold takeQueryInterrupter
  dsimp only
  split <;> simp

theorem standing_onInterrupter {f : IntRec → State → State × Answer} (hf : ∀ r t, standing (f r t).1 = standing t) (x : Nat) :
    standing (onInterrupter x f s).1 = standing s := by
  unfold onInterrupter
  split
  · rfl
  · dsimp only
    split <;> simp [hf]

@[simp] theorem standing_takeSetArm (x : Nat) (v : Bool) : standing (takeSetArm x v s).1 = standing s :=
  standing_onInterrupter s (fun _ _ => rfl) x

@[simp] theorem standing_takeAckTrip (x : Nat) : standing (takeAckTrip x s).1 = standing s := by
  refine standing_onInterrupter s (fun r t => ?_) x
  split <;> simp

@[simp] theorem standing_reportOpen (x : Nat) (r : IntRec) : standing (reportOpen x r s) = standing s := by
  unfold reportOpen
  split <;> simp

@[simp] theorem standing_reportClosed (x : Nat) (r : IntRec) : standing (reportClosed x r s) = standing s := by
  unfold reportClosed
  split <;> simp

@[simp] theorem standing_reportFailed (x : Nat) (r : IntRec) : standing (reportFailed x r s) = standing s := by
  unfold reportFailed
  split <;> simp

@[simp] theorem standing_takeInterrupterState (x p : Nat) : standing (takeInterrupterState x p s).1 = standing s := by
  refine standing_onInterrupter s (fun r t => ?_) x
  split
  · simp
  · split
    · split <;> simp
    · simp

/-! #### The requests on the part as a whole -/

@[simp] theorem standing_rewriteSensors (f : SensorRec → SensorRec) : standing (rewriteSensors f s) = standing s :=
  standing_forEach (fun d t => by simp) s

@[simp] theorem standing_rewriteSegments (f : State → SegRec → SegRec) : standing (rewriteSegments f s) = standing s :=
  standing_forEach (fun n t => by simp) s

@[simp] theorem standing_rewriteInterrupters (f : IntRec → IntRec) : standing (rewriteInterrupters f s) = standing s :=
  standing_forEach (fun x t => by simp) s

@[simp] theorem standing_adjustSensor (old new slot : Nat) : standing (adjustSensor old new slot s) = standing s := by
  unfold adjustSensor
  dsimp only
  split
  · simp
  · split <;> simp

@[simp] theorem standing_takeReport (es : List ReportEntry) : standing (takeReport es s).1 = standing s :=
  standing_judgeEntries s es

@[simp] theorem standing_takeGetCounts : standing (takeGetCounts s).1 = standing s := rfl

@[simp] theorem standing_takeClearCounts (token : BitVec 8) : standing (takeClearCounts token s).1 = standing s := by
  unfold takeClearCounts
  split
  · rfl
  · split
    · rfl
    · rfl

@[simp] theorem standing_takeFetchNotices (n : Nat) : standing (takeFetchNotices n s).1 = standing s := rfl

end
end Sys2Proof.Machine
end

section
namespace Sys2Proof.Machine

/-! ### Settings in their ranges (R27, R106, R141, R148) -/

/-- Every parameter in the range that SET_PARAMS takes for it, MAINT_TAIL at most 15 (R106). -/
structure ParamsLegal (x : Params) : Prop where
  ranges : ∀ p, (paramRange p).1 ≤ getParam x p ∧ getParam x p ≤ (paramRange p).2
  maintTail : x.maintTail ≤ 15

/-- `settingsLegal`, one field for each setting. -/
structure Legal (s : State) : Prop where
  params : ParamsLegal s.params
  tail : s.nq.tail ≤ 15
  period : 20 ≤ s.ft.period ∧ s.ft.period ≤ 250
  widths : ∀ ch, 1 ≤ (s.channels.get ch).width ∧ (s.channels.get ch).width ≤ 500

theorem within_iff {lo hi n : Nat} : within lo hi n = true ↔ lo ≤ n ∧ n ≤ hi := by simp [within]

theorem mem_allParams (p : Param) : p ∈ allParams := by
  cases p with
  | profile w q => cases w <;> cases q <;> simp [allParams, allProfileParams]
  | _ => simp [allParams]

theorem mem_allChannels (ch : Fin 4) : ch ∈ allChannels := by
  revert ch
  decide

theorem settingsLegal_iff {s : State} : settingsLegal s = true ↔ Legal s := by
  simp only [settingsLegal, Bool.and_eq_true, List.all_eq_true, decide_eq_true_eq, within_iff, mem_allParams, mem_allChannels,
    forall_const]
  exact ⟨fun ⟨⟨⟨⟨hp, hm⟩, ht⟩, hf⟩, hc⟩ => ⟨⟨hp, hm⟩, ht, hf, hc⟩, fun h => ⟨⟨⟨⟨h.1.1, h.1.2⟩, h.2⟩, h.3⟩, h.4⟩⟩

theorem legal_reset : Legal State.reset := settingsLegal_iff.mp (by decide)

section
variable {s t : State}

/-- Settings are legal by the parameters, the tail, the period and the channels' widths alone. -/
theorem Legal.congr (h : Legal s) (hp : t.params = s.params) (ht : t.nq.tail = s.nq.tail) (hf : t.ft.period = s.ft.period)
    (hc : t.channels = s.channels) : Legal t :=
  ⟨hp ▸ h.params, ht ▸ h.tail, hf ▸ h.period, hc ▸ h.widths⟩

theorem Legal.withFt {ft : Timebase} (hf : ft.period = s.ft.period) (h : Legal s) : Legal { s with ft } :=
  h.congr rfl rfl hf rfl

theorem Legal.withMc (mc : ModeControl) (h : Legal s) : Legal { s with mc } := h.congr rfl rfl rfl rfl

theorem Legal.withHl (hl : HostLink) (h : Legal s) : Legal { s with hl } := h.congr rfl rfl rfl rfl

theorem Legal.of_standing (h : Legal s) (he : standing t = standing s) : Legal t where
  params := by
    have hp : t.params = s.params := congrArg Standing.params he
    rw [hp]
    exact h.params
  tail := by
    have ht : t.nq.tail = s.nq.tail := congrArg Standing.tail he
    rw [ht]
    exact h.tail
  period := by
    have hf : t.ft.period = s.ft.period := congrArg (·.ft.period) he
    rw [hf]
    exact h.period
  widths ch := by
    have hw : (t.channels.get ch).width = (s.channels.get ch).width := by
      simpa [standing] using congrArg (fun z => (z.channels.get ch).width) he
    rw [hw]
    exact h.widths ch

/-- The tail starts at MAINT_TAIL, which is at most 15, and is cleared by a new urgency source (R148). -/
theorem Legal.settleUrgency (u : Bool) (h : Legal s) : Legal (settleUrgency u s) := by
  unfold Machine.settleUrgency
  split
  · exact { h with tail := h.params.maintTail }
  · split
    · exact { h with tail := Nat.zero_le _ }
    · exact h

/-! #### The timebase -/

theorem Legal.frameStart (h : Legal s) : Legal (frameStart s) := by
  have hnumber : Legal (stepFrameNumber s) := by
    unfold stepFrameNumber
    split <;> exact h.withFt rfl
  have htail : Legal (stepTail (stepFrameNumber s)) := by
    unfold stepTail
    split
    · exact hnumber
    · exact { hnumber with tail := (Nat.sub_le _ _).trans hnumber.tail }
  exact htail.of_standing (standing_ringFrameStart _)

theorem Legal.enterTimebase (new : TimebaseState) (c : TimebaseCause) (h : Legal s) : Legal (enterTimebase new c s) :=
  (h.withFt (ft := { s.ft with state := new }) rfl).of_standing (standing_raiseNow _ _)

theorem Legal.emptyHistory (h : Legal s) : Legal (emptyHistory s) := h.withFt rfl

theorem Legal.lockAt (time : Nat) (h : Legal s) : Legal (lockAt time s) := by
  unfold Machine.lockAt
  extract_lets s1 ft s2
  have h1 : Legal s1 := by
    unfold s1
    split
    · exact h
    · exact h.frameStart
  have h2 : Legal s2 := (h1.withFt (ft := { ft with expected := some (time + periodMicros s) }) rfl).emptyHistory
  exact h2.enterTimebase _ _

theorem Legal.acquireEdge (time : Nat) (h : Legal s) : Legal (acquireEdge time s) := by
  have hrun : Legal (startRun time s) := h.withFt rfl
  unfold Machine.acquireEdge
  split
  · exact hrun
  · split
    · exact hrun
    · split
      · exact hrun
      · split
        · exact h.lockAt time
        · exact h.withFt rfl

theorem Legal.lockedEdge (time : Nat) (h : Legal s) : Legal (lockedEdge time s) := by
  unfold Machine.lockedEdge
  split
  · split
    · exact h.frameStart.withFt rfl
    · exact h.of_standing rfl
  · exact h.of_standing rfl

theorem Legal.syncEdge (time : Nat) (h : Legal s) : Legal (syncEdge time s) := by
  unfold Machine.syncEdge
  split
  · split
    · exact h
    · exact h.acquireEdge time
    · exact h.acquireEdge time
    · exact h.lockedEdge time
  · exact h

theorem Legal.historyTimeout (h : Legal s) : Legal (historyTimeout s) := by
  unfold Machine.historyTimeout
  split
  · exact h.emptyHistory.of_standing (standing_arriveAt _ _)
  · exact h.emptyHistory.of_standing (standing_arriveAt _ _)
  · exact h

theorem Legal.arriveAt (due : Nat) (h : Legal s) : Legal (arriveAt due s) := h.of_standing rfl

theorem Legal.internalStart (h : Legal s) : Legal (internalStart s) := by
  unfold Machine.internalStart
  split
  · split
    · exact (h.arriveAt _).frameStart.withFt rfl
    · exact h
  · exact h

theorem Legal.windowClose (h : Legal s) : Legal (windowClose s) := by
  unfold Machine.windowClose
  split
  · split
    · extract_lets s1 ft s2
      have h1 : Legal s1 := (h.arriveAt _).frameStart
      have h2 : Legal s2 := 
        (h1.withFt (ft := { ft with expected := some (_ + periodMicros s), lastInternal := none }) rfl).emptyHistory
      have hcounted : Legal (latch .syncLostSeen (bump .syncMissed s2)) := h2.of_standing rfl
      exact hcounted.enterTimebase _ _
    · exact h
  · exact h

/-! #### The requests that change a setting -/

theorem Legal.restartTimebase {period : Nat} (hp : 20 ≤ period ∧ period ≤ 250) (enable : Bool) (h : Legal s) :
    Legal (restartTimebase period enable s) := by
  unfold Machine.restartTimebase
  extract_lets new ft t
  have ht : Legal t := { h with period := hp }
  split
  · exact ht
  · exact ht.enterTimebase _ _

theorem Legal.renumber (next : FrameNo) (h : Legal s) : Legal (renumber next s) :=
  (h.withFt (ft := { s.ft with override := some next }) rfl).of_standing (standing_rewriteSensors _ _)

theorem Legal.takeSetTimebase {period : Nat} (hp : 20 ≤ period ∧ period ≤ 250) (enable : Bool) (next : Option FrameNo)
    (h : Legal s) : Legal (takeSetTimebase period enable next s).1 := by
  unfold Machine.takeSetTimebase
  extract_lets t
  have ht : Legal t := by
    unfold t
    split
    · exact h
    · exact h.restartTimebase hp enable
  split
  · dsimp only
    exact ht.renumber _
  · exact ht

theorem getParam_setParam (p q : Param) (v : Nat) (x : Params) :
    getParam (setParam p v x) q = if q = p then writtenValue p v else getParam x q := by
  cases p with
  | profile w a => cases w <;> cases a <;> cases q with
    | profile w' b => cases w' <;> cases b <;> rfl
    | _ => rfl
  | _ => cases q <;> rfl

theorem maintTail_setParam_le (p : Param) (v : Nat) {x : Params} (h : x.maintTail ≤ 15) : (setParam p v x).maintTail ≤ 15 := by
  cases p with
  | profile w q => cases w <;> exact h
  | maintTail => exact Nat.min_le_right v 15
  | _ => exact h

/-- MAINT_TAIL has 0 as its lower end, so that stopping it at 15 keeps it in its range. -/
theorem writtenValue_within {p : Param} {v : Nat} (h : (paramRange p).1 ≤ v ∧ v ≤ (paramRange p).2) :
    (paramRange p).1 ≤ writtenValue p v ∧ writtenValue p v ≤ (paramRange p).2 := by
  cases p with
  | maintTail => exact ⟨Nat.zero_le _, (Nat.min_le_left _ _).trans h.2⟩
  | _ => exact h

theorem ParamsLegal.setParam {p : Param} {v : Nat} {x : Params} (h : ParamsLegal x)
    (hv : (paramRange p).1 ≤ v ∧ v ≤ (paramRange p).2) : ParamsLegal (setParam p v x) where
  ranges q := by
    rw [getParam_setParam]
    split
    · rename_i hq
      rw [hq]
      exact writtenValue_within hv
    · exact h.ranges q
  maintTail := maintTail_setParam_le p v h.maintTail

/-- A list of checks that all pass. -/
theorem firstBad_none {checks : List (Nat × Bool)} : firstBad checks = none ↔ ∀ c ∈ checks, c.2 = true := by
  induction checks with
  | nil => simp [firstBad]
  | cons c rest ih =>
    obtain ⟨offset, ok⟩ := c
    cases ok <;> simp [firstBad, ih]

theorem paramValueOk_of_checks {pairs : List ParamPair} {offset : Nat} {seen : List Byte}
    (h : ∀ c ∈ pairChecks offset seen pairs, c.2 = true) : ∀ q ∈ pairs, paramValueOk q.id q.value = true := by
  induction pairs generalizing offset seen with
  | nil => simp
  | cons p rest ih =>
    simp only [pairChecks, List.forall_mem_cons] at h
    obtain ⟨-, -, hp, hrest⟩ := h
    exact List.forall_mem_cons.mpr ⟨hp, ih hrest⟩

theorem ParamsLegal.withPairs {pairs : List ParamPair} (hok : ∀ q ∈ pairs, paramValueOk q.id q.value = true) {x : Params}
    (h : ParamsLegal x) : ParamsLegal (withPairs pairs x) := by
  refine List.foldlRecOn (motive := ParamsLegal) pairs _ h fun y hy q hq => ?_
  have hv := hok q hq
  unfold paramValueOk at hv
  split
  · rename_i p hp
    rw [hp] at hv
    exact hy.setParam (within_iff.mp hv)
  · exact hy

theorem Legal.takeSetParams {pairs : List ParamPair} (hf : fieldFault (.setParams pairs) = none) (h : Legal s) :
    Legal (takeSetParams pairs s).1 := by
  have hok := paramValueOk_of_checks fun c hc => firstBad_none.mp hf c (List.mem_cons_of_mem _ hc)
  have ht : Legal { s with params := withPairs pairs s.params } := { h with params := h.params.withPairs hok }
  unfold Machine.takeSetParams
  dsimp only
  split
  · exact ht
  · dsimp only
    exact ht.of_standing (standing_forEach (fun d t => by simp) _)

theorem width_of_checks {entries : List ChannelEntry} {offset : Nat} {seen : List Byte}
    (h : ∀ c ∈ channelChecks offset seen entries, c.2 = true) : ∀ e ∈ entries, 1 ≤ e.width.toNat ∧ e.width.toNat ≤ 500 := by
  induction entries generalizing offset seen with
  | nil => simp
  | cons e rest ih =>
    simp only [channelChecks, List.forall_mem_cons] at h
    obtain ⟨-, hwidth, -, -, hrest⟩ := h
    exact List.forall_mem_cons.mpr ⟨within_iff.mp hwidth, ih hrest⟩

theorem Legal.configure {e : ChannelSetting} (he : 1 ≤ e.width ∧ e.width ≤ 500) (h : Legal s) : Legal (configure e s) :=
  { h with
    widths := fun ch => by
      rw [Machine.configure, modifyChannel_get]
      split
      · exact he
      · exact h.widths ch }

theorem Legal.takeConfigTripOutputs {entries : List ChannelEntry} (hf : fieldFault (.configTripOutputs entries) = none)
    (h : Legal s) : Legal (takeConfigTripOutputs (entries.map settingOf) s).1 := by
  have hok := width_of_checks fun c hc => firstBad_none.mp hf c (List.mem_cons_of_mem _ hc)
  have hread : Legal (readInterrupters s) := h.of_standing (standing_readInterrupters s)
  unfold Machine.takeConfigTripOutputs
  split
  · exact h
  · generalize readInterrupters s = s1 at hread ⊢
    dsimp only
    split
    · exact hread
    · split
      · exact hread
      · refine List.foldlRecOn (motive := Legal) _ _ hread fun t ht e he => ?_
        obtain ⟨entry, hentry, rfl⟩ := List.mem_map.mp he
        exact ht.configure (hok entry hentry)

/-! #### Modes, INJECT, RESTART -/

theorem Legal.takeSetMode (toRun : Bool) (h : Legal s) : Legal (takeSetMode toRun s).1 := by
  have hrun : Legal (enterRun s) := by
    have h1 : Legal (if s.mc.runEntered then s else rewriteSensors unseed s) := by
      split
      · exact h
      · exact h.of_standing (standing_rewriteSensors s _)
    unfold Machine.enterRun
    extract_lets t
    have ht : Legal t := h1
    exact (ht.of_standing (t := { t with ring := [] }) rfl).withMc _
  have hhold : Legal (enterHold s) :=
    ((h.of_standing (t := { s with ring := [] }) rfl).withMc _).of_standing (standing_rewriteSegments _ _)
  unfold Machine.takeSetMode
  split
  · split
    · exact h
    · split
      · exact hrun
      · exact h
  · split
    · exact h
    · split
      · exact h
      · dsimp only
        exact hhold

theorem Legal.takeInject (target number position : Nat) (double : Bool) (h : Legal s) :
    Legal (takeInject target number double position s).1 := by
  unfold Machine.takeInject
  split
  · unfold injectSensor
    split <;> exact h.of_standing rfl
  · unfold injectSegment
    split <;> exact h.of_standing rfl
  · unfold injectInterrupter
    split <;> exact h.of_standing rfl
  · exact h.congr rfl rfl rfl rfl

theorem Legal.restartEffects (h : Legal s) : Legal (restartEffects s) := by
  have h1 : Legal (restartBlocks s) := { h with tail := Nat.zero_le _ }
  have h2 : Legal (rewriteInterrupters restartInterrupter (rewriteSegments restartSegment (rewriteSensors restartSensor
      (restartBlocks s)))) := h1.of_standing (((standing_rewriteInterrupters _ restartInterrupter).trans
    (standing_rewriteSegments _ restartSegment)).trans (standing_rewriteSensors _ restartSensor))
  unfold Machine.restartEffects
  generalize rewriteInterrupters _ _ = t at h2 ⊢
  exact { h2 with tail := Nat.zero_le _ }

/-! #### Requests taken -/

/-- A request acts within the ranges once its fields have passed their check (R170). -/
theorem Legal.act {r : Request} (hf : fieldFault r = none) (h : Legal s) : Legal (act r s).1 := by
  unfold Machine.act
  cases r with
  | identify | getStatus | restart | selfTest | unknownKind | malformed => exact h
  | setProfile | setInhibit => exact h.withMc _
  | setMode t => exact h.takeSetMode _
  | setTimebase period enable presence next =>
    dsimp only
    exact h.takeSetTimebase (within_iff.mp (firstBad_none.mp hf _ List.mem_cons_self)) _ _
  | setParams pairs =>
    dsimp only
    exact h.takeSetParams hf
  | configTripOutputs entries =>
    dsimp only
    exact h.takeConfigTripOutputs hf
  | inject target number size position => exact h.takeInject _ _ _ _
  | defineSensor | retireSensor | querySensor | defineSegment | removeSegment | querySegment | releaseSegment | restoreSegment
  | defineInterrupter | removeInterrupter | queryInterrupter | setArm | interrupterState | ackTrip | report | fetchNotices
  | getCounts | clearCounts => exact h.of_standing (by simp)

theorem Legal.perform (r : Request) (h : Legal s) : Legal (perform r s).1 := by
  unfold Machine.perform
  split
  · exact h
  · split
    · exact h
    · exact h.act ‹_›

theorem Legal.takeRequest (r : Request) (h : Legal s) : Legal (takeRequest r s) := by
  have hacted : Legal (Machine.perform r (spendBadCheck s)).1 := (h.withHl _).perform r
  unfold Machine.takeRequest
  extract_lets out t u
  have hu : Legal u := (hacted.settleUrgency _).withHl _
  split
  · exact hu.restartEffects
  · exact hu

theorem Legal.serveUpTo (n : Nat) (h : Legal s) : Legal (serveUpTo n s) := by
  induction n generalizing s with
  | zero => exact h
  | succ n ih =>
    unfold Machine.serveUpTo
    split
    · exact h
    · split
      · exact ih (h.takeRequest _)
      · exact h

end
end Sys2Proof.Machine
end

section
namespace Sys2Proof.Machine

section
variable {s : State}

/-! #### The line -/

theorem Legal.bump (c : CountName) (h : Legal s) : Legal (bump c s) := h.of_standing rfl

theorem Legal.setRx (x : RxState) (h : Legal s) : Legal (setRx x s) := h.withHl _

theorem Legal.dropOther (address : Byte) (h : Legal s) : Legal (dropOther address s) := by
  rcases dropOther_cases address s with he | ⟨_, _, _, he⟩ <;> rw [he]
  · exact h
  · exact h.bump _

theorem Legal.buffer (r : Request) (h : Legal s) : Legal (buffer r s) := by
  unfold Machine.buffer
  split
  · exact h.withHl _
  · extract_lets t
    have ht : Legal t := h.of_standing rfl
    exact ht.withHl _

theorem Legal.requestArrives (r : Request) (h : Legal s) : Legal (requestArrives r s) := by
  unfold Machine.requestArrives
  split
  · exact ((h.dropOther _).setRx _).buffer r
  · exact h

theorem Legal.markedCharacter (address : Byte) (h : Legal s) : Legal (markedCharacter address s) := by
  unfold Machine.markedCharacter
  split
  · extract_lets t
    have ht : Legal t := by
      unfold t
      split
      · exact h.bump _
      · exact h
    split <;> exact ht.setRx _
  · exact h

theorem Legal.messageArrives (address : Byte) (payload : List Byte) (check : Half) (h : Legal s) :
    Legal (messageArrives address payload check s) := by
  have hd := h.dropOther address
  unfold Machine.messageArrives
  split
  · exact h
  · split
    · exact h.markedCharacter address
    · dsimp only
      split
      · exact (hd.bump _).setRx _
      · split
        · exact (hd.setRx _).bump _
        · split
          · exact hd.setRx _
          · exact (hd.setRx _).buffer _

theorem Legal.breakArrives (h : Legal s) : Legal (breakArrives s) := by
  unfold Machine.breakArrives
  split
  · exact (h.bump _).setRx _
  · exact h

theorem Legal.framingArrives (c : FramingCause) (h : Legal s) : Legal (framingArrives c s) := by
  unfold Machine.framingArrives
  split
  · split
    · exact (h.bump _).setRx _
    · split
      · exact (h.bump _).setRx _
      · exact h
  · exact h

theorem Legal.gapArrives (h : Legal s) : Legal (gapArrives s) := by
  unfold Machine.gapArrives
  split
  · split
    · exact h
    · exact (h.bump _).setRx _
    · exact h.setRx _
  · exact h

theorem Legal.sendStarts (h : Legal s) : Legal (sendStarts s) := by
  unfold Machine.sendStarts
  split
  · exact h.withHl _
  · exact h

/-! #### Reset and self-test -/

/-- A hard reset takes the settings of the reset state, whatever they were. -/
theorem legal_hardReset (st baud : BitVec 2) (s : State) : Legal (hardReset st baud s) :=
  legal_reset.congr rfl rfl rfl rfl

theorem Legal.replyEnds (h : Legal s) : Legal (replyEnds s) := by
  have hsent : Legal (sendEnds s) := h.withHl _
  unfold Machine.replyEnds
  split
  · split
    · split
      · exact legal_reset.congr rfl rfl rfl rfl
      · exact hsent
    · exact hsent
  · exact h

theorem Legal.emptyTables (h : Legal s) : Legal (emptyTables s) where
  params := legal_reset.params
  tail := h.tail
  period := h.period
  widths ch := by simp [Machine.emptyTables, Channel.default]

theorem Legal.startSchedule (h : Legal s) : Legal (startSchedule s) :=
  h.withFt (ft := { s.ft with expected := _, lastInternal := none }) rfl

theorem Legal.endSelfTest (h : Legal s) : Legal (endSelfTest s) := by
  unfold Machine.endSelfTest
  split
  · exact h.withMc _
  · extract_lets outcome mc t
    have ht : Legal t := (h.withMc _).startSchedule
    exact ht.of_standing (standing_raiseNow _ _)

theorem Legal.endStepThree (bad : BitVec 4) (h : Legal s) : Legal (endStepThree bad s) where
  params := h.params
  tail := h.tail
  period := h.period
  widths ch := by simpa [Machine.endStepThree, passOn] using h.widths ch

theorem Legal.passOn (next : SelfTestPhase) (hard : Bool) (h : Legal s) : Legal (passOn next hard s) := h.withMc _

theorem Legal.fatal (k : TestStep) (h : Legal s) : Legal (fatal k s) := h.withMc _

theorem Legal.endStepSix (bad : BitVec 8) (ibad : Bool) (h : Legal s) : Legal (endStepSix bad ibad s) := by
  unfold Machine.endStepSix
  extract_lets tm t
  have ht : Legal t := h.of_standing rfl
  split
  · exact ht.fatal _
  · exact ht.passOn _ _

theorem Legal.stepEnds (f : StepFindings) (h : Legal s) : Legal (stepEnds f s) := by
  unfold Machine.stepEnds
  split
  · split
    · exact h.endStepSix _ _
    · split
      · exact h.passOn _ _
      · exact h.fatal _
    · have ht : Legal (Machine.setRx .waitAddress s) := h.setRx _
      dsimp only
      split
      · exact ht.passOn _ _
      · exact ht.fatal _
    · exact h.endStepThree _
    · split
      · exact h.passOn _ _
      · exact h.fatal _
    · exact h.emptyTables.endSelfTest
    · exact h
  · exact h

theorem Legal.loopbackBegins (good : Bool) (h : Legal s) : Legal (loopbackBegins good s) := by
  unfold Machine.loopbackBegins
  split
  · exact (h.withMc _).setRx _
  · exact h

theorem Legal.resetReleases (h : Legal s) : Legal (resetReleases s) := by
  unfold Machine.resetReleases
  split
  · exact h.withMc _
  · exact h

/-! #### Every command -/

theorem Legal.settled {f : State → State} (hf : standing (f s) = standing s) (h : Legal s) : Legal (settled f s) :=
  (h.of_standing hf).settleUrgency _

theorem Legal.passCompletes (k : Nat) (h : Legal s) : Legal (passCompletes k s) := by
  unfold Machine.passCompletes
  split
  · exact ((h.settled (standing_completePass s)).serveUpTo k).of_standing (standing_closeOldest _)
  · exact h

/-- An event that keeps the settings legal, and the held requests taken at its end (R168). -/
theorem Legal.event {f : State → State} {t : State} (hf : Legal (f s)) (hex : event f s = .next t) : Legal t := by
  cases hex
  exact hf.serveUpTo _

theorem Legal.exec {c : Instr} {t : State} (h : Legal s) (hex : exec c s = .next t) : Legal t := by
  have hrequest {r : Request} (hr : requestOf c = some r) : Legal t := by
    rw [exec_of_request hr] at hex
    exact (h.requestArrives r).event hex
  cases c with
  | hardReset st baud =>
    cases hex
    exact legal_hardReset st baud s
  | selfTestStepEnd f => exact (h.stepEnds f).event hex
  | linkLoopback good => exact (h.loopbackBegins good).event hex
  | messageReceived a p check => exact (h.messageArrives a p check).event hex
  | linkAborted a => exact (h.markedCharacter a).event hex
  | linkBreak => exact h.breakArrives.event hex
  | linkFraming cause => exact (h.framingArrives cause).event hex
  | gapTimeout => exact h.gapArrives.event hex
  | replySendStart => exact h.sendStarts.event hex
  | replySent => exact h.replyEnds.event hex
  | syncEdge time =>
    exact Legal.event (f := fun u => Machine.syncEdge (max u.now time) (Machine.arriveAt time u))
      ((h.arriveAt time).syncEdge _) hex
  | edgeHistoryTimeout => exact h.historyTimeout.event hex
  | internalFrameStart => exact h.internalStart.event hex
  | edgeWindowClose => exact h.windowClose.event hex
  | passStage1 => exact (h.settled (standing_runStage s _ _ (standing_stage1 s))).event hex
  | passStage2 => exact (h.settled (standing_runStage s _ _ (standing_stage2 s))).event hex
  | passStage3 => exact (h.settled (standing_runStage s _ _ (standing_stage3 s))).event hex
  | passStage4 => exact (h.settled (standing_runStage s _ _ (standing_stage4 s))).event hex
  | passCompletion k => exact (h.passCompletes k.val).event hex
  | deadlineExpiry n => exact (h.settled (standing_deadlineExpires s n.val)).event hex
  | confirmTimerExpiry x => exact (h.settled (standing_confirmExpires s x.val)).event hex
  | pulseTimerExpiry ch => exact (h.of_standing (standing_pulseExpires s ch)).event hex
  | inhibitInputChange a => exact (h.congr (t := inhibitChanges a s) rfl rfl rfl rfl).event hex
  | addressCharacter a => exact (h.markedCharacter a).event hex
  | resetNRelease => exact h.resetReleases.event hex
  | _ => exact hrequest rfl

end

/-- Settles O59: the operations on records leave the settings, and each request that writes one has had its fields checked. -/
theorem everyStepKeepsSettingsLegal : Obligations.EveryStepKeepsSettingsLegal := by
  intro s t hlegal hstep
  rw [settingsLegal_iff] at hlegal ⊢
  unfold step at hstep
  split at hstep
  · cases hstep
    exact hlegal.congr rfl rfl rfl rfl
  · rename_i c rest _
    have hrest : Legal { s with pending := rest } := hlegal.congr rfl rfl rfl rfl
    exact hrest.exec hstep

end Sys2Proof.Machine
end

section
namespace Sys2Proof.Machine

/-! ### A frame start (R27, R32, R45 to R49, R148) -/

section
variable {s t : State}

/-- The number of the next frame: the override when one is set, otherwise one more (R32). -/
def nextFrame (s : State) : FrameNo := s.ft.override.getD (s.ft.frame + 1)

/-- The tail count after a frame start (R148). -/
def nextTail (s : State) : Nat := if urgencySource s then s.nq.tail else s.nq.tail - 1

/-- A frame start before the ring takes it: the number has stepped, the override is spent, the tail has been counted (R32, R148). -/
def stepped (s : State) : State :=
  { s with
    ft := { s.ft with frame := nextFrame s, override := none }
    nq := { s.nq with tail := nextTail s } }

theorem stepFrameNumber_eq (s : State) :
    stepFrameNumber s = { s with ft := { s.ft with frame := nextFrame s, override := none } } := by
  unfold stepFrameNumber nextFrame
  cases h : s.ft.override with
  | some n => rfl
  | none =>
    have hft : s.ft = { s.ft with override := none } := by rw [← h]
    simp only [Option.getD_none]
    rw [← h]

theorem frameStart_eq (s : State) : frameStart s = ringFrameStart (stepped s) := by
  have hu : urgencySource (stepFrameNumber s) = urgencySource s := by
    rw [stepFrameNumber_eq]
    rfl
  have ht : stepTail (stepFrameNumber s) = stepped s := by
    unfold stepTail stepped nextTail
    rw [hu, stepFrameNumber_eq]
    split <;> rfl
  rw [frameStart, ht]

/-! #### What closes (R49, R68, R75) -/

theorem mem_shadowedNow {d : Nat} : d ∈ shadowedNow s ↔
    ∃ x r, x < 16 ∧ interrupterAt s x = some r ∧ r.boundary = d ∧ (r.state = .opened ∨ r.state = .tripping) := by
  simp only [shadowedNow, List.mem_filterMap, mem_allInterrupters]
  refine exists_congr fun x => ?_
  cases interrupterAt s x with
  | none => simp
  | some r =>
    simp only [Option.ite_none_right_eq_some, Option.some.injEq, Bool.or_eq_true, decide_eq_true_eq]
    exact ⟨fun ⟨hx, hst, hb⟩ => ⟨r, hx, rfl, hb, hst⟩, fun ⟨_, hx, hr, hb, hst⟩ => by cases hr; exact ⟨hx, hst, hb⟩⟩

theorem closeOldest_busy (h : s.pass.isSome = true) : closeOldest s = s := by
  obtain ⟨p, hp⟩ := Option.isSome_iff_exists.mp h
  simp [closeOldest, hp]

theorem closeOldest_open {f : Frame} {rest : List Frame} (hr : s.ring = f :: rest) (hc : f.cond ≠ .closable) :
    closeOldest s = s := by
  unfold closeOldest
  split
  · rename_i g rest' _ hring
    rw [hr] at hring
    cases hring
    rw [if_neg hc]
  · rfl

theorem closeOldest_closable {f : Frame} {rest : List Frame} (hp : s.pass = none) (hr : s.ring = f :: rest)
    (hc : f.cond = .closable) :
    closeOldest s = { s with ring := { f with cond := .evaluating } :: rest, pass := some (newPass s f.number) } := by
  simp [closeOldest, hp, hr, hc]

theorem closeOldest_eq (s : State) : closeOldest s = { s with ring := (closeOldest s).ring, pass := (closeOldest s).pass } := by
  unfold closeOldest
  split
  · split <;> rfl
  · rfl

/-! #### What a frame start in RUN leaves of the ring (`frameOpened`) -/

/-- The ring that frame c is opened in, every OPEN frame tested with c as the current frame (R45, R48). -/
def openedRing (s : State) (c : FrameNo) : List Frame :=
  (s.ring ++ [({ number := c, expected := reportingSlots s, reports := [], cond := .opened } : Frame)]).map
    (testFrame { s with ft := { s.ft with frame := c } })

/-- The state in which a frame start in RUN looks for a frame to close (R49). -/
def openedAndTested (s : State) : State := { s with ring := openedRing s s.ft.frame }

theorem ringFrameStart_free (hrun : s.mc.mode = .run) (hlen : s.ring.length < 8) :
    ringFrameStart s = closeOldest (openedAndTested s) := by
  rw [ringFrameStart, if_pos hrun, if_neg (by omega)]
  rfl

theorem ringFrameStart_hold (h : s.mc.mode = .hold) : ringFrameStart s = s := by simp [ringFrameStart, h]

/-- With a place free in the ring a frame start changes the ring and the pass alone. -/
theorem ringFrameStart_free_eq (hrun : s.mc.mode = .run) (hlen : s.ring.length < 8) :
    ringFrameStart s = { s with ring := (ringFrameStart s).ring, pass := (ringFrameStart s).pass } := by
  rw [ringFrameStart_free hrun hlen, closeOldest_eq]
  rfl

theorem frameOpened_ringFrameStart (hrun : s.mc.mode = .run) (hlen : s.ring.length < 8) :
    frameOpened s (ringFrameStart s) s.ft.frame := by
  rw [ringFrameStart_free hrun hlen]
  refine ⟨fun hp => ?_, fun f rest hp hr hc => ?_, fun f rest hp hr hc => ?_⟩
  · rw [closeOldest_busy (s := openedAndTested s) hp]
    exact ⟨rfl, rfl⟩
  · rw [closeOldest_open (s := openedAndTested s) hr hc]
    exact ⟨rfl, hp⟩
  · rw [closeOldest_closable (s := openedAndTested s) hp hr hc]
    exact ⟨rfl, _, rfl, fun d => mem_shadowedNow⟩

theorem latencyOf_congr (h : t.sensors = s.sensors) : latencyOf t = latencyOf s := by
  funext d
  unfold latencyOf
  rw [sensorAt_congr h]

/-- The closing test reads MIN_HOLD, the sensors and the current frame number alone (R47, R48). -/
theorem testFrame_congr (hparams : t.params = s.params) (hsensors : t.sensors = s.sensors) (hframe : t.ft.frame = s.ft.frame) :
    testFrame t = testFrame s := by
  funext f
  have hclose : mayClose t f = mayClose s f := by
    unfold mayClose holdOf maxLatency
    rw [latencyOf_congr hsensors, hparams, hframe]
  rw [testFrame, testFrame, hclose]

theorem frameOpened_iff {c : FrameNo} : frameOpened s t c ↔
    (s.pass.isSome = true → t.ring = openedRing s c ∧ t.pass = s.pass) ∧
    (∀ f rest, s.pass = none → openedRing s c = f :: rest → f.cond ≠ .closable → t.ring = openedRing s c ∧ t.pass = none) ∧
    ∀ f rest, s.pass = none → openedRing s c = f :: rest → f.cond = .closable →
      t.ring = { f with cond := .evaluating } :: rest ∧
      ∃ sh, t.pass = some ⟨f.number, .one, sh, [], [], [], [], []⟩ ∧
        ∀ d, d ∈ sh ↔ ∃ x r, x < 16 ∧ interrupterAt s x = some r ∧ r.boundary = d ∧ (r.state = .opened ∨ r.state = .tripping) :=
  Iff.rfl

/-- What a frame start leaves of the ring and the pass depends on the parameters, the sensors, the interrupters, the ring and the
pass, and says of the state after it its ring and pass alone. -/
theorem frameOpened_congr {s' t' : State} {c : FrameNo} (h : frameOpened s t c) (hparams : s'.params = s.params)
    (hsensors : s'.sensors = s.sensors) (hint : s'.interrupters = s.interrupters) (hring : s'.ring = s.ring)
    (hpass : s'.pass = s.pass) (htring : t'.ring = t.ring) (htpass : t'.pass = t.pass) : frameOpened s' t' c := by
  have hopened : openedRing s' c = openedRing s c := by
    have hslots : reportingSlots s' = reportingSlots s := by
      unfold reportingSlots
      simp only [sensorAt_congr hsensors]
    have htest : testFrame { s' with ft := { s'.ft with frame := c } } = testFrame { s with ft := { s.ft with frame := c } } :=
      testFrame_congr hparams hsensors rfl
    rw [openedRing, openedRing, hslots, htest, hring]
  rw [frameOpened_iff] at h ⊢
  simp only [hopened, hpass, htring, htpass, interrupterAt_congr hint]
  exact h

end
end Sys2Proof.Machine
end

section
namespace Sys2Proof.Machine

/-! ### A frame start at a moment, as the events of the timebase make it (log 4) -/

section
variable {s : State}

theorem noneHeld_iff {s : State} : noneHeld s = true ↔ s.hl.requests = [] := by simp [noneHeld]

theorem inService_iff {s : State} : inService s = true ↔ s.mc.mode = .hold ∨ s.mc.mode = .run := by simp [inService]

theorem timebaseRuns_eq (s : State) : timebaseRuns s = inService s := rfl

theorem frameStart_hl (s : State) : (frameStart s).hl = s.hl := by
  rw [frameStart_eq]
  exact congrArg Standing.hl (standing_ringFrameStart (stepped s))

/-- A frame start in HOLD, or in RUN with a place free in the ring. -/
theorem frameStart_free (now : Nat) (h : s.mc.mode = .hold ∨ s.mc.mode = .run ∧ s.ring.length < 8) :
    ∃ ring pass, frameStart { s with now } = { stepped s with now, ring, pass } ∧
      (s.mc.mode = .hold → ring = s.ring ∧ pass = s.pass) ∧
      (s.mc.mode = .run → ∀ u : State, u.ring = ring → u.pass = pass → frameOpened s u (nextFrame s)) := by
  rw [frameStart_eq]
  rcases h with hhold | ⟨hrun, hlen⟩
  · exact ⟨s.ring, s.pass, ringFrameStart_hold hhold, fun _ => ⟨rfl, rfl⟩, fun hrun => by rw [hhold] at hrun; cases hrun⟩
  · refine ⟨_, _, ringFrameStart_free_eq (s := stepped { s with now }) hrun hlen,
      fun hhold : s.mc.mode = .hold => ?_, fun _ u hring hpass => ?_⟩
    · rw [hhold] at hrun
      cases hrun
    · exact frameOpened_congr (frameOpened_ringFrameStart (s := stepped { s with now }) hrun hlen) rfl rfl rfl rfl rfl hring hpass

/-- The overflow discard with a free place in the notice queue (R46). -/
theorem discardOldest_free {f : Frame} {rest : List Frame} (hring : s.ring = f :: rest) (hq : s.nq.queue.length < 32) :
    discardOldest s = { s with
      ring := rest, pass := if f.cond = .evaluating then none else s.pass, cb := (bump .frameDropped s).cb
      nq := { s.nq with
        queue := s.nq.queue ++ [⟨s.nq.seq, f.number, .frameDropped f.reports.length (f.cond == .evaluating)⟩]
        seq := s.nq.seq + 1 } } := by
  unfold discardOldest
  rw [hring]
  simp only [beq_iff_eq]
  rw [raiseAt_free]
  · rfl
  · exact hq

/-- A frame start on a full ring goes on, the oldest frame discarded, as on a ring with a place free (R46). -/
theorem ringFrameStart_full (hrun : s.mc.mode = .run) (hfull : s.ring.length = 8)
    (hlen : (discardOldest s).ring.length < 8) : ringFrameStart s = ringFrameStart (discardOldest s) := by
  have hrun' : (discardOldest s).mc.mode = .run :=
    (congrArg (·.mc.mode) (standing_discardOldest s) : (discardOldest s).mc.mode = s.mc.mode).trans hrun
  rw [ringFrameStart_free hrun' hlen, ringFrameStart, if_pos hrun, if_pos hfull.ge]
  rfl

theorem frameStart_full (now : Nat) {f : Frame} {rest : List Frame} (hrun : s.mc.mode = .run) (hring : s.ring = f :: rest)
    (hlen : rest.length = 7) (hq : s.nq.queue.length < 32) :
    ∃ ring pass, frameStart { s with now } = { stepped s with
        now, ring, pass, cb := (bump .frameDropped s).cb
        nq := {
          queue := s.nq.queue ++ [⟨s.nq.seq, f.number, .frameDropped f.reports.length (f.cond == .evaluating)⟩]
          seq := s.nq.seq + 1, tail := nextTail s } } ∧
      ∀ u : State, u.ring = ring → u.pass = pass →
        frameOpened { s with ring := rest, pass := if f.cond = .evaluating then none else s.pass } u (nextFrame s) := by
  have hd := discardOldest_free (s := stepped { s with now }) hring hq
  have hfree : (discardOldest (stepped { s with now })).ring.length < 8 := by
    rw [hd]
    simp [hlen]
  have hrun' : (discardOldest (stepped { s with now })).mc.mode = .run := by
    rw [hd]
    exact hrun
  have hfull : (stepped { s with now }).ring.length = 8 := by simp [stepped, hring, hlen]
  have hopen := frameOpened_ringFrameStart hrun' hfree
  have heq := ringFrameStart_free_eq hrun' hfree
  rw [frameStart_eq, ringFrameStart_full (s := stepped { s with now }) hrun hfull hfree]
  generalize ringFrameStart (discardOldest (stepped { s with now })) = r at heq hopen ⊢
  rw [hd] at heq hopen
  exact ⟨r.ring, r.pass, heq, fun u hr hp => frameOpened_congr hopen rfl rfl rfl rfl rfl hr hp⟩

/-- A change of timebase state with a free place in the notice queue (R35). -/
theorem enterTimebase_free (new : TimebaseState) (c : TimebaseCause) (h : s.nq.queue.length < 32) :
    enterTimebase new c s = { s with
      ft := { s.ft with state := new }
      nq := { s.nq with queue := s.nq.queue ++ [⟨s.nq.seq, s.ft.frame, .timebase s.ft.state new c⟩], seq := s.nq.seq + 1 } } :=
  raiseAt_free _ _ _ h

/-! #### The events (R28 to R31) -/

variable {e p t : Nat} {u : State}

theorem exec_internalFrameStart (hheld : noneHeld s = true) (hs : inService s = true) (he : s.ft.expected = some e)
    (hl : s.ft.state ≠ .locked) (hu : frameStart { s with now := max s.now e } = u) :
    exec .internalFrameStart s =
      .next { u with ft := { u.ft with expected := some (e + s.ft.period * 1000), lastInternal := some e } } := by
  have hhl : u.hl = s.hl := hu ▸ frameStart_hl _
  have hu' : frameStart (arriveAt e s) = u := hu
  refine exec_event (fun _ => rfl) ?_ (by rw [hhl, noneHeld_iff.mp hheld])
  simp only [internalStart, he]
  rw [if_pos ⟨hs, hl⟩, hu']
  rfl

/-- An edge at or after the clock (log 4). -/
theorem exec_syncEdge (hheld : noneHeld s = true) (hnow : s.now ≤ t) (hu : syncEdge t { s with now := t } = u)
    (hhl : u.hl = s.hl) : exec (.syncEdge t) s = .next u := by
  refine exec_event (f := fun v => syncEdge (max v.now t) (arriveAt t v)) (fun _ => rfl) ?_ (by rw [hhl, noneHeld_iff.mp hheld])
  simpa only [arriveAt, max_eq_right hnow] using hu

theorem syncEdge_locked (hs : inService s = true) (hl : s.ft.state = .locked) (n : Nat) : syncEdge n s = lockedEdge n s := by
  rw [syncEdge, timebaseRuns_eq, if_pos hs, hl]

theorem syncEdge_acquires (hs : inService s = true) (h : s.ft.state = .unlocked ∨ s.ft.state = .freewheel) (n : Nat) :
    syncEdge n s = acquireEdge n s := by
  rw [syncEdge, timebaseRuns_eq, if_pos hs]
  rcases h with h | h <;> rw [h]

/-- A good edge in LOCKED (R30). -/
theorem exec_goodEdge (hheld : noneHeld s = true) (hnow : s.now ≤ t) (hs : inService s = true) (hl : s.ft.state = .locked)
    (he : s.ft.expected = some e) (hlow : e ≤ t + s.ft.period * 125) (hhigh : t ≤ e + s.ft.period * 125)
    (hu : frameStart { s with now := t } = u) :
    exec (.syncEdge t) s = .next { u with ft := { u.ft with expected := some (t + s.ft.period * 1000) } } := by
  subst hu
  refine exec_syncEdge hheld hnow ?_ (frameStart_hl { s with now := t })
  rw [syncEdge_locked (s := { s with now := t }) hs hl]
  simp only [lockedEdge, he]
  rw [if_pos ⟨hlow, hhigh⟩]
  rfl

theorem exec_edgeWindowClose (hheld : noneHeld s = true) (hs : inService s = true) (hl : s.ft.state = .locked)
    (he : s.ft.expected = some e) (hu : frameStart { s with now := max s.now (e + s.ft.period * 125) } = u)
    (hq : u.nq.queue.length < 32) :
    exec .edgeWindowClose s = .next { u with
      cb := (latch .syncLostSeen (bump .syncMissed u)).cb
      ft := { u.ft with
        state := .freewheel, expected := some (e + s.ft.period * 1000), lastInternal := none, prevEdge := none, run := 0 }
      nq := { u.nq with
        queue := u.nq.queue ++ [⟨u.nq.seq, u.ft.frame, .timebase u.ft.state .freewheel .syncLost⟩], seq := u.nq.seq + 1 } } := by
  have hhl : u.hl = s.hl := hu ▸ frameStart_hl _
  refine exec_event (fun _ => rfl) ?_ (by rw [hhl, noneHeld_iff.mp hheld])
  simp only [windowClose, he]
  rw [if_pos ⟨hs, hl⟩, enterTimebase_free]
  · have hu' : frameStart (arriveAt (e + tolerance s) s) = u := hu
    rw [hu']
    rfl
  · have hu' : frameStart (arriveAt (e + tolerance s) s) = u := hu
    rw [hu']
    exact hq

theorem internalStands_iff : internalStands t s = true ↔
    ∃ l, s.ft.lastInternal = some l ∧ l ≤ t ∧ t < l + s.ft.period * 125 := by
  unfold internalStands tolerance
  cases s.ft.lastInternal with
  | none => simp
  | some l =>
    simp only [Bool.and_eq_true, decide_eq_true_eq, Option.some.injEq, exists_eq_left']
    omega

/-- The fourth edge of a run locks; `u` is the state at the edge, or what the frame start at it leaves (R29). -/
theorem exec_lockingEdge (hheld : noneHeld s = true) (hnow : s.now ≤ t) (hs : inService s = true)
    (hstate : s.ft.state = .unlocked ∨ s.ft.state = .freewheel) (hp : s.ft.prevEdge = some p)
    (hlow : p + s.ft.period * 1000 ≤ t + s.ft.period * 125) (hhigh : t ≤ p + s.ft.period * 1000 + s.ft.period * 125)
    (hrun : 3 ≤ s.ft.run)
    (hu : (if internalStands t s then { s with now := t } else frameStart { s with now := t }) = u)
    (hq : u.nq.queue.length < 32) :
    exec (.syncEdge t) s = .next { u with
      ft := { u.ft with state := .locked, expected := some (t + s.ft.period * 1000), prevEdge := none, run := 0 }
      nq := { u.nq with
        queue := u.nq.queue ++ [⟨u.nq.seq, u.ft.frame, .timebase u.ft.state .locked .lockAcquired⟩], seq := u.nq.seq + 1 } } := by
  have hhl : u.hl = s.hl := by
    subst hu
    split
    · rfl
    · exact frameStart_hl _
  refine exec_syncEdge hheld hnow ?_ hhl
  have hu' : (if internalStands t { s with now := t } then { s with now := t } else frameStart { s with now := t }) = u := hu
  have hlow' : ¬ t + tolerance { s with now := t } < p + periodMicros { s with now := t } := by
    simp only [tolerance, periodMicros, microsPerMs]
    omega
  have hhigh' : ¬ p + periodMicros { s with now := t } + tolerance { s with now := t } < t := by
    simp only [tolerance, periodMicros, microsPerMs]
    omega
  rw [syncEdge_acquires (s := { s with now := t }) hs hstate]
  simp only [acquireEdge, hp, if_neg hlow', if_neg hhigh', if_pos hrun]
  rw [lockAt, hu', enterTimebase_free]
  · rfl
  · exact hq

end
end Sys2Proof.Machine
end

section
namespace Sys2Proof.Machine

/-! ### The timebase in HOLD and RUN: O14, O15, O16 -/

theorem timebaseRuns_out {s : State} (h : s.mc.mode = .start ∨ s.mc.mode = .failed) : timebaseRuns s = false := by
  rcases h with h | h <;> simp [timebaseRuns, h]

/-- An internal frame start that the schedule does not make is passed over (R28). -/
theorem internalStart_skipped {s : State}
    (h : s.ft.expected = none ∨ s.ft.state = .locked ∨ s.mc.mode = .start ∨ s.mc.mode = .failed) : internalStart s = s := by
  unfold internalStart
  rcases h with h | h | h
  · rw [h]
  · split
    · rw [if_neg (fun hr => hr.2 h)]
    · rfl
  · split
    · rw [if_neg (fun hr => by rw [timebaseRuns_out h] at hr; cases hr.1)]
    · rfl

/-- Settles O14: in HOLD a frame start is the step of number and tail alone; the guards of the event give the rest. -/
theorem internalFrameStartInHold : Obligations.InternalFrameStartInHold := by
  intro s hheld
  refine ⟨fun e hhold he hl => ?_, fun h => exec_event (fun _ => rfl) (internalStart_skipped h) (noneHeld_iff.mp hheld)⟩
  obtain ⟨ring, pass, hstart, hkept, -⟩ := frameStart_free (s := s) (max s.now e) (.inl hhold)
  obtain ⟨rfl, rfl⟩ := hkept hhold
  rw [exec_internalFrameStart hheld (inService_iff.mpr (.inl hhold)) he hl hstart]
  rfl

/-! #### The edge window (R30, R31) -/

theorem inService_of_free {s : State} (h : s.mc.mode = .hold ∨ s.mc.mode = .run ∧ s.ring.length < 8) : inService s = true :=
  inService_iff.mpr (h.imp_right And.left)

/-- An edge in LOCKED outside the window (R30; log 36). -/
theorem exec_missedEdge {s : State} {e t : Nat} (hheld : noneHeld s = true) (hnow : s.now ≤ t) (hs : inService s = true)
    (hl : s.ft.state = .locked) (he : s.ft.expected = some e) (hout : t + s.ft.period * 125 < e ∨ e + s.ft.period * 125 < t) :
    exec (.syncEdge t) s = .next (bump .syncMissed { s with now := t }) := by
  refine exec_syncEdge hheld hnow ?_ rfl
  rw [syncEdge_locked (s := { s with now := t }) hs hl]
  simp only [lockedEdge, he]
  refine if_neg ?_
  simp only [tolerance]
  omega

/-- An edge that the timebase does not read (R28; log 19). -/
theorem exec_unreadEdge {s : State} {t : Nat} (hheld : noneHeld s = true) (hnow : s.now ≤ t)
    (h : s.ft.state = .internal ∨ s.mc.mode = .start ∨ s.mc.mode = .failed) :
    exec (.syncEdge t) s = .next { s with now := t } := by
  refine exec_syncEdge hheld hnow ?_ rfl
  unfold syncEdge
  rcases h with h | h
  · simp [h]
  · rw [timebaseRuns_out (s := { s with now := t }) h]
    rfl

theorem exec_edgeHistoryTimeout {s : State} {p : Nat} (hheld : noneHeld s = true)
    (hstate : s.ft.state = .unlocked ∨ s.ft.state = .freewheel) (hp : s.ft.prevEdge = some p) :
    exec .edgeHistoryTimeout s = .next { s with
      now := max s.now (p + s.ft.period * 1125), ft := { s.ft with prevEdge := none, run := 0 } } := by
  refine exec_event (fun _ => rfl) ?_ (noneHeld_iff.mp hheld)
  have hwhen : p + periodMicros s + tolerance s = p + s.ft.period * 1125 := by
    simp only [periodMicros, tolerance, microsPerMs]
    omega
  have hempty : historyTimeout s = arriveAt (p + s.ft.period * 1125) (emptyHistory s) := by
    rcases hstate with h | h <;> simp only [historyTimeout, h, hp, hwhen]
  rw [hempty]
  rfl

theorem latch_raised (c d : CondName) (s : State) :
    (latch c s).cb.raised.get d = ((d == c && s.cb.snapshot.isSome) || s.cb.raised.get d) := by
  simp [latch]

/-- Settles O15: the guards of a good edge and of the window's close, with the frame start on a ring with a place free. -/
theorem lockedWindowAndItsLoss : Obligations.LockedWindowAndItsLoss := by
  refine ⟨fun e t s hheld hnow => ⟨fun hfree hl he hlow hhigh => ?good, fun hs hl he hout => ?missed, exec_unreadEdge hheld hnow⟩,
    fun e s hheld hfree hl he hq => ?close, fun p s hheld hstate hp => exec_edgeHistoryTimeout hheld hstate hp⟩
  case good =>
    obtain ⟨ring, pass, hstart, hhold, hrun⟩ := frameStart_free (s := s) t hfree
    exact ⟨_, exec_goodEdge hheld hnow (inService_of_free hfree) hl he hlow hhigh hstart, rfl, hhold, fun h => hrun h _ rfl rfl⟩
  case missed =>
    exact ⟨_, exec_missedEdge hheld hnow hs hl he hout, fun d => bump_get .syncMissed d s⟩
  case close =>
    obtain ⟨ring, pass, hstart, hhold, hrun⟩ := frameStart_free (s := s) (max s.now (e + s.ft.period * 125)) hfree
    have hex := exec_edgeWindowClose hheld (inService_of_free hfree) hl he hstart hq
    refine ⟨_, (latch .syncLostSeen (bump .syncMissed s)).cb, hex, ?_, hhold, fun h => hrun h _ rfl rfl,
      fun d => bump_get .syncMissed d s, fun d => latch_get .syncLostSeen d (bump .syncMissed s),
      fun d => latch_raised .syncLostSeen d (bump .syncMissed s), rfl, rfl⟩
    have hl' : (stepped s).ft.state = .locked := hl
    dsimp only
    rw [hl']
    rfl

/-! #### The run of edges and the lock (R29) -/

/-- An edge in UNLOCKED or FREEWHEEL that begins a run: the first, or one too early or too late after the one before (log 20). -/
theorem exec_beginningEdge {s : State} {t : Nat} (hheld : noneHeld s = true) (hnow : s.now ≤ t) (hs : inService s = true)
    (hstate : s.ft.state = .unlocked ∨ s.ft.state = .freewheel)
    (h : ∀ p, s.ft.prevEdge = some p →
      t + s.ft.period * 125 < p + s.ft.period * 1000 ∨ p + s.ft.period * 1000 + s.ft.period * 125 < t) :
    exec (.syncEdge t) s = .next { s with now := t, ft := { s.ft with prevEdge := some t, run := 1 } } := by
  refine exec_syncEdge hheld hnow ?_ rfl
  rw [syncEdge_acquires (s := { s with now := t }) hs hstate]
  cases hp : s.ft.prevEdge with
  | none => simp only [acquireEdge, hp, startRun]
  | some p =>
    simp only [acquireEdge, hp, tolerance, periodMicros, microsPerMs]
    rcases h p hp with h | h
    · rw [if_pos h]
      rfl
    · rw [if_neg (by omega), if_pos h]
      rfl

/-- An edge within T of one FRAME_PERIOD after the one before, the second or third of its run. -/
theorem exec_countedEdge {s : State} {p t : Nat} (hheld : noneHeld s = true) (hnow : s.now ≤ t) (hs : inService s = true)
    (hstate : s.ft.state = .unlocked ∨ s.ft.state = .freewheel) (hp : s.ft.prevEdge = some p)
    (hlow : p + s.ft.period * 1000 ≤ t + s.ft.period * 125) (hhigh : t ≤ p + s.ft.period * 1000 + s.ft.period * 125)
    (hrun : s.ft.run < 3) :
    exec (.syncEdge t) s = .next { s with now := t, ft := { s.ft with prevEdge := some t, run := s.ft.run + 1 } } := by
  refine exec_syncEdge hheld hnow ?_ rfl
  rw [syncEdge_acquires (s := { s with now := t }) hs hstate]
  simp only [acquireEdge, hp, tolerance, periodMicros, microsPerMs]
  rw [if_neg (by omega), if_neg (by omega), if_neg (by omega)]

/-- Settles O16: an edge by its distance from the one before it; the fourth by whether an internal start stands for it. -/
theorem edgesAcquireLock : Obligations.EdgesAcquireLock := by
  intro t s hheld hnow hstate
  refine ⟨fun hs hp => exec_beginningEdge hheld hnow hs hstate (by simp [hp]), fun p hp => ⟨fun hs hout => ?_, fun hlow hhigh =>
    ⟨fun hs hrun => exec_countedEdge hheld hnow hs hstate hp hlow hhigh hrun, ?_⟩⟩⟩
  · exact exec_beginningEdge hheld hnow hs hstate (by simpa [hp] using hout)
  intro stands hplace hrun hq
  have hs : inService s = true := inService_iff.mpr (hplace.imp_right And.left)
  have hstands : stands ↔ internalStands t s = true := by
    rw [internalStands_iff]
    cases hlast : s.ft.lastInternal <;> simp [stands, hlast]
  by_cases h : stands
  · have hlock := exec_lockingEdge hheld hnow hs hstate hp hlow hhigh hrun (if_pos (hstands.mp h)) hq
    exact ⟨s.ft.frame, fun _ => rfl, absurd h, s.ft.override, s.nq.tail, fun _ => ⟨rfl, rfl⟩, absurd h,
      _, hlock, rfl, fun _ => ⟨rfl, rfl⟩, absurd h⟩
  · obtain ⟨ring, pass, hstart, hhold, hopened⟩ := frameStart_free (s := s) t
      (hplace.imp_right fun ⟨hm, hr⟩ => ⟨hm, hr.resolve_left h⟩)
    have hlock := exec_lockingEdge hheld hnow hs hstate hp hlow hhigh hrun
      ((if_neg (fun hi => h (hstands.mpr hi))).trans hstart) hq
    exact ⟨nextFrame s, (absurd · h), fun _ => rfl, none, nextTail s, (absurd · h), fun _ => ⟨rfl, rfl⟩,
      _, hlock, rfl, fun hk => hhold (hk.resolve_left h), fun _ hm => hopened hm _ rfl rfl⟩

end Sys2Proof.Machine
end

section
namespace Sys2Proof.Machine

/-! ### A frame start on a full ring: O18 -/

/-- What FRAME_DROPPED leaves of the counts and what the loss of lock adds, as the four events of a frame start do. -/
theorem counts_dropped (s : State) (d : CountName) : (bump .frameDropped s).cb.counts.get d =
    if d = .frameDropped ∨ (false = true ∧ d = .syncMissed) then min (s.cb.counts.get d + 1) 65535 else s.cb.counts.get d := by
  simp [bump_get]

theorem counts_droppedAndMissed (s : State) (d : CountName) : (bump .syncMissed (bump .frameDropped s)).cb.counts.get d =
    if d = .frameDropped ∨ (true = true ∧ d = .syncMissed) then min (s.cb.counts.get d + 1) 65535 else s.cb.counts.get d := by
  rw [bump_get, bump_get]
  by_cases h : d = .frameDropped
  · simp [h]
  · simp [h]

/-- Settles O18: each of the four events makes its frame start on a ring from which the oldest frame has gone. -/
theorem fullRingDropsOldest : Obligations.FullRingDropsOldest := by
  intro i now ft more lost f rest s hheld hrun hring hlen hq c T ft₀ hevent
  have hs : inService s = true := inService_iff.mpr (.inr hrun)
  have hfree : s.nq.queue.length < 32 := by omega
  obtain ⟨ring, pass, hstart, hopened⟩ := frameStart_full now hrun hring hlen hfree
  have hroom (d : Notice) (hmore : more.length = 1) : (s.nq.queue ++ [d]).length < 32 := by
    simp only [List.length_append, List.length_singleton]
    omega
  have hnone : s.nq.seq + 1 + BitVec.ofNat 16 ([] : List NoticeBody).length = s.nq.seq + 1 := BitVec.add_zero _
  rcases hevent with (⟨e, rfl, hl, he, rfl, rfl, rfl, rfl⟩ | ⟨e, t, rfl, hl, he, hnow, hlow, hhigh, rfl, rfl, rfl, rfl⟩ |
    ⟨e, rfl, hl, he, rfl, rfl, rfl, rfl⟩ | ⟨p, t, rfl, hstate, hp, hthree, hnow, hlow, hhigh, hlast, rfl, rfl, rfl, rfl⟩)
  case inl =>
    refine ⟨_, exec_internalFrameStart hheld hs he hl hstart, hopened _ rfl rfl, ?_, counts_dropped s, fun _ => rfl,
      fun _ => rfl⟩
    rw [hnone]
    rfl
  case inr.inl =>
    refine ⟨_, exec_goodEdge hheld hnow hs hl he hlow hhigh hstart, hopened _ rfl rfl, ?_, counts_dropped s, fun _ => rfl,
      fun _ => rfl⟩
    rw [hnone]
    rfl
  case inr.inr.inl =>
    refine ⟨_, exec_edgeWindowClose hheld hs hl he hstart (hroom _ rfl), hopened _ rfl rfl, ?_, counts_droppedAndMissed s,
      fun d => latch_get .syncLostSeen d (bump .syncMissed (bump .frameDropped s)),
      fun d => latch_raised .syncLostSeen d (bump .syncMissed (bump .frameDropped s))⟩
    have hl' : (stepped s).ft.state = .locked := hl
    dsimp only
    rw [hl', List.append_assoc]
    rfl
  case inr.inr.inr =>
    have hstands : ¬ internalStands now s = true := by
      rw [internalStands_iff]
      rintro ⟨l, hl, hle, hlt⟩
      have := hlast l hl
      omega
    refine ⟨_, exec_lockingEdge hheld hnow hs hstate hp hlow hhigh hthree ((if_neg hstands).trans hstart) (hroom _ rfl),
      hopened _ rfl rfl, ?_, counts_dropped s, fun _ => rfl, fun _ => rfl⟩
    dsimp only
    rw [List.append_assoc]
    rfl

end Sys2Proof.Machine
end

section
namespace Sys2Proof.Machine

/-- Settles O60: the tables of the reset state are empty, and each bound is evaluated on it. -/
theorem resetMeetsInvariants : Obligations.ResetMeetsInvariants := by
  refine ⟨rfl, rfl, rfl, rfl, rfl, rfl, ?_, ?_, rfl⟩
  · intro m n q r _ _ hq
    cases hq
  · refine ⟨fun n r _ hr => ?_, fun x q _ hq => ?_, fun x y p q n _ _ hp => ?_⟩
    · cases hr
    · cases hq
    · cases hp

end Sys2Proof.Machine
end

section
namespace Sys2Proof.Machine

/-! ### SET_TIMEBASE: O13 -/

section
variable {s t : State} {period next : Half} {enable : Bool} {presence : Byte}

/-- The state in which the timebase starts anew (R28, R29). -/
def startingState (enable : Bool) : TimebaseState := if enable then .unlocked else .internal

/-- What a restart of the timebase leaves, the notice of a change of state in the queue's free place (R33, R35). -/
def restarted (p : Nat) (enable : Bool) (s : State) : State :=
  { s with
    ft := { s.ft with
      period := p, syncEnable := enable, state := startingState enable, prevEdge := none, run := 0, lastInternal := none
      expected := some (s.now + p * 1000) }
    nq := if s.ft.state = startingState enable then s.nq else { s.nq with
      queue := s.nq.queue ++ [⟨s.nq.seq, s.ft.frame, .timebase s.ft.state (startingState enable) .hostSet⟩]
      seq := s.nq.seq + 1 } }

theorem restartTimebase_eq {p : Nat} (h : s.ft.state = startingState enable ∨ s.nq.queue.length < 32) :
    restartTimebase p enable s = restarted p enable s := by
  unfold restartTimebase restarted
  by_cases hsame : s.ft.state = startingState enable
  · rw [if_pos hsame, ← startingState, if_pos hsame, ← hsame]
    rfl
  · rw [if_neg hsame, ← startingState, if_neg hsame]
    exact enterTimebase_free _ _ (h.resolve_left hsame)

/-- SET_TIMEBASE before it renumbers: the timebase kept or restarted (R33). -/
def retimed (p : Nat) (enable : Bool) (s : State) : State :=
  if p = s.ft.period ∧ enable = s.ft.syncEnable then s else restartTimebase p enable s

theorem retimed_kept {p : Nat} (hp : p = s.ft.period) (he : enable = s.ft.syncEnable) : retimed p enable s = s :=
  if_pos ⟨hp, he⟩

theorem retimed_changed {p : Nat} (hne : p ≠ s.ft.period ∨ enable ≠ s.ft.syncEnable)
    (h : s.ft.state = startingState enable ∨ s.nq.queue.length < 32) : retimed p enable s = restarted p enable s := by
  rw [retimed, if_neg (fun hk => hne.elim (absurd hk.1) (absurd hk.2)), restartTimebase_eq h]

theorem act_setTimebase_plain (p : Half) (enable : Bool) (s : State) :
    act (.setTimebase p (if enable then 1 else 0) 0 0) s = (retimed p.toNat enable s, okWith []) := by
  cases enable <;> rfl

theorem act_setTimebase_next (p next : Half) (enable : Bool) (s : State) :
    act (.setTimebase p (if enable then 1 else 0) 1 next) s = (renumber next (retimed p.toNat enable s), okWith []) := by
  cases enable <;> rfl

/-- The fields of SET_TIMEBASE are good (R33). -/
theorem fieldFault_setTimebase (hlo : 20 ≤ period.toNat) (hhi : period.toNat ≤ 250) (hpres : presence = 0 ∨ presence = 1) :
    fieldFault (.setTimebase period (if enable then 1 else 0) presence next) = none := by
  refine (firstBad_within ⟨hlo, hhi⟩ _).trans ?_
  rcases hpres with rfl | rfl <;> cases enable <;> rfl

/-- SET_TIMEBASE taken at once in HOLD, where it leaves the urgency source alone. -/
theorem exec_setTimebase (hready : ready s = true) (hhold : s.mc.mode = .hold) (hlo : 20 ≤ period.toNat)
    (hhi : period.toNat ≤ 250) (hpres : presence = 0 ∨ presence = 1)
    {r : Request} (hr : r = .setTimebase period (if enable then 1 else 0) presence next)
    (hact : act r (acting r s) = ({ t with hl := (acting r s).hl }, okWith []))
    (hh : t.hl = s.hl) (hu : urgencySource t = urgencySource s) :
    exec (.setTimebase period (if enable then 1 else 0) presence next) s = .next (answered 6 (okWith []) t) := by
  subst hr
  rw [exec_of_request rfl]
  refine event_answered hready rfl ?_ (fieldFault_setTimebase hlo hhi hpres) hact (by simp [okWith, answer]) hh hu
  rw [hhold]
  rfl

theorem retimed_acting_kept (hp : period.toNat = s.ft.period) (he : enable = s.ft.syncEnable) (r : Request) :
    retimed period.toNat enable (acting r s) = { s with hl := (acting r s).hl } :=
  retimed_kept (s := acting r s) hp he

theorem retimed_acting_changed (hne : period.toNat ≠ s.ft.period ∨ enable ≠ s.ft.syncEnable)
    (h : s.ft.state = startingState enable ∨ s.nq.queue.length < 32) (r : Request) :
    retimed period.toNat enable (acting r s) = { restarted period.toNat enable s with hl := (acting r s).hl } :=
  retimed_changed (s := acting r s) hne h

/-! #### Renumbering -/

/-- A sensor record whose last surge frames are absent (R33). -/
def withoutSurge (r : SensorRec) : SensorRec := { r with surge := ⟨none, none, none⟩ }

/-- Renumbering with no inverted bit in the Sensor Directory. -/
theorem renumber_clean (x : HostLink) (hc : ∀ d r, sensorAt s d = some r → r.err = 0) (next : FrameNo) :
    ∃ tab, renumber next { s with hl := x } =
        { s with hl := x, sensors := tab, ft := { s.ft with override := some next } } ∧
      (∀ d r, d < 48 → sensorAt s d = some r → rowAt tab d = some (.live (withoutSurge r))) ∧
      ∀ d, 48 ≤ d ∨ sensorAt s d = none → rowAt tab d = rowAt s.sensors d := by
  obtain ⟨tab, htab, hrow⟩ := forEach_modifySensor (f := withoutSurge) nodup_allSlots
    (s := { s with hl := x, ft := { s.ft with override := some next } }) fun d _ r hr => hc d r hr
  refine ⟨tab, htab, fun d r hd hr => ?_, fun d hd => ?_⟩
  · rw [hrow, if_pos (mem_allSlots.mpr hd)]
    simp [sensorAt_row.mp hr, rewrittenSensor, withoutSurge, hc d r hr]
  · rw [hrow]
    split
    · rename_i hmem
      exact rewrittenSensor_notLive (s := s) _ (hd.resolve_left (by simpa using hmem))
    · rfl

/-- SET_TIMEBASE with a next frame number, taken at once in HOLD; `t` is the state with the timebase kept or restarted. -/
theorem exec_setTimebase_next (hready : ready s = true) (hhold : s.mc.mode = .hold) (hclean : clean s = true)
    (hlo : 20 ≤ period.toNat) (hhi : period.toNat ≤ 250)
    (hretimed : ∀ r, retimed period.toNat enable (acting r s) = { t with hl := (acting r s).hl })
    (hh : t.hl = s.hl) (hsensors : t.sensors = s.sensors) (hu : urgencySource t = urgencySource s) :
    ∃ tab, exec (.setTimebase period (if enable then 1 else 0) 1 next) s =
        .next (answered 6 (okWith []) { t with sensors := tab, ft := { t.ft with override := some next } }) ∧
      (∀ d r, d < 48 → sensorAt s d = some r → rowAt tab d = some (.live (withoutSurge r))) ∧
      ∀ d, 48 ≤ d ∨ sensorAt s d = none → rowAt tab d = rowAt s.sensors d := by
  have hsame (d : Nat) : sensorAt t d = sensorAt s d := sensorAt_congr hsensors d
  obtain ⟨tab, hnumbered, hlive, hrest⟩ := renumber_clean (s := t)
    (acting (.setTimebase period (if enable then 1 else 0) 1 next) s).hl
    (fun d r hr => clean_sensor hclean ((hsame d).symm.trans hr)) next
  refine ⟨tab, ?_, fun d r hd hr => hlive d r hd ((hsame d).trans hr), fun d hd => ?_⟩
  · refine exec_setTimebase hready hhold hlo hhi (.inr rfl) rfl ?_ hh hu
    rw [act_setTimebase_next, hretimed, hnumbered]
  · rw [hrest d (hd.imp_right (hsame d).trans), hsensors]

end

/-- Settles O13: the timebase kept or restarted on the acting state, then the Sensor Directory rewritten for a next number. -/
theorem setTimebaseRestartsAndRenumbers : Obligations.SetTimebaseRestartsAndRenumbers := by
  refine ⟨fun period enable s hready hhold hlo hhi => ⟨fun hp he => ?kept, fun hne hstate => ?same, fun hne hstate hq => ?moved⟩,
    fun period next enable s hready hhold hclean hlo hhi => ⟨fun hp he => ?keptNext, fun hne h => ?changedNext⟩, fun t => ?number⟩
  case kept =>
    refine exec_setTimebase hready hhold hlo hhi (.inl rfl) rfl ?_ rfl rfl
    rw [act_setTimebase_plain, retimed_acting_kept hp he]
  case same =>
    refine exec_setTimebase hready hhold hlo hhi (.inl rfl) rfl ?_ rfl rfl
    rw [act_setTimebase_plain, retimed_acting_changed hne (.inl hstate), restarted, if_pos (c := _ = startingState enable) hstate]
    rfl
  case moved =>
    refine exec_setTimebase hready hhold hlo hhi (.inl rfl) rfl ?_ rfl rfl
    rw [act_setTimebase_plain, retimed_acting_changed hne (.inr hq), restarted, if_neg (c := _ = startingState enable) hstate]
    rfl
  case keptNext =>
    exact exec_setTimebase_next hready hhold hclean hlo hhi (retimed_acting_kept hp he) rfl rfl rfl
  case changedNext =>
    exact exec_setTimebase_next hready hhold hclean hlo hhi (retimed_acting_changed hne h) rfl rfl rfl
  case number =>
    rw [stepFrameNumber_eq, nextFrame]
    cases t.ft.override <;> rfl

end Sys2Proof.Machine
end

section
namespace Sys2Proof.Machine

/-! ### Properties kept outside the Segment Table and the Interrupter Table -/

/-- What the bounds and laws of records read of a state. -/
def observed (s : State) : Table SensorPlace × Table Nat × Table SegPlace × Table IntPlace × List Frame × List Notice × Counts × PartMode :=
  (s.sensors, s.index, s.segments, s.interrupters, s.ring, s.nq.queue, s.cb.counts, s.mc.mode)

/-- A property that reads `observed` alone and stands under the updates that operations make outside the two tables and the mode. -/
structure KeptOutside (P : State → Prop) : Prop where
  congr : ∀ {s t : State}, P s → observed t = observed s → P t
  setSensor : ∀ {s : State} (n : Nat) (p : SensorPlace), P s → P { s with sensors := setRow s.sensors n p }
  dropSensor : ∀ {s : State} (n : Nat), P s → P { s with sensors := dropRow s.sensors n }
  setIndex : ∀ {s : State} (a n : Nat), P s → P { s with index := setRow s.index a n }
  filterIndex : ∀ {s : State} (f : Nat × Nat → Bool), P s → P { s with index := s.index.filter f }
  ring : ∀ {s : State} {ring : List Frame}, ring.length ≤ max s.ring.length 8 → P s → P { s with ring }
  queue : ∀ {s : State} {queue : List Notice}, queue.length ≤ s.nq.queue.length → P s → P { s with nq := { s.nq with queue } }
  enqueue : ∀ {s : State} (n : Notice), P s → P (enqueue n s)
  counts : ∀ {s : State} {counts : Counts}, (∀ c, counts.get c ≤ max (s.cb.counts.get c) 65535) → P s →
    P { s with cb := { s.cb with counts } }

namespace KeptOutside

section
variable {P : State → Prop} {s : State} (hP : KeptOutside P)
include hP

/-! #### Records of sensors, notices, counts, the pass -/

theorem bump (c : CountName) (h : P s) : P (bump c s) := by
  refine hP.counts (fun d => ?_) h
  rw [get_countsOf]
  split
  · exact (Nat.min_le_right _ _).trans (Nat.le_max_right _ _)
  · exact Nat.le_max_left _ _

theorem latch (c : CondName) (h : P s) : P (latch c s) := hP.congr h rfl

theorem raiseAt (f : FrameNo) (b : NoticeBody) (h : P s) : P (raiseAt f b s) := hP.enqueue _ (hP.congr h rfl)

theorem raiseNow (b : NoticeBody) (h : P s) : P (raiseNow b s) := hP.raiseAt _ _ h

theorem raiseAll (f : FrameNo) (bs : List NoticeBody) (h : P s) : P (raiseAll f bs s) :=
  raiseAll_keeps (fun b _ ht => hP.raiseAt f b ht) bs h

theorem noteCorrection (k : Nat) (h : P s) : P (noteCorrection k s) := hP.congr (hP.bump .eccCorrected h) rfl

theorem settleUrgency (u : Bool) (h : P s) : P (settleUrgency u s) := by
  unfold Machine.settleUrgency
  split
  · exact hP.congr h rfl
  · split
    · exact hP.congr h rfl
    · exact h

theorem modifyPass (f : Pass → Pass) (h : P s) : P (modifyPass f s) := hP.congr h rfl

theorem runStage {work : State → State} (hw : P (work s)) (g next : Stage) (h : P s) : P (runStage g next work s) := by
  unfold Machine.runStage
  split
  · exact hP.modifyPass _ hw
  · exact h

theorem writeSensor (n : Nat) (r : SensorRec) (h : P s) : P (writeSensor n r s) := hP.setSensor n _ h

theorem modifySensor (n : Nat) (f : SensorRec → SensorRec) (h : P s) : P (modifySensor n f s) := by
  unfold Machine.modifySensor
  split
  · exact hP.writeSensor n _ h
  · exact h

theorem leaveRing (slot : Nat) (h : P s) : P (leaveRing slot s) := hP.ring (by simp) h

theorem leaveIndex (slot : Nat) (h : P s) : P (leaveIndex slot s) := hP.filterIndex _ h

theorem lostSensor (slot : Nat) (h : P s) : P (lostSensor slot s) :=
  hP.leaveRing slot (hP.leaveIndex slot (hP.setSensor slot .quarantined h))

theorem freeSlot (slot : Nat) (h : P s) : P (freeSlot slot s) :=
  hP.leaveRing slot (hP.leaveIndex slot (hP.dropSensor slot h))

theorem placeSensor (slot : Nat) (r : SensorRec) (h : P s) : P (placeSensor slot r s) :=
  hP.setIndex (s := Machine.writeSensor slot r s) _ _ (hP.writeSensor slot r h)

theorem noteVerdict (n : Nat) (a : Option Nat) (h : P s) : P (noteVerdict n a s) := by
  unfold Machine.noteVerdict
  split
  · split
    · exact hP.raiseNow _ h
    · exact h
  · exact h

theorem noteIsolationFailed (n : Nat) (h : P s) : P (noteIsolationFailed n s) := by
  unfold Machine.noteIsolationFailed
  split
  · split
    · exact hP.raiseNow _ h
    · exact h
  · exact h

theorem noteCorrections (f : FrameNo) (h : P s) : P (noteCorrections f s) := by
  unfold Machine.noteCorrections
  split
  · exact h
  · exact hP.raiseAt _ _ (hP.congr h rfl)

/-! #### The ring -/

theorem closeOldest (h : P s) : P (closeOldest s) := by
  unfold Machine.closeOldest
  split
  · rename_i f rest _ hring
    split
    · exact hP.congr (hP.ring (ring := { f with cond := .evaluating } :: rest) (by simp [hring]) h) rfl
    · exact h
  · exact h

theorem leaveFrame (h : P s) : P (leaveFrame s) := by
  unfold Machine.leaveFrame
  refine hP.congr (hP.ring (ring := _) ?_ h) rfl
  split
  · rename_i f rest hring
    split <;> simp [hring]
  · simp


end
end KeptOutside
end Sys2Proof.Machine
end

section
namespace Sys2Proof.Machine

/-- A notice finds its place whatever the ring and the pass hold. -/
theorem enqueue_withRing (n : Notice) (ring : List Frame) (pass : Option Pass) (s : State) :
    enqueue n { s with ring, pass } = { enqueue n s with ring, pass } := by
  unfold enqueue
  dsimp only
  split
  · rfl
  · cases makeRoom (noticeClass n.body) s.nq.queue <;> rfl

theorem raiseAt_withRing (f : FrameNo) (b : NoticeBody) (ring : List Frame) (pass : Option Pass) (s : State) :
    raiseAt f b { s with ring, pass } = { raiseAt f b s with ring, pass } :=
  enqueue_withRing _ ring pass { s with nq := { s.nq with seq := s.nq.seq + 1 } }

/-- What FETCH_NOTICES keeps is part of the queue. -/
theorem length_splitFetch_le (held : Bool) (n : Nat) (q : List Notice) : (splitFetch held n q).2.length ≤ q.length := by
  induction n, q using splitFetch.induct held with
  | case1 q => simp [splitFetch]
  | case2 n => simp [splitFetch]
  | case3 n x rest hx ih =>
    simp only [splitFetch, hx, if_true, List.length_cons]
    omega
  | case4 n x rest hx ih =>
    simp only [splitFetch, hx, List.length_cons]
    simpa using ih

namespace KeptOutside

section
variable {P : State → Prop} {s : State} (hP : KeptOutside P)
include hP

/-! #### Frame starts (R45, R46) -/

/-- A frame start replaces the ring by one that is no longer, or holds eight at most. -/
theorem ringFrameStart (h : P s) : P (ringFrameStart s) := by
  by_cases hrun : s.mc.mode = .run
  swap
  · simpa [Machine.ringFrameStart, hrun] using h
  by_cases hfull : 8 ≤ s.ring.length
  · obtain ⟨f, rest, hring⟩ : ∃ f rest, s.ring = f :: rest := List.exists_cons_of_length_pos (by omega)
    have hstart : Machine.ringFrameStart s = Machine.closeOldest (openedAndTested (discardOldest s)) := by
      rw [Machine.ringFrameStart, if_pos hrun, if_pos hfull]
      rfl
    have hdiscard (ring : List Frame) (hlen : ring.length = s.ring.length) : P { discardOldest s with ring } := by
      have hkept := hP.raiseAt f.number (.frameDropped f.reports.length (f.cond == .evaluating))
        (hP.bump .frameDropped (hP.ring (s := s) (ring := ring) (by omega) h))
      refine hP.congr hkept ?_
      have hw := raiseAt_withRing f.number (.frameDropped f.reports.length (f.cond == .evaluating)) ring s.pass
        (Machine.bump .frameDropped { s with ring := rest, pass := if f.cond == .evaluating then none else s.pass })
      rw [show Machine.bump .frameDropped { s with ring } = { Machine.bump .frameDropped
        { s with ring := rest, pass := if f.cond == .evaluating then none else s.pass } with ring, pass := s.pass } from rfl, hw,
        discardOldest, hring]
      rfl
    rw [hstart]
    refine hP.closeOldest (hdiscard _ ?_)
    simp [openedRing, discardOldest, hring]
  · rw [ringFrameStart_free hrun (by omega)]
    refine hP.closeOldest (hP.ring ?_ h)
    simp [openedRing]
    omega

theorem frameStart (h : P s) : P (frameStart s) := by
  rw [frameStart_eq]
  exact hP.ringFrameStart (hP.congr h rfl)

/-! #### The timebase -/

theorem arriveAt (due : Nat) (h : P s) : P (arriveAt due s) := hP.congr h rfl

theorem enterTimebase (new : TimebaseState) (c : TimebaseCause) (h : P s) : P (enterTimebase new c s) :=
  hP.raiseNow _ (hP.congr h rfl)

theorem lockAt (time : Nat) (h : P s) : P (lockAt time s) := by
  have h1 : P (if internalStands time s then s else Machine.frameStart s) := by
    split
    · exact h
    · exact hP.frameStart h
  exact hP.enterTimebase _ _ (hP.congr h1 rfl)

theorem acquireEdge (time : Nat) (h : P s) : P (acquireEdge time s) := by
  have hrun : P (startRun time s) := hP.congr h rfl
  unfold Machine.acquireEdge
  split
  · exact hrun
  · split
    · exact hrun
    · split
      · exact hrun
      · split
        · exact hP.lockAt time h
        · exact hP.congr h rfl

theorem lockedEdge (time : Nat) (h : P s) : P (lockedEdge time s) := by
  unfold Machine.lockedEdge
  split
  · split
    · exact hP.congr (hP.frameStart h) rfl
    · exact hP.bump _ h
  · exact hP.bump _ h

theorem syncEdge (time : Nat) (h : P s) : P (syncEdge time s) := by
  unfold Machine.syncEdge
  split
  · split
    · exact h
    · exact hP.acquireEdge time h
    · exact hP.acquireEdge time h
    · exact hP.lockedEdge time h
  · exact h

theorem historyTimeout (h : P s) : P (historyTimeout s) := by
  unfold Machine.historyTimeout
  split
  · exact hP.congr h rfl
  · exact hP.congr h rfl
  · exact h

theorem internalStart (h : P s) : P (internalStart s) := by
  unfold Machine.internalStart
  split
  · split
    · exact hP.congr (hP.frameStart (hP.arriveAt _ h)) rfl
    · exact h
  · exact h

theorem windowClose (h : P s) : P (windowClose s) := by
  unfold Machine.windowClose
  split
  · split
    · refine hP.enterTimebase _ _ (hP.latch _ (hP.bump _ ?_))
      exact hP.congr (hP.frameStart (hP.arriveAt _ h)) rfl
    · exact h
  · exact h

theorem restartTimebase (period : Nat) (enable : Bool) (h : P s) : P (restartTimebase period enable s) := by
  unfold Machine.restartTimebase
  extract_lets new ft t
  have ht : P t := hP.congr h rfl
  split
  · exact ht
  · exact hP.enterTimebase _ _ ht

theorem pulseExpires (ch : Fin 4) (h : P s) : P (pulseExpires ch s) := by
  unfold Machine.pulseExpires
  split
  · exact h
  · exact hP.congr h rfl

/-! #### Reports stored -/

theorem storeReport (f : FrameNo) (slot : Nat) (r : StoredReport) (h : P s) : P (storeReport f slot r s) := by
  have hput (put : Frame → Frame) : P { s with ring := s.ring.map put } := hP.ring (by simp) h
  unfold Machine.storeReport
  extract_lets put t
  have ht : P t := hput _
  clear_value t
  split
  · split
    · exact hP.closeOldest ht
    · exact ht
  · exact ht

theorem judgeKnown (e : ReportEntry) (f : Frame) (slot : Nat) (r : SensorRec) (h : P s) : P (judgeKnown e f slot r s).1 := by
  unfold Machine.judgeKnown
  split
  · exact hP.bump _ h
  · split
    · exact h
    · split
      · exact hP.bump _ h
      · have h1 : P (if r.seen then s else Machine.writeSensor slot { r with seen := true } s) := by
          split
          · exact h
          · exact hP.writeSensor _ _ h
        refine hP.storeReport _ _ _ ?_
        split
        · exact hP.bump _ h1
        · exact h1

/-! #### The line -/

theorem setRx (x : RxState) (h : P s) : P (setRx x s) := hP.congr h rfl

theorem dropOther (a : Byte) (h : P s) : P (dropOther a s) := by
  rcases dropOther_cases a s with he | ⟨_, _, _, he⟩ <;> rw [he]
  · exact h
  · exact hP.bump _ h

theorem buffer (r : Request) (h : P s) : P (buffer r s) := by
  unfold Machine.buffer
  split
  · exact hP.congr h rfl
  · exact hP.congr (hP.latch .rxOverrunSeen (hP.bump .linkOverrun h)) rfl

theorem requestArrives (r : Request) (h : P s) : P (requestArrives r s) := by
  unfold Machine.requestArrives
  split
  · exact hP.buffer _ (hP.setRx _ (hP.dropOther _ h))
  · exact h

theorem markedCharacter (a : Byte) (h : P s) : P (markedCharacter a s) := by
  unfold Machine.markedCharacter
  split
  · extract_lets u
    have hu : P u := by
      unfold u
      split
      · exact hP.bump _ h
      · exact h
    split <;> exact hP.setRx _ hu
  · exact h

theorem messageArrives (a : Byte) (payload : List Byte) (check : Half) (h : P s) : P (messageArrives a payload check s) := by
  have hd := hP.dropOther a h
  unfold Machine.messageArrives
  split
  · exact h
  · split
    · exact hP.markedCharacter a h
    · dsimp only
      split
      · exact hP.setRx _ (hP.bump _ hd)
      · split
        · exact hP.bump _ (hP.setRx _ hd)
        · split
          · exact hP.setRx _ hd
          · exact hP.buffer _ (hP.setRx _ hd)

theorem breakArrives (h : P s) : P (breakArrives s) := by
  unfold Machine.breakArrives
  split
  · exact hP.setRx _ (hP.bump _ h)
  · exact h

theorem framingArrives (c : FramingCause) (h : P s) : P (framingArrives c s) := by
  unfold Machine.framingArrives
  split
  · split
    · exact hP.setRx _ (hP.bump _ h)
    · split
      · exact hP.setRx _ (hP.bump _ h)
      · exact h
  · exact h

theorem gapArrives (h : P s) : P (gapArrives s) := by
  unfold Machine.gapArrives
  split
  · split
    · exact h
    · exact hP.setRx _ (hP.bump _ h)
    · exact hP.setRx _ h
  · exact h

theorem sendStarts (h : P s) : P (sendStarts s) := by
  unfold Machine.sendStarts
  split
  · exact hP.congr h rfl
  · exact h

theorem sendEnds (h : P s) : P (sendEnds s) := hP.congr h rfl

theorem handOver (reply : Reply) (h : P s) : P (handOver reply s) := hP.congr h rfl

theorem spendBadCheck (h : P s) : P (spendBadCheck s) := hP.congr h rfl

/-! #### Self-test before its last step (R161) -/

theorem loopbackBegins (good : Bool) (h : P s) : P (loopbackBegins good s) := by
  unfold Machine.loopbackBegins
  split
  · exact hP.congr h rfl
  · exact h

theorem resetReleases (h : P s) : P (resetReleases s) := by
  unfold Machine.resetReleases
  split
  · exact hP.congr h rfl
  · exact h

/-- A step of self-test, if what the last one leaves keeps the property too. -/
theorem stepEnds (f : StepFindings) (h : P s) (hend : P (endSelfTest (emptyTables s))) : P (stepEnds f s) := by
  unfold Machine.stepEnds
  split
  · split
    · unfold endStepSix
      dsimp only
      split <;> exact hP.congr h rfl
    · split <;> exact hP.congr h rfl
    · dsimp only
      split <;> exact hP.congr h rfl
    · exact hP.congr h rfl
    · split <;> exact hP.congr h rfl
    · exact hend
    · exact h
  · exact h

/-! #### Notices fetched, counts read and cleared -/

theorem takeFetchNotices (n : Nat) (h : P s) : P (takeFetchNotices n s).1 :=
  hP.queue (length_splitFetch_le _ _ _) h

theorem takeGetCounts (h : P s) : P (takeGetCounts s).1 := hP.congr h rfl

theorem takeClearCounts (token : BitVec 8) (h : P s) : P (takeClearCounts token s).1 := by
  unfold Machine.takeClearCounts
  split
  · exact h
  · split
    · rename_i p _ _
      have hcounts := hP.counts (s := s) (counts := (clearedBank s.cb p).counts) (fun c => by simp [clearedBank]) h
      exact hP.congr hcounts rfl
    · exact h

end
end KeptOutside
end Sys2Proof.Machine
end

section
namespace Sys2Proof.Machine

/-! ### Properties kept by the reads of the two tables (R162) -/

/-- A property that also stands under the reads of segment and interrupter records and under a segment's excluding a sensor. -/
structure KeptByReads (P : State → Prop) : Prop extends KeptOutside P where
  readSegment : ∀ {s : State} (n : Nat), P s → P (readSegment n s)
  readInterrupter : ∀ {s : State} (x : Nat), P s → P (readInterrupter x s)
  excludeFrom : ∀ {s : State} (slot n : Nat), P s → P (excludeFrom slot n s).1

namespace KeptByReads

section
variable {P : State → Prop} {s : State} (hP : KeptByReads P)
include hP

theorem readSegments (h : P s) : P (readSegments s) := forEach_kept (fun n _ => hP.readSegment n) h

theorem readInterrupters (h : P s) : P (readInterrupters s) := forEach_kept (fun n _ => hP.readInterrupter n) h

theorem excludeEverywhere (slot : Nat) (ns : List Nat) (h : P s) : P (excludeEverywhere slot ns s).1 := by
  induction ns generalizing s with
  | nil => exact h
  | cons n ns ih => exact ih (hP.excludeFrom slot n (hP.readSegment n h))

theorem quarantineSensor (slot : Nat) (h : P s) : P (quarantineSensor slot s) := by
  rw [quarantineSensor_eq]
  exact hP.raiseAll _ _ (hP.excludeEverywhere slot _ (hP.raiseNow _ (hP.lostSensor slot h)))

theorem readSensor (slot : Nat) (h : P s) : P (readSensor slot s) := by
  rcases readSensor_cases slot s with he | ⟨r, he⟩ | ⟨r, he⟩ | he <;> rw [he]
  · exact h
  · exact hP.writeSensor _ _ h
  · exact hP.noteCorrection _ (hP.writeSensor _ _ h)
  · exact hP.quarantineSensor slot (hP.latch _ h)

theorem readSensors (slots : List Nat) (h : P s) : P (readSensors slots s) := forEach_kept (fun n _ => hP.readSensor n) h

theorem rewriteSensors (f : SensorRec → SensorRec) (h : P s) : P (rewriteSensors f s) :=
  forEach_kept (fun d _ ht => hP.modifySensor d f (hP.readSensor d ht)) h

/-! #### Stages 1 and 4 of the pass (R63 to R65, R78) -/

theorem goStale (slot : Nat) (r : SensorRec) (h : P s) : P (goStale slot r s) := by
  have h1 := hP.excludeEverywhere slot allSegments (hP.writeSensor slot (unseed { r with status := .stale }) h)
  unfold Machine.goStale
  dsimp only
  generalize Machine.excludeEverywhere slot allSegments _ = out at h1 ⊢
  exact hP.modifyPass _ h1

theorem resume (slot : Nat) (r : SensorRec) (h : P s) : P (resume slot r s) :=
  hP.modifyPass _ (hP.readSegments (hP.writeSensor slot _ h))

theorem statusStep (slot : Nat) (r : SensorRec) (v : Bool) (h : P s) : P (statusStep slot r v s) := by
  unfold Machine.statusStep
  split <;> split
  · exact hP.goStale slot r h
  · exact hP.writeSensor slot r h
  · exact hP.resume slot r h
  · exact hP.writeSensor slot r h

theorem writeReport (slot : Nat) (v : ReportValues) (f : FrameNo) (h : P s) : P (writeReport slot v f s) := by
  unfold Machine.writeReport
  exact hP.modifySensor slot _ (hP.readSegments h)

theorem stage1Sensor (f : Frame) (slot : Nat) (h : P s) : P (stage1Sensor f slot s) := by
  have h1 := hP.readSensor slot h
  unfold Machine.stage1Sensor
  extract_lets s1 report
  split
  · exact h1
  · extract_lets s2
    have h2 : P s2 := hP.statusStep slot _ _ h1
    clear_value s2 report
    split
    · exact hP.writeReport slot _ _ h2
    · exact h2

theorem stage1 (h : P s) : P (stage1 s) := by
  unfold Machine.stage1
  split
  · exact forEach_kept (fun d _ => hP.stage1Sensor _ d) h
  · exact h

theorem stage4Sensor (slot : Nat) (h : P s) : P (stage4Sensor slot s) := by
  have h1 := hP.readSegments (hP.readSensor slot h)
  unfold Machine.stage4Sensor
  extract_lets s1
  split
  · split
    · extract_lets r' s2
      have h2 : P s2 := hP.writeSensor slot r' h1
      split
      · exact hP.modifyPass _ h2
      · exact h2
    · exact h1
  · exact h1

theorem stage4 (h : P s) : P (stage4 s) := by
  unfold Machine.stage4
  split
  · exact forEach_kept (fun d _ hs => hP.stage4Sensor d hs) h
  · exact h

/-! #### Requests that write neither table -/

theorem takeSetTimebase (p : Nat) (e : Bool) (next : Option FrameNo) (h : P s) : P (takeSetTimebase p e next s).1 := by
  unfold Machine.takeSetTimebase
  extract_lets t
  have ht : P t := by
    unfold t
    split
    · exact h
    · exact hP.restartTimebase p e h
  clear_value t
  split
  · dsimp only
    exact hP.rewriteSensors _ (hP.congr ht rfl)
  · exact ht

theorem adjustSensor (old new slot : Nat) (h : P s) : P (adjustSensor old new slot s) := by
  have h1 := hP.readSensor slot h
  unfold Machine.adjustSensor
  extract_lets t
  split
  · exact h1
  · extract_lets u
    have hu : P u := hP.writeSensor slot _ h1
    split
    · exact hP.raiseNow _ hu
    · exact hu

theorem takeSetParams (ps : List ParamPair) (h : P s) : P (takeSetParams ps s).1 := by
  unfold Machine.takeSetParams
  extract_lets new t
  have ht : P t := hP.congr h rfl
  split
  · exact ht
  · dsimp only
    exact forEach_kept (fun d _ => hP.adjustSensor _ _ d) ht

theorem judgeEntry (e : ReportEntry) (h : P s) : P (judgeEntry e s).1 := by
  unfold Machine.judgeEntry
  split
  · exact hP.bump _ h
  · split
    · exact hP.bump _ h
    · split
      · exact hP.bump _ h
      · rename_i slot _
        have h1 := hP.readSensor slot h
        dsimp only
        split
        · exact hP.judgeKnown e _ _ _ h1
        · exact hP.bump _ h1

theorem judgeEntries (es : List ReportEntry) (h : P s) : P (judgeEntries es s).1 := by
  induction es generalizing s with
  | nil => exact h
  | cons e es ih => exact ih (hP.judgeEntry e h)

theorem takeDefineSensor (slot : Nat) (a : FieldAddress) (ph : PhaseSet) (l : Nat) (h : P s) :
    P (takeDefineSensor slot a ph l s).1 := by
  have h1 := hP.readSensor slot h
  have h2 : P (readAddress a (Machine.readSensor slot s)) := by
    unfold readAddress
    split
    · exact hP.readSensor _ h1
    · exact h1
  unfold Machine.takeDefineSensor
  split
  · exact h
  · extract_lets s1 s2
    split
    · exact h1
    · split
      · exact h2
      · exact hP.placeSensor _ _ h2

theorem takeRetireSensor (slot : Nat) (h : P s) : P (takeRetireSensor slot s).1 := by
  have h1 := hP.readInterrupters (hP.readSegments (hP.readSensor slot h))
  unfold Machine.takeRetireSensor
  split
  · exact h
  · generalize Machine.readInterrupters _ = s1 at h1 ⊢
    dsimp only
    split
    · exact h1
    · split
      · exact h1
      · exact hP.freeSlot slot h1

theorem takeQuerySensor (slot : Nat) (h : P s) : P (takeQuerySensor slot s).1 := by
  have h1 := hP.readSegments (hP.readSensor slot h)
  unfold Machine.takeQuerySensor
  generalize Machine.readSegments _ = s1 at h1 ⊢
  dsimp only
  split
  · exact h
  · exact h1
  · exact h1

theorem takeQuerySegment (n : Nat) (h : P s) : P (takeQuerySegment n s).1 := by
  have h1 := hP.readSegments h
  have h2 : P (readForEstimate n (Machine.readSegments s)) := by
    unfold readForEstimate
    split
    · exact hP.readSensors _ h1
    · exact h1
  unfold Machine.takeQuerySegment
  generalize readForEstimate n _ = s2 at h2 ⊢
  dsimp only
  split
  · exact h
  · exact h2
  · exact h2

theorem takeQueryInterrupter (x : Nat) (h : P s) : P (takeQueryInterrupter x s).1 := by
  have h1 := hP.readInterrupter x h
  unfold Machine.takeQueryInterrupter
  extract_lets s1
  split
  · exact h
  · exact h1
  · exact h1

theorem takeConfigTripOutputs (es : List ChannelSetting) (h : P s) : P (takeConfigTripOutputs es s).1 := by
  have h1 := hP.readInterrupters h
  unfold Machine.takeConfigTripOutputs
  split
  · exact h
  · generalize Machine.readInterrupters s = s1 at h1 ⊢
    dsimp only
    split
    · exact h1
    · split
      · exact h1
      · exact List.foldlRecOn (motive := P) es _ h1 fun t ht e _ => hP.congr ht rfl

end
end KeptByReads
end Sys2Proof.Machine
end

section
namespace Sys2Proof.Machine

/-! ### Properties kept by every write of the tables: the bounds (R44, R150, R152) -/

/-- What a read of a segment record does, whatever error it holds (R162; log 10). -/
theorem readSegment_any (n : Nat) (s : State) :
    readSegment n s = s ∨ (∃ r, readSegment n s = writeSegment n r s) ∨
    (∃ r, readSegment n s = noteCorrection (segmentBank n) (writeSegment n r s)) ∨
    readSegment n s = quarantineSegment n (latch .eccDoubleSeen s) := by
  unfold readSegment
  split
  · exact .inl rfl
  · rename_i r _
    cases hres : readResult r.err with
    | clean =>
      by_cases hz : r.err = 0
      · exact .inl (by simp [hz])
      · exact .inr (.inl ⟨_, by simp only [hz, if_false]; rfl⟩)
    | single => exact .inr (.inr (.inl ⟨_, rfl⟩))
    | double => exact .inr (.inr (.inr rfl))

/-- A table whose values change keeps its numbers rising. -/
theorem tableWf_map {α β : Type} {f : Nat × α → Nat × β} (hf : ∀ p, (f p).1 = p.1) {tab : Table α}
    (h : tableWf tab = true) : tableWf (tab.map f) = true := by
  rw [tableWf_pairwise] at h ⊢
  rw [List.pairwise_map]
  simpa only [hf] using h

/-- A property that stands under every write of the tables that keeps their numbers rising, and in every mode. -/
structure KeptByWrites (P : State → Prop) : Prop extends KeptOutside P where
  sensors : ∀ {s : State} {sensors : Table SensorPlace}, (tableWf s.sensors = true → tableWf sensors = true) → P s →
    P { s with sensors }
  segments : ∀ {s : State} {segments : Table SegPlace}, (tableWf s.segments = true → tableWf segments = true) → P s →
    P { s with segments }
  interrupters : ∀ {s : State} {interrupters : Table IntPlace},
    (tableWf s.interrupters = true → tableWf interrupters = true) → P s → P { s with interrupters }
  withMc : ∀ {s : State} (mc : ModeControl), P s → P { s with mc }

namespace KeptByWrites

section
variable {P : State → Prop} {s : State} (hP : KeptByWrites P)
include hP

theorem writeSegment (n : Nat) (r : SegRec) (h : P s) : P (writeSegment n r s) := hP.segments (tableWf_setRow _ n _) h

theorem writeInterrupter (x : Nat) (r : IntRec) (h : P s) : P (writeInterrupter x r s) :=
  hP.interrupters (tableWf_setRow _ x _) h

theorem modifySegment (n : Nat) (f : SegRec → SegRec) (h : P s) : P (modifySegment n f s) := by
  unfold Machine.modifySegment
  split
  · exact hP.writeSegment n _ h
  · exact h

theorem modifyInterrupter (x : Nat) (f : IntRec → IntRec) (h : P s) : P (modifyInterrupter x f s) := by
  unfold Machine.modifyInterrupter
  split
  · exact hP.writeInterrupter x _ h
  · exact h

theorem leaveWaiters (n : Nat) (h : P s) : P (leaveWaiters n s) := by
  refine hP.interrupters (tableWf_map ?_) h
  rintro ⟨k, _ | _⟩ <;> rfl

theorem quarantineSegment (n : Nat) (h : P s) : P (quarantineSegment n s) := by
  refine hP.raiseNow _ (hP.congr (hP.leaveWaiters n (s := { s with segments := setRow s.segments n .quarantined }) ?_) rfl)
  exact hP.segments (tableWf_setRow _ n _) h

theorem readSegment (n : Nat) (h : P s) : P (readSegment n s) := by
  rcases readSegment_any n s with he | ⟨r, he⟩ | ⟨r, he⟩ | he <;> rw [he]
  · exact h
  · exact hP.writeSegment n r h
  · exact hP.noteCorrection _ (hP.writeSegment n r h)
  · exact hP.quarantineSegment n (hP.latch _ h)

theorem readSegments (h : P s) : P (readSegments s) := forEach_kept (fun n _ => hP.readSegment n) h

theorem excludeFrom (slot n : Nat) (h : P s) : P (excludeFrom slot n s).1 := by
  unfold Machine.excludeFrom
  split
  · split
    · exact hP.writeSegment n _ h
    · exact h
  · exact h

/-! #### Isolation -/

theorem modifyChain (n : Nat) (f : List ChainEntry → List ChainEntry) (h : P s) : P (modifyChain n f s) :=
  hP.modifySegment n _ h

theorem setSegState (n : Nat) (st : SegState) (h : P s) : P (setSegState n st s) := hP.modifySegment n _ h

theorem recordVisit (n x : Nat) (o : ChainOutcome) (h : P s) : P (recordVisit n x o s) := hP.modifyChain n _ h

theorem startTrip (x : Nat) (r : IntRec) (n : Nat) (c : TripCause) (h : P s) : P (startTrip x r n c s) := by
  have hw : P (Machine.recordVisit n x .tripped (Machine.setSegState n .isolating
      (Machine.writeInterrupter x (tripped n s r) s))) :=
    hP.recordVisit n x _ (hP.setSegState n _ (hP.writeInterrupter x _ h))
  refine hP.raiseNow _ ?_
  cases r.kind with
  | loc ch => exact hP.congr hw rfl
  | remote => exact hw

section
variable {e : Escalation} (he : ∀ x c b ws t, P t → P (e x c b ws t))
include he

theorem quarantineInterrupter (x : Nat) (r : IntRec) (h : P s) : P (quarantineInterrupter e x r s) := by
  have hq : P (Machine.raiseNow (.quarantined .interrupter x)
      { s with interrupters := setRow s.interrupters x .tableError }) :=
    hP.raiseNow _ (hP.interrupters (tableWf_setRow _ x _) h)
  unfold Machine.quarantineInterrupter
  split
  · exact he _ _ _ _ _ hq
  · exact hq

theorem readInterrupterWith (x : Nat) (h : P s) : P (readInterrupterWith e x s) := by
  rcases readInterrupterWith_cases e x s with heq | ⟨r, heq⟩ | ⟨r, heq⟩ | ⟨r, heq⟩ <;> rw [heq]
  · exact h
  · exact hP.writeInterrupter x r h
  · exact hP.noteCorrection _ (hP.writeInterrupter x r h)
  · exact hP.quarantineInterrupter he x r (hP.latch _ h)

theorem walkWith (n : Nat) (c : TripCause) (bs : List Nat) (h : P s) : P (walkWith e n c bs s) := by
  induction bs generalizing s with
  | nil => exact hP.setSegState n _ h
  | cons b bs ih =>
    unfold Machine.walkWith
    split
    · exact ih h
    · rename_i x _
      have h1 := hP.readInterrupterWith he x h
      have hon (o : ChainOutcome) := ih (hP.recordVisit n x o h1)
      dsimp only
      split
      · exact hon _
      · split
        · exact hP.recordVisit n x _ (hP.setSegState n _ (hP.writeInterrupter x _ h1))
        · exact hon _
        · exact hon _
        all_goals
          split
          · exact hP.startTrip x _ n c h1
          · exact hon _

end

theorem escalateOne {w : Nat → TripCause → List Nat → State → State} (hw : ∀ n c bs t, P t → P (w n c bs t)) (x : Nat)
    (c : FailReason) (b n : Nat) (h : P s) : P (escalateOne w x c b n s) := by
  have h1 := hP.readSegments h
  unfold Machine.escalateOne
  dsimp only
  split
  · exact h1
  · have h2 := hP.modifyChain n (setNewest .escalatedFrom) h1
    refine hP.noteIsolationFailed n (hP.raiseNow _ ?_)
    split
    · exact hw _ _ _ _ h2
    · exact hP.setSegState n _ h2

theorem escalateWith (fuel x : Nat) (c : FailReason) (b : Nat) (ws : List Nat) (h : P s) : P (escalateWith fuel x c b ws s) := by
  induction fuel generalizing x c b ws s with
  | zero => exact h
  | succ fuel ih =>
    unfold Machine.escalateWith
    split
    · exact hP.raiseNow _ h
    · have hw (m : Nat) (c' : TripCause) (bs : List Nat) (t : State) (ht : P t) : P (Machine.walkWith (Machine.escalateWith fuel) m c' bs t) :=
        hP.walkWith (fun x c b ws _ ht => ih x c b ws ht) m c' bs ht
      exact forEach_kept (P := P) (fun n t ht => hP.escalateOne (s := t) hw x c b n ht) h

theorem walk (n : Nat) (c : TripCause) (bs : List Nat) (h : P s) : P (walk n c bs s) :=
  hP.walkWith (fun x c b ws _ => hP.escalateWith 17 x c b ws) n c bs h

theorem readInterrupter (x : Nat) (h : P s) : P (readInterrupter x s) :=
  hP.readInterrupterWith (fun x c b ws _ => hP.escalateWith 17 x c b ws) x h

/-- What every write keeps, the reads keep. -/
theorem byReads : KeptByReads P where
  toKeptOutside := hP.toKeptOutside
  readSegment := hP.readSegment
  readInterrupter := hP.readInterrupter
  excludeFrom := hP.excludeFrom

theorem confirmWalk (n : Nat) (k : Confirmation) (h : P s) : P (confirmWalk n k s) := by
  have h1 := hP.readSegments h
  unfold Machine.confirmWalk
  dsimp only
  split
  · exact h1
  · split
    · exact h1
    · refine hP.noteIsolationFailed n (hP.noteVerdict n k.arc ?_)
      split
      · exact hP.walk n _ _ (hP.writeSegment n _ h1)
      · exact hP.setSegState n _ (hP.writeSegment n _ h1)

theorem openInterrupter (x : Nat) (o : OpenSource) (f : FrameNo) (h : P s) : P (openInterrupter x o f s) := by
  unfold Machine.openInterrupter
  split
  · exact h
  · exact hP.raiseAt _ _ (forEach_kept (fun n _ ht => hP.modifyChain n _ (hP.setSegState n _ ht)) (hP.writeInterrupter x _ h))

theorem failTripping (x : Nat) (c : FailReason) (h : P s) : P (failTripping x c s) := by
  unfold Machine.failTripping
  split
  · exact h
  · exact hP.escalateWith 17 x c _ _ (hP.writeInterrupter x _ h)

/-! #### The pass -/

theorem queueSegmentNotices (n : Nat) (bs : List NoticeBody) (h : P s) : P (queueSegmentNotices n bs s) := hP.congr h rfl

theorem stage2Segment (n : Nat) (h : P s) : P (stage2Segment n s) := by
  have h1 := hP.readSegment n h
  unfold Machine.stage2Segment
  extract_lets s1
  split
  · split
    · exact hP.congr (hP.writeSegment n _ h1) rfl
    · exact h1
  · exact h1

theorem judgeSegment (p : Pass) (n : Nat) (r : SegRec) (h : P s) : P (judgeSegment p n r s) := by
  unfold Machine.judgeSegment
  extract_lets w enters s1
  have h1 : P s1 := by
    unfold s1
    split
    · exact hP.queueSegmentNotices n _ (hP.writeSegment n _ h)
    · exact h
  split
  · exact hP.modifyPass _ h1
  · split
    · exact hP.queueSegmentNotices n _ (hP.modifySegment n _ h1)
    · exact h1

theorem stage3Segment (n : Nat) (h : P s) : P (stage3Segment n s) := by
  have h1 := hP.readSegment n h
  unfold Machine.stage3Segment
  extract_lets s1
  have hwrite (r : SegRec) (b : List NoticeBody) : P (Machine.queueSegmentNotices n b (Machine.writeSegment n r s1)) :=
    hP.queueSegmentNotices n b (hP.writeSegment n r h1)
  split
  · rename_i p r _ _
    have hrunning : P (stage3Running p n r s1) := by
      unfold stage3Running
      split
      · exact hwrite _ _
      · exact hP.judgeSegment p n r h1
    split
    · exact h1
    · split
      · exact hrunning
      · exact hrunning
      · unfold stage3Deenergized
        split
        · exact hwrite _ _
        · exact h1
      · unfold stage3Settling
        split
        · exact h1
        · split
          · exact hwrite _ _
          · exact hP.writeSegment n _ h1
      all_goals exact h1
  · exact h1

theorem passDeadline (n : Nat) (r : SegRec) (h : P s) : P (passDeadline n r s) := by
  have h1 : P (Machine.writeSegment n { r with deadline := none, deadlinePassed := true } s) := hP.writeSegment n _ h
  unfold Machine.passDeadline
  split
  · exact hP.raiseNow _ h1
  · exact h1

theorem deadlineStart (p : Pass) (n : Nat) (h : P s) : P (deadlineStart p n s).1 := by
  have h1 := hP.readSegment n h
  unfold Machine.deadlineStart
  extract_lets s1
  split
  · exact h1
  · split
    · extract_lets left
      split
      · exact hP.writeSegment n _ h1
      · split
        · exact h1
        · exact hP.passDeadline n _ h1
    · exact h1

theorem deadlineStarts (p : Pass) (ns : List Nat) (h : P s) : P (deadlineStarts p ns s).1 := by
  induction ns generalizing s with
  | nil => exact h
  | cons n ns ih => exact ih (hP.deadlineStart p n h)

theorem stopConfirmed (p : Pass) (h : P s) : P (stopConfirmed p s) := by
  refine forEach_kept (fun n t ht => ?_) h
  split
  · exact hP.modifySegment n _ ht
  · exact ht

theorem stepThreeWalk (p : Pass) (ex : List Nat) (n : Nat) (h : P s) : P (stepThreeWalk p ex n s) := by
  unfold Machine.stepThreeWalk
  split
  · exact h
  · split
    · exact hP.confirmWalk n _ h
    · split
      · exact hP.confirmWalk n _ h
      · exact h

theorem proofStep (p : Pass) (x : Nat) (h : P s) : P (proofStep p x s) := by
  have h1 := hP.readInterrupter x h
  unfold Machine.proofStep
  extract_lets s1
  split
  · exact h1
  · split
    · extract_lets s2
      have h2 : P s2 := hP.byReads.readSensor _ h1
      split
      · exact hP.openInterrupter x _ _ h2
      · exact h2
    · exact h1

theorem completePass (h : P s) : P (completePass s) := by
  unfold Machine.completePass
  split
  · rename_i p _
    have h2 := hP.deadlineStarts p allSegments (hP.raiseAll p.frame (allSegments.flatMap fun n => (rowAt p.segmentNotices n).getD [])
      (hP.raiseAll p.frame p.sensorNotices h))
    unfold completionSteps
    dsimp only
    unfold raiseStageNotices
    generalize Machine.deadlineStarts p allSegments _ = out at h2 ⊢
    refine hP.leaveFrame (hP.noteCorrections _ (hP.raiseAll _ _ ?_))
    refine forEach_kept (fun x _ ht => hP.proofStep p x ht) ?_
    exact forEach_kept (fun n _ ht => hP.stepThreeWalk p _ n ht) (hP.stopConfirmed p h2)
  · exact h

theorem deadlineExpires (n : Nat) (h : P s) : P (deadlineExpires n s) := by
  unfold Machine.deadlineExpires
  split
  · exact h
  · split
    · exact h
    · rename_i due _
      have h1 := hP.readSegment n (hP.arriveAt due h)
      extract_lets s1
      split
      · exact h1
      · split
        · exact hP.confirmWalk n _ (hP.writeSegment n _ h1)
        · exact hP.passDeadline n _ h1

theorem confirmExpires (x : Nat) (h : P s) : P (confirmExpires x s) := by
  unfold Machine.confirmExpires
  split
  · exact h
  · split
    · exact h
    · rename_i due _
      have h1 := hP.readInterrupter x (hP.arriveAt due h)
      extract_lets s1
      split
      · exact h1
      · split
        · exact hP.failTripping x _ h1
        · exact h1

end
end KeptByWrites
end Sys2Proof.Machine
end

section
namespace Sys2Proof.Machine
namespace KeptByWrites

section
variable {P : State → Prop} {s : State} (hP : KeptByWrites P)
include hP

theorem stage2 (h : P s) : P (stage2 s) := by
  unfold Machine.stage2
  exact forEach_kept (fun n _ ht => hP.stage2Segment n ht) h

theorem stage3 (h : P s) : P (stage3 s) := by
  unfold Machine.stage3
  exact forEach_kept (fun n _ ht => hP.stage3Segment n ht) h

/-! #### Requests on segments -/

theorem takeDefineSegment (n : Nat) (d : SegmentFields) (h : P s) : P (takeDefineSegment n d s).1 := by
  have h1 := hP.byReads.readSensors (d.up :: d.down) h
  have h2 := hP.byReads.readSegments h1
  unfold Machine.takeDefineSegment
  split
  · exact h
  · split
    · exact h
    · dsimp only
      split
      · exact h1
      · generalize Machine.readSegments _ = t at h2 ⊢
        unfold defineSegmentChecked
        split
        · exact h2
        · split
          · exact h2
          · exact hP.writeSegment n _ h2

theorem takeRemoveSegment (n : Nat) (h : P s) : P (takeRemoveSegment n s).1 := by
  have h1 := hP.readSegment n h
  unfold Machine.takeRemoveSegment
  split
  · exact h
  · extract_lets s1
    split
    · exact h1
    · exact hP.segments (tableWf_dropRow _ n) h1

theorem takeReleaseSegment (n : Nat) (h : P s) : P (takeReleaseSegment n s).1 := by
  have h1 := hP.readSegment n h
  unfold Machine.takeReleaseSegment
  split
  · exact h
  · extract_lets s1
    split
    · exact h1
    · split
      · exact forEach_kept (fun d _ ht => hP.modifySensor d unseed (hP.byReads.readSensor d ht)) (hP.writeSegment n _ h1)
      · exact h1

theorem takeRestoreSegment (n : Nat) (h : P s) : P (takeRestoreSegment n s).1 := by
  have h1 := hP.readSegment n h
  unfold Machine.takeRestoreSegment
  split
  · exact h
  · extract_lets s1
    split
    · exact h1
    · extract_lets members s2
      have h2 : P s2 := hP.byReads.readSensors members h1
      split
      · exact h2
      · exact hP.modifySegment n _ h2

/-! #### Requests on interrupters -/

theorem takeDefineInterrupter (x : Nat) (k : InterrupterKind) (slot c : Nat) (h : P s) : P (takeDefineInterrupter x k slot c s).1 := by
  have h1 := hP.byReads.readSensor slot h
  have h2 := hP.byReads.readInterrupters h1
  unfold Machine.takeDefineInterrupter
  split
  · exact h
  · split
    · exact h
    · dsimp only
      split
      · exact h1
      · generalize Machine.readInterrupters _ = t at h2 ⊢
        split
        · exact h2
        · split
          · exact h2
          · exact hP.writeInterrupter x _ h2

theorem takeRemoveInterrupter (x : Nat) (h : P s) : P (takeRemoveInterrupter x s).1 := by
  have h1 := hP.readInterrupter x h
  unfold Machine.takeRemoveInterrupter
  split
  · exact h
  · extract_lets s1
    split
    · exact h1
    · exact hP.interrupters (tableWf_dropRow _ x) h1

theorem onInterrupter {f : IntRec → State → State × Answer} (hf : ∀ r t, P t → P (f r t).1) (x : Nat) (h : P s) :
    P (onInterrupter x f s).1 := by
  have h1 := hP.readInterrupter x h
  unfold Machine.onInterrupter
  split
  · exact h
  · extract_lets s1
    split
    · exact h1
    · exact hf _ _ h1

theorem takeSetArm (x : Nat) (v : Bool) (h : P s) : P (takeSetArm x v s).1 :=
  hP.onInterrupter (fun _ _ ht => hP.writeInterrupter x _ ht) x h

theorem takeAckTrip (x : Nat) (h : P s) : P (takeAckTrip x s).1 := by
  refine hP.onInterrupter (fun r t ht => ?_) x h
  split
  · exact ht
  · exact hP.writeInterrupter x _ ht

theorem reportOpen (x : Nat) (r : IntRec) (h : P s) : P (reportOpen x r s) := by
  unfold Machine.reportOpen
  split
  · exact hP.openInterrupter x _ _ h
  · exact hP.raiseNow _ (hP.writeInterrupter x _ h)
  · exact hP.raiseNow _ (hP.writeInterrupter x _ h)
  · exact hP.raiseNow _ (hP.writeInterrupter x _ h)
  · exact h

theorem reportClosed (x : Nat) (r : IntRec) (h : P s) : P (reportClosed x r s) := by
  unfold Machine.reportClosed
  split
  · exact hP.writeInterrupter x _ h
  · exact hP.writeInterrupter x _ h
  · exact hP.writeInterrupter x _ h
  · exact h
  · exact h

theorem reportFailed (x : Nat) (r : IntRec) (h : P s) : P (reportFailed x r s) := by
  unfold Machine.reportFailed
  split
  · exact hP.failTripping x _ h
  all_goals exact hP.writeInterrupter x _ h

theorem takeInterrupterState (x p : Nat) (h : P s) : P (takeInterrupterState x p s).1 := by
  refine hP.onInterrupter (fun r t ht => ?_) x h
  split
  · exact hP.reportOpen x r ht
  · split
    · split
      · exact ht
      · exact hP.reportClosed x r ht
    · exact hP.reportFailed x r ht

/-! #### Requests on the part as a whole -/

theorem rewriteSegments (f : State → SegRec → SegRec) (h : P s) : P (rewriteSegments f s) :=
  forEach_kept (fun n _ ht => hP.modifySegment n _ (hP.readSegment n ht)) h

theorem rewriteInterrupters (f : IntRec → IntRec) (h : P s) : P (rewriteInterrupters f s) :=
  forEach_kept (fun x _ ht => hP.modifyInterrupter x f (hP.readInterrupter x ht)) h

theorem enterRun (h : P s) : P (enterRun s) := by
  unfold Machine.enterRun
  extract_lets t
  have ht : P t := by
    unfold t
    split
    · exact h
    · exact hP.byReads.rewriteSensors unseed h
  exact hP.withMc _ (hP.ring (ring := []) (Nat.zero_le _) ht)

theorem enterHold (h : P s) : P (enterHold s) :=
  hP.rewriteSegments _ (hP.withMc _ (hP.ring (ring := []) (Nat.zero_le _) h))

theorem takeSetMode (toRun : Bool) (h : P s) : P (takeSetMode toRun s).1 := by
  unfold Machine.takeSetMode
  split
  · split
    · exact h
    · split
      · exact hP.enterRun h
      · exact h
  · split
    · exact h
    · split
      · exact h
      · dsimp only
        exact hP.enterHold h

theorem restartBlocks (h : P s) : P (restartBlocks s) := by
  have h1 : P { s with ring := [], nq := { s.nq with queue := [] } } :=
    hP.queue (s := { s with ring := [] }) (Nat.zero_le _) (hP.ring (Nat.zero_le _) h)
  exact hP.withMc _ (hP.congr (t := { s with
    hl := { s.hl with requests := [] }, ring := [], pass := none
    nq := { s.nq with queue := [], tail := 0 }
    cb := { s.cb with snapshot := none, raised := .clear } }) h1 rfl)

theorem restartEffects (h : P s) : P (restartEffects s) := by
  have h1 : P (Machine.rewriteInterrupters restartInterrupter (Machine.rewriteSegments restartSegment
      (Machine.rewriteSensors restartSensor (Machine.restartBlocks s)))) :=
    hP.rewriteInterrupters _ (hP.rewriteSegments _ (hP.byReads.rewriteSensors _ (hP.restartBlocks h)))
  unfold Machine.restartEffects
  generalize Machine.rewriteInterrupters _ _ = t at h1 ⊢
  exact hP.congr h1 rfl

theorem takeInject (target number position : Nat) (double : Bool) (h : P s) : P (takeInject target number double position s).1 := by
  unfold Machine.takeInject
  split
  · unfold injectSensor
    split
    · exact h
    · exact h
    · exact hP.setSensor _ _ h
  · unfold injectSegment
    split
    · exact h
    · exact h
    · exact hP.segments (tableWf_setRow _ _ _) h
  · unfold injectInterrupter
    split
    · exact h
    · exact h
    · exact hP.interrupters (tableWf_setRow _ _ _) h
  · exact hP.congr h rfl

/-! #### Requests taken -/

theorem act (r : Request) (h : P s) : P (act r s).1 := by
  unfold Machine.act
  cases r with
  | identify | getStatus | restart | selfTest | unknownKind | malformed => exact h
  | setMode => exact hP.takeSetMode _ h
  | setTimebase => exact hP.byReads.takeSetTimebase _ _ _ h
  | setProfile | setInhibit => exact hP.withMc _ h
  | fetchNotices => exact hP.takeFetchNotices _ h
  | getCounts => exact hP.takeGetCounts h
  | setParams => exact hP.byReads.takeSetParams _ h
  | defineSensor => exact hP.byReads.takeDefineSensor _ _ _ _ h
  | retireSensor =>
    dsimp only
    exact hP.byReads.takeRetireSensor _ h
  | querySensor =>
    dsimp only
    exact hP.byReads.takeQuerySensor _ h
  | defineSegment =>
    dsimp only
    exact hP.takeDefineSegment _ _ h
  | removeSegment => exact hP.takeRemoveSegment _ h
  | querySegment =>
    dsimp only
    exact hP.byReads.takeQuerySegment _ h
  | releaseSegment =>
    dsimp only
    exact hP.takeReleaseSegment _ h
  | restoreSegment => exact hP.takeRestoreSegment _ h
  | defineInterrupter => exact hP.takeDefineInterrupter _ _ _ _ h
  | removeInterrupter => exact hP.takeRemoveInterrupter _ h
  | queryInterrupter => exact hP.byReads.takeQueryInterrupter _ h
  | setArm => exact hP.takeSetArm _ _ h
  | interrupterState => exact hP.takeInterrupterState _ _ h
  | ackTrip => exact hP.takeAckTrip _ h
  | configTripOutputs =>
    dsimp only
    exact hP.byReads.takeConfigTripOutputs _ h
  | report => exact hP.byReads.judgeEntries _ h
  | clearCounts => exact hP.takeClearCounts _ h
  | inject => exact hP.takeInject _ _ _ _ h

theorem perform (r : Request) (h : P s) : P (perform r s).1 := by
  unfold Machine.perform
  split
  · exact h
  · split
    · exact h
    · exact hP.act r h

theorem takeRequest (r : Request) (h : P s) : P (takeRequest r s) := by
  have hacted := hP.perform r (hP.spendBadCheck h)
  unfold Machine.takeRequest
  extract_lets out t u
  have hu : P u := hP.handOver _ (hP.settleUrgency _ hacted)
  split
  · exact hP.restartEffects hu
  · exact hu

theorem serveUpTo (n : Nat) (h : P s) : P (serveUpTo n s) := by
  induction n generalizing s with
  | zero => exact h
  | succ n ih =>
    unfold Machine.serveUpTo
    split
    · exact h
    · split
      · exact ih (hP.takeRequest _ h)
      · exact h

/-! #### Resets and self-test -/

theorem hardReset (station baud : BitVec 2) (h : P s) : P (hardReset station baud s) := by
  have h1 : P { s with
      segments := s.segments.map fun p => (p.1, stopDeadline p.2)
      interrupters := s.interrupters.map fun p => (p.1, stopConfirm p.2) } :=
    hP.interrupters (s := { s with segments := s.segments.map fun p => (p.1, stopDeadline p.2) })
      (tableWf_map (by simp)) (hP.segments (tableWf_map (by simp)) h)
  have h2 := hP.counts (counts := State.reset.cb.counts) (fun c => by cases c <;> exact Nat.zero_le _)
    (hP.queue (queue := []) (Nat.zero_le _) (hP.ring (ring := []) (Nat.zero_le _) h1))
  exact hP.congr (hP.withMc (Machine.hardReset station baud s).mc h2) rfl

theorem resetBySelfTest (h : P s) : P (resetBySelfTest s) := by
  unfold Machine.resetBySelfTest setSelfTest
  dsimp only
  exact hP.congr (hP.withMc _ (hP.hardReset _ _ h)) rfl

theorem replyEnds (h : P s) : P (replyEnds s) := by
  unfold Machine.replyEnds
  split
  · split
    · split
      · exact hP.resetBySelfTest h
      · exact hP.sendEnds h
    · exact hP.sendEnds h
  · exact h

theorem emptyTables (h : P s) : P (emptyTables s) := by
  have h1 : P { s with sensors := [], index := [], segments := [], interrupters := [] } := by
    have hindex := hP.filterIndex (fun _ => false) (hP.sensors (sensors := []) (fun _ => rfl) h)
    rw [List.filter_false] at hindex
    exact hP.interrupters (fun _ => rfl) (hP.segments (segments := []) (fun _ => rfl) hindex)
  exact hP.congr (hP.withMc (Machine.emptyTables s).mc h1) rfl

theorem endSelfTest (h : P s) : P (endSelfTest s) := by
  unfold Machine.endSelfTest
  split
  · exact hP.withMc _ h
  · exact hP.raiseNow _ (hP.congr (hP.withMc (startSchedule { s with mc := _ }).mc h) rfl)

/-! #### Every command -/

theorem settled {f : State → State} (hf : ∀ {t}, P t → P (f t)) (h : P s) : P (settled f s) := hP.settleUrgency _ (hf h)

theorem passCompletes (k : Nat) (h : P s) : P (passCompletes k s) := by
  unfold Machine.passCompletes
  split
  · exact hP.closeOldest (hP.serveUpTo k (hP.settled hP.completePass h))
  · exact h

theorem event {f : State → State} {t : State} (hf : P (f s)) (hex : event f s = .next t) : P t := by
  cases hex
  exact hP.serveUpTo _ hf

theorem exec {c : Instr} {t : State} (h : P s) (hex : exec c s = .next t) : P t := by
  have hrequest {r : Request} (hr : requestOf c = some r) : P t := by
    rw [exec_of_request hr] at hex
    exact hP.event (hP.requestArrives r h) hex
  cases c with
  | hardReset st baud =>
    cases hex
    exact hP.hardReset st baud h
  | selfTestStepEnd f => exact hP.event (hP.stepEnds f h (hP.endSelfTest (hP.emptyTables h))) hex
  | linkLoopback good => exact hP.event (hP.loopbackBegins good h) hex
  | messageReceived a p check => exact hP.event (hP.messageArrives a p check h) hex
  | linkAborted a => exact hP.event (hP.markedCharacter a h) hex
  | linkBreak => exact hP.event (hP.breakArrives h) hex
  | linkFraming cause => exact hP.event (hP.framingArrives cause h) hex
  | gapTimeout => exact hP.event (hP.gapArrives h) hex
  | replySendStart => exact hP.event (hP.sendStarts h) hex
  | replySent => exact hP.event (hP.replyEnds h) hex
  | syncEdge time =>
    exact hP.event (f := fun u => Machine.syncEdge (max u.now time) (Machine.arriveAt time u))
      (hP.syncEdge _ (hP.arriveAt time h)) hex
  | edgeHistoryTimeout => exact hP.event (hP.historyTimeout h) hex
  | internalFrameStart => exact hP.event (hP.internalStart h) hex
  | edgeWindowClose => exact hP.event (hP.windowClose h) hex
  | passStage1 => exact hP.event (hP.settled (fun ht => hP.runStage (hP.byReads.stage1 ht) _ _ ht) h) hex
  | passStage2 => exact hP.event (hP.settled (fun ht => hP.runStage (hP.stage2 ht) _ _ ht) h) hex
  | passStage3 => exact hP.event (hP.settled (fun ht => hP.runStage (hP.stage3 ht) _ _ ht) h) hex
  | passStage4 => exact hP.event (hP.settled (fun ht => hP.runStage (hP.byReads.stage4 ht) _ _ ht) h) hex
  | passCompletion k => exact hP.event (hP.passCompletes k.val h) hex
  | deadlineExpiry n => exact hP.event (hP.settled (fun ht => hP.deadlineExpires n.val ht) h) hex
  | confirmTimerExpiry x => exact hP.event (hP.settled (fun ht => hP.confirmExpires x.val ht) h) hex
  | pulseTimerExpiry ch => exact hP.event (hP.pulseExpires ch h) hex
  | inhibitInputChange a => exact hP.event (f := inhibitChanges a) (hP.congr h rfl) hex
  | addressCharacter a => exact hP.event (hP.markedCharacter a h) hex
  | resetNRelease => exact hP.event (hP.resetReleases h) hex
  | _ => exact hrequest rfl

/-- What every write keeps, every step keeps. -/
theorem step {t : State} (h : P s) (hstep : step s = .next t) : P t := by
  unfold Machine.step at hstep
  split at hstep
  · cases hstep
    exact hP.congr h rfl
  · rename_i c rest _
    exact hP.exec (s := { s with pending := rest }) (hP.congr h rfl) hstep

end
end KeptByWrites
end Sys2Proof.Machine
end

section
namespace Sys2Proof.Machine

/-! ### The bounds as kept properties (R44, R150, R152) -/

theorem get_counts_le {s : State} (h : countsBounded s = true) (c : CountName) : s.cb.counts.get c ≤ 65535 := by
  simp only [countsBounded, List.all_eq_true, decide_eq_true_eq] at h
  exact h c (by cases c <;> decide)

/-- A lost notice adds 1 to one count, which stops at 65535 (R150, R152). -/
theorem countsBounded_noticeLost {s : State} (h : countsBounded s = true) : countsBounded (noticeLost s) = true := by
  have hc := get_counts_le h
  have hlost (c : CountName) : (noticeLost s).cb.counts.get c ≤ 65535 := by
    rw [show (noticeLost s).cb.counts = (bump .noticeDropped s).cb.counts from rfl, bump, get_countsOf]
    split
    · exact Nat.min_le_right _ _
    · exact hc c
  simp only [countsBounded, List.all_eq_true, decide_eq_true_eq]
  exact fun c _ => hlost c

theorem keptByWrites_notices : KeptByWrites (noticesBounded · = true) where
  congr h ho := by
    simp only [observed, Prod.mk.injEq] at ho
    simpa only [noticesBounded, ho] using h
  setSensor _ _ h := h
  dropSensor _ h := h
  setIndex _ _ h := h
  filterIndex _ h := h
  ring _ h := h
  queue hle h := decide_eq_true (hle.trans (of_decide_eq_true h))
  enqueue n h := decide_eq_true (enqueue_length n _ (of_decide_eq_true h))
  counts _ h := h
  sensors _ h := h
  segments _ h := h
  interrupters _ h := h
  withMc _ h := h

theorem keptByWrites_counts : KeptByWrites (countsBounded · = true) where
  congr h ho := by
    simp only [observed, Prod.mk.injEq] at ho
    simpa only [countsBounded, ho] using h
  setSensor _ _ h := h
  dropSensor _ h := h
  setIndex _ _ h := h
  filterIndex _ h := h
  ring _ h := h
  queue _ h := h
  enqueue n h := by
    rcases enqueue_cases n _ with ⟨-, he⟩ | ⟨kept, -, he⟩ | he <;> rw [he]
    · exact h
    · exact countsBounded_noticeLost h
    · exact countsBounded_noticeLost h
  counts hle h := by
    have hc := get_counts_le h
    simp only [countsBounded, List.all_eq_true, decide_eq_true_eq]
    intro c _
    have h1 := hle c
    have h2 := hc c
    omega
  sensors _ h := h
  segments _ h := h
  interrupters _ h := h
  withMc _ h := h

theorem keptByWrites_ring : KeptByWrites (ringBounded · = true) where
  congr h ho := by
    simp only [observed, Prod.mk.injEq] at ho
    simpa only [ringBounded, ho] using h
  setSensor _ _ h := h
  dropSensor _ h := h
  setIndex _ _ h := h
  filterIndex _ h := h
  ring hle h := by
    simp only [ringBounded, decide_eq_true_eq] at h ⊢
    omega
  queue _ h := h
  enqueue n h := by
    rw [ringBounded, enqueue_ring]
    exact h
  counts _ h := h
  sensors _ h := h
  segments _ h := h
  interrupters _ h := h
  withMc _ h := h

theorem tablesCanonical_iff {s : State} : tablesCanonical s = true ↔ tableWf s.sensors = true ∧ tableWf s.index = true ∧
    tableWf s.segments = true ∧ tableWf s.interrupters = true := by
  simp only [tablesCanonical, Bool.and_eq_true, and_assoc]

theorem keptByWrites_tables : KeptByWrites (tablesCanonical · = true) where
  congr h ho := by
    simp only [observed, Prod.mk.injEq] at ho
    simpa only [tablesCanonical, ho] using h
  setSensor n p h := by
    obtain ⟨hs, hi, hg, hx⟩ := tablesCanonical_iff.mp h
    exact tablesCanonical_iff.mpr ⟨tableWf_setRow _ n p hs, hi, hg, hx⟩
  dropSensor n h := by
    obtain ⟨hs, hi, hg, hx⟩ := tablesCanonical_iff.mp h
    exact tablesCanonical_iff.mpr ⟨tableWf_dropRow _ n hs, hi, hg, hx⟩
  setIndex a n h := by
    obtain ⟨hs, hi, hg, hx⟩ := tablesCanonical_iff.mp h
    exact tablesCanonical_iff.mpr ⟨hs, tableWf_setRow _ a n hi, hg, hx⟩
  filterIndex f h := by
    obtain ⟨hs, hi, hg, hx⟩ := tablesCanonical_iff.mp h
    exact tablesCanonical_iff.mpr ⟨hs, tableWf_filter _ f hi, hg, hx⟩
  ring _ h := h
  queue _ h := h
  enqueue n h := by
    rw [tablesCanonical_iff] at h ⊢
    simpa using h
  counts _ h := h
  sensors hwf h := by
    obtain ⟨hs, hi, hg, hx⟩ := tablesCanonical_iff.mp h
    exact tablesCanonical_iff.mpr ⟨hwf hs, hi, hg, hx⟩
  segments hwf h := by
    obtain ⟨hs, hi, hg, hx⟩ := tablesCanonical_iff.mp h
    exact tablesCanonical_iff.mpr ⟨hs, hi, hwf hg, hx⟩
  interrupters hwf h := by
    obtain ⟨hs, hi, hg, hx⟩ := tablesCanonical_iff.mp h
    exact tablesCanonical_iff.mpr ⟨hs, hi, hg, hwf hx⟩
  withMc _ h := h

/-! ### The buffers (R168, R169) -/

/-- At most j requests and k replies are held. -/
structure Buffered (j k : Nat) (s : State) : Prop where
  requests : s.hl.requests.length ≤ j
  replies : s.hl.replies.length ≤ k

theorem buffersBounded_iff {s : State} : buffersBounded s = true ↔ Buffered 2 2 s := by
  simp only [buffersBounded, Bool.and_eq_true, decide_eq_true_eq]
  exact ⟨fun ⟨hq, hr⟩ => ⟨hq, hr⟩, fun ⟨hq, hr⟩ => ⟨hq, hr⟩⟩

namespace Buffered

section
variable {j k : Nat} {s t : State}

theorem congr (h : Buffered j k s) (hq : t.hl.requests = s.hl.requests) (hr : t.hl.replies = s.hl.replies) : Buffered j k t :=
  ⟨hq ▸ h.requests, hr ▸ h.replies⟩

theorem of_hl (h : Buffered j k s) (ht : t.hl = s.hl) : Buffered j k t := h.congr (by rw [ht]) (by rw [ht])

theorem of_standing (h : Buffered j k s) (ht : standing t = standing s) : Buffered j k t := h.of_hl (congrArg Standing.hl ht)

/-! #### The line -/

theorem setRx (x : RxState) (h : Buffered j k s) : Buffered j k (setRx x s) := h.congr rfl rfl

theorem dropOther (a : Byte) (h : Buffered j k s) : Buffered j k (dropOther a s) := h.of_hl (by simp)

theorem buffer (r : Request) (h : Buffered 2 k s) : Buffered 2 k (buffer r s) := by
  unfold Machine.buffer
  split
  · refine ⟨?_, h.replies⟩
    simp
    omega
  · exact h.congr rfl rfl

theorem requestArrives (r : Request) (h : Buffered 2 k s) : Buffered 2 k (requestArrives r s) := by
  unfold Machine.requestArrives
  split
  · exact ((h.dropOther _).setRx _).buffer r
  · exact h

theorem markedCharacter (a : Byte) (h : Buffered j k s) : Buffered j k (markedCharacter a s) := by
  unfold Machine.markedCharacter
  split
  · extract_lets t
    have ht : Buffered j k t := by
      unfold t
      split
      · exact h.of_hl rfl
      · exact h
    split <;> exact ht.setRx _
  · exact h

theorem messageArrives (a : Byte) (payload : List Byte) (check : Half) (h : Buffered 2 k s) :
    Buffered 2 k (messageArrives a payload check s) := by
  have hd := h.dropOther a
  unfold Machine.messageArrives
  split
  · exact h
  · split
    · exact h.markedCharacter a
    · dsimp only
      split
      · exact hd.congr rfl rfl
      · split
        · exact hd.congr rfl rfl
        · split
          · exact hd.setRx _
          · exact (hd.setRx _).buffer _

theorem breakArrives (h : Buffered j k s) : Buffered j k (breakArrives s) := by
  unfold Machine.breakArrives
  split
  · exact h.congr rfl rfl
  · exact h

theorem framingArrives (c : FramingCause) (h : Buffered j k s) : Buffered j k (framingArrives c s) := by
  unfold Machine.framingArrives
  split
  · split
    · exact h.congr rfl rfl
    · split
      · exact h.congr rfl rfl
      · exact h
  · exact h

theorem gapArrives (h : Buffered j k s) : Buffered j k (gapArrives s) := by
  unfold Machine.gapArrives
  split
  · split
    · exact h
    · exact h.congr rfl rfl
    · exact h.setRx _
  · exact h

theorem sendStarts (h : Buffered j k s) : Buffered j k (sendStarts s) := by
  unfold Machine.sendStarts
  split
  · exact h.congr rfl rfl
  · exact h

theorem hardReset (station baud : BitVec 2) : Buffered j k (hardReset station baud s) := ⟨Nat.zero_le _, Nat.zero_le _⟩

theorem replyEnds (h : Buffered j k s) : Buffered j k (replyEnds s) := by
  have hsent : Buffered j k (sendEnds s) := by
    refine ⟨h.requests, ?_⟩
    have := h.replies
    simp only [sendEnds, List.length_drop]
    omega
  unfold Machine.replyEnds
  split
  · split
    · split
      · exact (hardReset (j := j) (k := k) (s := s) _ _).congr rfl rfl
      · exact hsent
    · exact hsent
  · exact h

/-! #### Self-test -/

theorem loopbackBegins (good : Bool) (h : Buffered j k s) : Buffered j k (loopbackBegins good s) := by
  unfold Machine.loopbackBegins
  split
  · exact h.congr rfl rfl
  · exact h

theorem resetReleases (h : Buffered j k s) : Buffered j k (resetReleases s) := by
  unfold Machine.resetReleases
  split
  · exact h.congr rfl rfl
  · exact h

theorem endSelfTest (h : Buffered j k s) : Buffered j k (endSelfTest s) := by
  unfold Machine.endSelfTest
  split
  · exact h.congr rfl rfl
  · exact h.of_hl (raiseNow_hl _ _)

theorem stepEnds (f : StepFindings) (h : Buffered j k s) : Buffered j k (stepEnds f s) := by
  unfold Machine.stepEnds
  split
  · split
    · unfold endStepSix
      dsimp only
      split <;> exact h.congr rfl rfl
    · split <;> exact h.congr rfl rfl
    · dsimp only
      split <;> exact h.congr rfl rfl
    · exact h.congr rfl rfl
    · split <;> exact h.congr rfl rfl
    · exact (h.of_hl (t := emptyTables s) rfl).endSelfTest
    · exact h
  · exact h

/-! #### The timebase -/

theorem frameStart (h : Buffered j k s) : Buffered j k (frameStart s) := h.of_hl (frameStart_hl s)

theorem enterTimebase (new : TimebaseState) (c : TimebaseCause) (h : Buffered j k s) : Buffered j k (enterTimebase new c s) :=
  h.of_hl (raiseNow_hl _ _)

theorem lockAt (time : Nat) (h : Buffered j k s) : Buffered j k (lockAt time s) := by
  have h1 : Buffered j k (if internalStands time s then s else Machine.frameStart s) := by
    split
    · exact h
    · exact h.frameStart
  exact Buffered.enterTimebase _ _ (h1.of_hl rfl)

theorem acquireEdge (time : Nat) (h : Buffered j k s) : Buffered j k (acquireEdge time s) := by
  have hrun : Buffered j k (startRun time s) := h.of_hl rfl
  unfold Machine.acquireEdge
  split
  · exact hrun
  · split
    · exact hrun
    · split
      · exact hrun
      · split
        · exact h.lockAt time
        · exact h.of_hl rfl

theorem lockedEdge (time : Nat) (h : Buffered j k s) : Buffered j k (lockedEdge time s) := by
  unfold Machine.lockedEdge
  split
  · split
    · exact h.frameStart.of_hl rfl
    · exact h.of_hl rfl
  · exact h.of_hl rfl

theorem syncEdge (time : Nat) (h : Buffered j k s) : Buffered j k (syncEdge time s) := by
  unfold Machine.syncEdge
  split
  · split
    · exact h
    · exact h.acquireEdge time
    · exact h.acquireEdge time
    · exact h.lockedEdge time
  · exact h

theorem historyTimeout (h : Buffered j k s) : Buffered j k (historyTimeout s) := by
  unfold Machine.historyTimeout
  split <;> exact h.of_hl rfl

theorem internalStart (h : Buffered j k s) : Buffered j k (internalStart s) := by
  unfold Machine.internalStart
  split
  · rename_i due _
    split
    · exact (h.of_hl (arriveAt_hl due s)).frameStart.of_hl rfl
    · exact h
  · exact h

theorem windowClose (h : Buffered j k s) : Buffered j k (windowClose s) := by
  unfold Machine.windowClose
  split
  · rename_i e _
    split
    · rename_i e _ _
      have h1 : Buffered j k (Machine.frameStart (arriveAt (e + tolerance s) s)) := (h.of_hl (arriveAt_hl _ s)).frameStart
      exact Buffered.enterTimebase _ _ (h1.of_hl (by simp))
    · exact h
  · exact h

theorem restartTimebase (period : Nat) (enable : Bool) (h : Buffered j k s) : Buffered j k (restartTimebase period enable s) := by
  unfold Machine.restartTimebase
  extract_lets new ft t
  have ht : Buffered j k t := h.of_hl rfl
  split
  · exact ht
  · exact ht.enterTimebase _ _

/-! #### Requests -/

theorem takeSetMode (toRun : Bool) (h : Buffered j k s) : Buffered j k (takeSetMode toRun s).1 := by
  have hhold : Buffered j k (enterHold s) :=
    Buffered.of_standing (s := setPartMode .hold { s with ring := [] }) (h.of_hl rfl) (standing_rewriteSegments _ _)
  have hrun : Buffered j k (enterRun s) := by
    unfold enterRun
    extract_lets t
    have ht : Buffered j k t := by
      unfold t
      split
      · exact h
      · exact h.of_standing (by simp)
    exact ht.of_hl rfl
  unfold Machine.takeSetMode
  split
  · split
    · exact h
    · split
      · exact hrun
      · exact h
  · split
    · exact h
    · split
      · exact h
      · dsimp only
        exact hhold

theorem takeSetTimebase (p : Nat) (e : Bool) (next : Option FrameNo) (h : Buffered j k s) : Buffered j k (takeSetTimebase p e next s).1 := by
  unfold Machine.takeSetTimebase
  extract_lets t
  have ht : Buffered j k t := by
    unfold t
    split
    · exact h
    · exact h.restartTimebase p e
  clear_value t
  split
  · rename_i n
    dsimp only
    exact Buffered.of_standing (s := { t with ft := { t.ft with override := some n } }) (ht.of_hl rfl) (standing_rewriteSensors _ _)
  · exact ht

theorem takeSetParams (ps : List ParamPair) (h : Buffered j k s) : Buffered j k (takeSetParams ps s).1 := by
  unfold Machine.takeSetParams
  extract_lets new t
  have ht : Buffered j k t := h.of_hl rfl
  split
  · exact ht
  · dsimp only
    exact ht.of_standing (standing_forEach (fun d u => standing_adjustSensor u _ _ d) t)

theorem takeConfigTripOutputs (es : List ChannelSetting) (h : Buffered j k s) : Buffered j k (takeConfigTripOutputs es s).1 := by
  have h1 : Buffered j k (readInterrupters s) := h.of_standing (by simp)
  unfold Machine.takeConfigTripOutputs
  split
  · exact h
  · generalize readInterrupters s = s1 at h1 ⊢
    dsimp only
    split
    · exact h1
    · split
      · exact h1
      · exact List.foldlRecOn (motive := Buffered j k) es _ h1 fun t ht e _ => ht.of_hl rfl

theorem takeInject (target number position : Nat) (double : Bool) (h : Buffered j k s) :
    Buffered j k (takeInject target number double position s).1 := by
  unfold Machine.takeInject
  split
  · unfold injectSensor
    split <;> exact h.of_hl rfl
  · unfold injectSegment
    split <;> exact h.of_hl rfl
  · unfold injectInterrupter
    split <;> exact h.of_hl rfl
  · exact h.congr rfl rfl

/-- A request's owner leaves the buffers. -/
theorem act (r : Request) (h : Buffered j k s) : Buffered j k (act r s).1 := by
  unfold Machine.act
  cases r with
  | identify | getStatus | restart | selfTest | unknownKind | malformed => exact h
  | setProfile | setInhibit => exact h.of_hl rfl
  | setMode t => exact h.takeSetMode _
  | setTimebase period enable presence next => exact h.takeSetTimebase _ _ _
  | setParams pairs => exact h.takeSetParams _
  | configTripOutputs entries =>
    dsimp only
    exact h.takeConfigTripOutputs _
  | inject target number size position => exact h.takeInject _ _ _ _
  | defineSensor | retireSensor | querySensor | defineSegment | removeSegment | querySegment | releaseSegment | restoreSegment
  | defineInterrupter | removeInterrupter | queryInterrupter | setArm | interrupterState | ackTrip | report | fetchNotices
  | getCounts | clearCounts => exact h.of_standing (by simp)

theorem perform (r : Request) (h : Buffered j k s) : Buffered j k (perform r s).1 := by
  unfold Machine.perform
  split
  · exact h
  · split
    · exact h
    · exact h.act r

theorem restartEffects (h : Buffered j k s) : Buffered 0 k (restartEffects s) := by
  have h1 : Buffered 0 k (Machine.restartBlocks s) := ⟨Nat.zero_le _, h.replies⟩
  have h2 : Buffered 0 k (rewriteInterrupters restartInterrupter (rewriteSegments restartSegment (rewriteSensors restartSensor
      (Machine.restartBlocks s)))) := h1.of_standing (((standing_rewriteInterrupters _ restartInterrupter).trans
    (standing_rewriteSegments _ restartSegment)).trans (standing_rewriteSensors _ restartSensor))
  unfold Machine.restartEffects
  generalize rewriteInterrupters _ _ = t at h2 ⊢
  exact h2.congr rfl rfl

end
end Buffered
end Sys2Proof.Machine
end

section
namespace Sys2Proof.Machine
namespace Buffered

section
variable {s : State}

theorem weaken {j j' k k' : Nat} (h : Buffered j k s) (hj : j ≤ j') (hk : k ≤ k') : Buffered j' k' s :=
  ⟨h.requests.trans hj, h.replies.trans hk⟩

/-- A request taken leaves its place to its reply (R168, R169). -/
theorem takeRequest {j k : Nat} (r : Request) (h : Buffered (j + 1) k s) : Buffered j (k + 1) (takeRequest r s) := by
  have hacted : Buffered (j + 1) k (Machine.perform r (spendBadCheck s)).1 := Buffered.perform r (h.congr rfl rfl)
  unfold Machine.takeRequest
  extract_lets out t u
  have ht : Buffered (j + 1) k t := hacted.of_hl (settleUrgency_hl _ _)
  have hu : Buffered j (k + 1) u := by
    refine ⟨?_, ?_⟩
    · have := ht.requests
      simp only [u, handOver, List.length_drop]
      omega
    · have := ht.replies
      simp only [u, handOver, List.length_append, List.length_singleton]
      omega
  split
  · exact hu.restartEffects.weaken (Nat.zero_le _) (Nat.le_refl _)
  · exact hu

theorem serveUpTo (n : Nat) (h : Buffered 2 2 s) : Buffered 2 2 (serveUpTo n s) := by
  induction n generalizing s with
  | zero => exact h
  | succ n ih =>
    unfold Machine.serveUpTo
    split
    · exact h
    · rename_i r _ _
      split
      · rename_i htake
        simp only [takeable, Bool.and_eq_true, decide_eq_true_eq] at htake
        obtain ⟨⟨⟨hroom, -⟩, -⟩, -⟩ := htake
        exact ih ((Buffered.takeRequest (j := 1) (k := 1) r ⟨h.requests, by omega⟩).weaken (by omega) (by omega))
      · exact h

theorem settled {f : State → State} (hf : standing (f s) = standing s) (h : Buffered 2 2 s) : Buffered 2 2 (settled f s) :=
  (h.of_standing hf).of_hl (settleUrgency_hl _ _)

theorem passCompletes (k : Nat) (h : Buffered 2 2 s) : Buffered 2 2 (passCompletes k s) := by
  unfold Machine.passCompletes
  split
  · exact ((h.settled (standing_completePass s)).serveUpTo k).of_standing (standing_closeOldest _)
  · exact h

theorem event {f : State → State} {t : State} (hf : Buffered 2 2 (f s)) (hex : event f s = .next t) : Buffered 2 2 t := by
  cases hex
  exact hf.serveUpTo _

theorem exec {c : Instr} {t : State} (h : Buffered 2 2 s) (hex : exec c s = .next t) : Buffered 2 2 t := by
  have hrequest {r : Request} (hr : requestOf c = some r) : Buffered 2 2 t := by
    rw [exec_of_request hr] at hex
    exact (h.requestArrives r).event hex
  cases c with
  | hardReset st baud =>
    cases hex
    exact Buffered.congr (hardReset (j := 2) (k := 2) (s := s) st baud) rfl rfl
  | selfTestStepEnd f => exact (h.stepEnds f).event hex
  | linkLoopback good => exact (h.loopbackBegins good).event hex
  | messageReceived a p check => exact (h.messageArrives a p check).event hex
  | linkAborted a => exact (h.markedCharacter a).event hex
  | linkBreak => exact h.breakArrives.event hex
  | linkFraming cause => exact (h.framingArrives cause).event hex
  | gapTimeout => exact h.gapArrives.event hex
  | replySendStart => exact h.sendStarts.event hex
  | replySent => exact h.replyEnds.event hex
  | syncEdge time =>
    exact Buffered.event (f := fun u => Machine.syncEdge (max u.now time) (Machine.arriveAt time u))
      ((h.of_hl (arriveAt_hl time s)).syncEdge _) hex
  | edgeHistoryTimeout => exact h.historyTimeout.event hex
  | internalFrameStart => exact h.internalStart.event hex
  | edgeWindowClose => exact h.windowClose.event hex
  | passStage1 => exact (h.settled (standing_runStage s _ _ (standing_stage1 s))).event hex
  | passStage2 => exact (h.settled (standing_runStage s _ _ (standing_stage2 s))).event hex
  | passStage3 => exact (h.settled (standing_runStage s _ _ (standing_stage3 s))).event hex
  | passStage4 => exact (h.settled (standing_runStage s _ _ (standing_stage4 s))).event hex
  | passCompletion k => exact (h.passCompletes k.val).event hex
  | deadlineExpiry n => exact (h.settled (standing_deadlineExpires s n.val)).event hex
  | confirmTimerExpiry x => exact (h.settled (standing_confirmExpires s x.val)).event hex
  | pulseTimerExpiry ch => exact (h.of_standing (standing_pulseExpires s ch)).event hex
  | inhibitInputChange a => exact Buffered.event (f := inhibitChanges a) (h.of_hl rfl) hex
  | addressCharacter a => exact (h.markedCharacter a).event hex
  | resetNRelease => exact h.resetReleases.event hex
  | _ => exact hrequest rfl

theorem step {t : State} (h : Buffered 2 2 s) (hstep : step s = .next t) : Buffered 2 2 t := by
  unfold Machine.step at hstep
  split at hstep
  · cases hstep
    exact h.of_hl rfl
  · rename_i c rest _
    exact Buffered.exec (s := { s with pending := rest }) (h.of_hl rfl) hstep

end
end Buffered
end Sys2Proof.Machine
end

section
namespace Sys2Proof.Machine

/-! ### The laws of the records while segments are under way (R87, R89, R97, R121, R122) -/

/-- A segment between its confirmation, or the failure of the interrupter it waited on, and the end of its walk. -/
def UnderWay (r : SegRec) : Prop := r.verdict ≠ none ∧ r.suspect = none ∧ r.deadline = none

/-- The laws of the records for every segment but those `out`, which are under way and in no waiters list. The errors of the records
meet `E`, the interrupters with a record are among `ids`, and the segments `undated` have no deadline timer running. -/
structure Lawful (E : BitVec 32 → Prop) (ids undated : Nat → Prop) (out : List Nat) (s : State) : Prop where
  segment : ∀ n r, segmentAt s n = some r → E r.err ∧ (undated n → r.deadline = none)
  law : ∀ n r, n < 40 → n ∉ out → segmentAt s n = some r →
    segmentLaw r ∧ (r.state = .isolating → ∃ x, waitsOn s n r x)
  under : ∀ n ∈ out, n < 40 ∧ ∀ r, segmentAt s n = some r → UnderWay r
  interrupter : ∀ x q, interrupterAt s x = some q → ids x ∧ E q.err
  waiters : ∀ x q, x < 16 → interrupterAt s x = some q → q.waiters.Nodup ∧ (q.waiters ≠ [] → q.state = .tripping) ∧
    ∀ n ∈ q.waiters, n < 40 ∧ n ∉ out ∧ ∃ r, segmentAt s n = some r ∧ r.state = .isolating
  sole : ∀ x y p q n, x < 16 → y < 16 → interrupterAt s x = some p → interrupterAt s y = some q → n ∈ p.waiters →
    n ∈ q.waiters → x = y

section
variable {E : BitVec 32 → Prop} {ids undated : Nat → Prop} {out : List Nat} {s t : State} {n x : Nat}

/-! #### Entering and leaving the laws -/

theorem lawful_of_recordLaws (h : recordLaws s) (hseg : ∀ n r, segmentAt s n = some r → E r.err)
    (hint : ∀ x q, interrupterAt s x = some q → E q.err) : Lawful E (fun _ => True) (fun _ => False) [] s := by
  obtain ⟨hlaw, hwait, hsole⟩ := h
  refine ⟨fun n r hr => ⟨hseg n r hr, False.elim⟩, fun n r hn _ hr => hlaw n r hn hr, by simp, fun x q hq => ⟨trivial, hint x q hq⟩,
    fun x q hx hq => ?_, hsole⟩
  obtain ⟨hnodup, htrip, hseg⟩ := hwait x q hx hq
  exact ⟨hnodup, htrip, fun n hn => ⟨(hseg n hn).1, by simp, (hseg n hn).2⟩⟩

theorem Lawful.recordLaws (h : Lawful E ids undated [] s) : recordLaws s := by
  refine ⟨fun n r hn hr => h.law n r hn (by simp) hr, fun x q hx hq => ?_, h.sole⟩
  obtain ⟨hnodup, htrip, hseg⟩ := h.waiters x q hx hq
  exact ⟨hnodup, htrip, fun n hn => ⟨(hseg n hn).1, (hseg n hn).2.2⟩⟩

theorem waitsOn_congr {r : SegRec} (hi : ∀ x, interrupterAt t x = interrupterAt s x) : waitsOn t n r x ↔ waitsOn s n r x := by
  unfold waitsOn
  rw [hi]

/-- The laws read the two tables alone. -/
theorem Lawful.congr (h : Lawful E ids undated out s) (hg : t.segments = s.segments) (hi : t.interrupters = s.interrupters) :
    Lawful E ids undated out t := by
  have hseg := segmentAt_congr hg
  have hint := interrupterAt_congr hi
  refine ⟨?_, ?_, ?_, ?_, ?_, ?_⟩
  · simpa only [hseg] using h.segment
  · simpa only [hseg, waitsOn_congr hint] using h.law
  · simpa only [hseg] using h.under
  · simpa only [hint] using h.interrupter
  · simpa only [hseg, hint] using h.waiters
  · simpa only [hint] using h.sole

/-- Other bounds on errors, ids and deadline timers, where the records meet them. -/
theorem Lawful.rebound {E' : BitVec 32 → Prop} {ids' undated' : Nat → Prop} (h : Lawful E ids undated out s)
    (hseg : ∀ n r, segmentAt s n = some r → E' r.err ∧ (undated' n → r.deadline = none))
    (hint : ∀ x q, interrupterAt s x = some q → ids' x ∧ E' q.err) : Lawful E' ids' undated' out s :=
  { h with segment := hseg, interrupter := hint }

/-! #### A segment record written -/

/-- What a written segment record must meet. -/
theorem Lawful.writeSegment_of (hE : Readable E) {out' : List Nat} {r : SegRec} (h : Lawful E ids undated out s)
    (hu : undated n → r.deadline = none)
    (hlaw : n < 40 → n ∉ out' → segmentLaw r ∧ (r.state = .isolating → ∃ x, waitsOn s n r x))
    (hunder : n ∈ out' → n < 40 ∧ UnderWay r) (hout : ∀ m ≠ n, m ∈ out' ↔ m ∈ out)
    (hwait : ∀ x q, x < 16 → interrupterAt s x = some q → n ∈ q.waiters → n ∉ out' ∧ r.state = .isolating) :
    Lawful E ids undated out' (writeSegment n r s) := by
  have hint (x : Nat) : interrupterAt (writeSegment n r s) x = interrupterAt s x := rfl
  have hseg (m : Nat) : segmentAt (writeSegment n r s) m = if m = n then some { r with err := 0 } else segmentAt s m :=
    segmentAt_writeSegment n m r s
  refine ⟨fun m p hp => ?_, fun m p hm hmo hp => ?_, fun m hm => ?_, h.interrupter, fun x q hx hq => ?_, h.sole⟩
  · rw [hseg] at hp
    split at hp
    · cases hp
      subst m
      exact ⟨hE.1, hu⟩
    · exact h.segment m p hp
  · rw [hseg] at hp
    simp only [waitsOn_congr hint]
    split at hp
    · cases hp
      subst m
      exact hlaw hm hmo
    · exact h.law m p hm (fun hin => hmo ((hout m ‹_›).mpr hin)) hp
  · by_cases hmn : m = n
    · subst m
      refine ⟨(hunder hm).1, fun p hp => ?_⟩
      rw [hseg, if_pos rfl] at hp
      cases hp
      exact (hunder hm).2
    · obtain ⟨hm40, hrec⟩ := h.under m ((hout m hmn).mp hm)
      refine ⟨hm40, fun p hp => hrec p ?_⟩
      rwa [hseg, if_neg hmn] at hp
  · obtain ⟨hnodup, htrip, hmem⟩ := h.waiters x q hx hq
    refine ⟨hnodup, htrip, fun m hm => ?_⟩
    obtain ⟨hm40, hmo, hrec⟩ := hmem m hm
    rw [hseg]
    by_cases hmn : m = n
    · subst m
      obtain ⟨hno, hst⟩ := hwait x q hx hq hm
      exact ⟨hm40, hno, { r with err := 0 }, by simp, hst⟩
    · exact ⟨hm40, fun hin => hmo ((hout m hmn).mp hin), by simpa only [if_neg hmn] using hrec⟩

/-- A segment that is not ISOLATING is in no waiters list. -/
theorem Lawful.not_waiting (h : Lawful E ids undated out s) (hold : ∀ r, segmentAt s n = some r → r.state ≠ .isolating) {q : IntRec}
    (hx : x < 16) (hq : interrupterAt s x = some q) : n ∉ q.waiters := by
  intro hn
  obtain ⟨-, -, r, hr, hst⟩ := (h.waiters x q hx hq).2.2 n hn
  exact hold r hr hst

/-- A segment under way is in no waiters list. -/
theorem Lawful.not_waiting_of_out (h : Lawful E ids undated out s) (hn : n ∈ out) {q : IntRec} (hx : x < 16)
    (hq : interrupterAt s x = some q) : n ∉ q.waiters :=
  fun hw => ((h.waiters x q hx hq).2.2 n hw).2.1 hn

/-- A record rewritten with its state, verdict part and suspect details, its deadline standing or stopped. -/
theorem Lawful.writeKept (hE : Readable E) {r r' : SegRec} (h : Lawful E ids undated out s) (hr : segmentAt s n = some r)
    (hst : r'.state = r.state) (hv : r'.verdict = r.verdict) (hs : r'.suspect = r.suspect)
    (hd : r.deadline = none ∨ r'.deadline ≠ none → r'.deadline = r.deadline) :
    Lawful E ids undated out (writeSegment n r' s) := by
  have hnone (hr : r.deadline = none) : r'.deadline = none := (hd (.inl hr)).trans hr
  refine h.writeSegment_of hE (fun hu => hnone ((h.segment n r hr).2 hu)) (fun hn hno => ?_) (fun hn => ?_) (fun _ _ => Iff.rfl)
    fun x q hx hq hw => ?_
  · obtain ⟨hlaw, hwait⟩ := h.law n r hn hno hr
    refine ⟨?_, ?_⟩
    · obtain ⟨hlv, hls, hld⟩ := hlaw
      rw [segmentLaw, hst, hv, hs]
      exact ⟨hlv, hls, fun hne => hld (hd (.inr hne) ▸ hne)⟩
    · simpa only [waitsOn, hst, hv] using hwait
  · obtain ⟨hn40, hrec⟩ := h.under n hn
    refine ⟨hn40, ?_⟩
    obtain ⟨huv, hus, hud⟩ := hrec r hr
    exact ⟨hv ▸ huv, hs ▸ hus, hnone hud⟩
  · obtain ⟨-, hno, p, hp, hpst⟩ := (h.waiters x q hx hq).2.2 n hw
    rw [hr] at hp
    cases hp
    exact ⟨hno, hst.trans hpst⟩

/-- A record that is not ISOLATING and meets its law, written where none ISOLATING stands. -/
theorem Lawful.writeIdle (hE : Readable E) {r : SegRec} (h : Lawful E ids undated out s) (hno : n ∉ out)
    (hold : ∀ q, segmentAt s n = some q → q.state ≠ .isolating) (hlaw : n < 40 → segmentLaw r) (hst : r.state ≠ .isolating)
    (hu : undated n → r.deadline = none) : Lawful E ids undated out (writeSegment n r s) :=
  h.writeSegment_of hE hu (fun hn _ => ⟨hlaw hn, fun hi => absurd hi hst⟩) (fun hin => absurd hin hno) (fun _ _ => Iff.rfl)
    fun _ _ hx hq hw => absurd hw (h.not_waiting hold hx hq)

/-- A segment under way is written, still under way. -/
theorem Lawful.writeUnderWay (hE : Readable E) {r : SegRec} (h : Lawful E ids undated out s) (hn : n ∈ out) (hr : UnderWay r) :
    Lawful E ids undated out (writeSegment n r s) :=
  h.writeSegment_of hE (fun _ => hr.2.2) (fun _ hno => absurd hn hno) (fun _ => ⟨(h.under n hn).1, hr⟩) (fun _ _ => Iff.rfl)
    fun _ _ hx hq hw => absurd hw (h.not_waiting_of_out hn hx hq)

/-- A segment that is not ISOLATING comes under way. -/
theorem Lawful.beginWalk (hE : Readable E) {r : SegRec} (h : Lawful E ids undated [] s) (hn : n < 40)
    (hold : ∀ q, segmentAt s n = some q → q.state ≠ .isolating) (hr : UnderWay r) :
    Lawful E ids undated [n] (writeSegment n r s) :=
  h.writeSegment_of hE (fun _ => hr.2.2) (fun _ hno => absurd (List.mem_singleton.mpr rfl) hno) (fun _ => ⟨hn, hr⟩)
    (fun m hm => by simp [hm]) fun _ _ hx hq hw => absurd hw (h.not_waiting hold hx hq)

/-- A segment under way without a record is under way no more. -/
theorem Lawful.settleLost (h : Lawful E ids undated (n :: out) s) (hnone : segmentAt s n = none) : Lawful E ids undated out s := by
  refine ⟨h.segment, fun m r hm hmo hr => h.law m r hm ?_ hr, fun m hm => h.under m (List.mem_cons_of_mem n hm), h.interrupter,
    fun x q hx hq => ?_, h.sole⟩
  · intro hin
    rcases List.mem_cons.mp hin with rfl | hin
    · rw [hnone] at hr
      cases hr
    · exact hmo hin
  · obtain ⟨hnodup, htrip, hmem⟩ := h.waiters x q hx hq
    refine ⟨hnodup, htrip, fun m hm => ?_⟩
    obtain ⟨hm40, hmo, hrec⟩ := hmem m hm
    exact ⟨hm40, fun hin => hmo (List.mem_cons_of_mem n hin), hrec⟩

/-- A walk ends in a verdict state other than ISOLATING. -/
theorem Lawful.settleEnded (hE : Readable E) {r : SegRec} (h : Lawful E ids undated (n :: out) s) (hno : n ∉ out)
    (hr : UnderWay r) (hst : isVerdictState r.state = true) (hni : r.state ≠ .isolating) :
    Lawful E ids undated out (writeSegment n r s) := by
  obtain ⟨hv, hs, hd⟩ := hr
  have hlaw : segmentLaw r := by
    refine ⟨by simp [hv, hst], ?_, fun hne => absurd hd hne⟩
    refine ⟨fun hne => absurd hs hne, fun hsus => ?_⟩
    rw [hsus] at hst
    cases hst
  refine h.writeSegment_of hE (fun _ => hd) (fun _ _ => ⟨hlaw, fun hi => absurd hi hni⟩) (fun hin => absurd hin hno)
    (fun m hm => by simp [hm]) fun _ _ hx hq hw => absurd hw (h.not_waiting_of_out (List.mem_cons_self ..) hx hq)

end
end Sys2Proof.Machine
end

section
namespace Sys2Proof.Machine

section
variable {E : BitVec 32 → Prop} {ids undated : Nat → Prop} {out : List Nat} {s t : State} {n x : Nat}

/-! #### An interrupter record written or lost -/

/-- An interrupter record changes and keeps its waiters; with any it stays TRIPPING. -/
theorem Lawful.writeWaiting (hE : Readable E) {r r' : IntRec} (h : Lawful E ids undated out s) (hr : interrupterAt s x = some r)
    (hw : r'.waiters = r.waiters) (hst : r.waiters ≠ [] → r.state = .tripping → r'.state = .tripping) :
    Lawful E ids undated out (writeInterrupter x r' s) := by
  have hint (y : Nat) : interrupterAt (writeInterrupter x r' s) y = if y = x then some { r' with err := 0 } else interrupterAt s y :=
    interrupterAt_writeInterrupter x y r' s
  have hseg (m : Nat) : segmentAt (writeInterrupter x r' s) m = segmentAt s m := rfl
  /- Each record of the state after stands for one of the state before with the same waiters. -/
  have hback {y : Nat} {q : IntRec} (hq : interrupterAt (writeInterrupter x r' s) y = some q) :
      ∃ p, interrupterAt s y = some p ∧ q.waiters = p.waiters ∧ (p.waiters ≠ [] → p.state = .tripping → q.state = .tripping) ∧
        (E p.err → E q.err) := by
    rw [hint] at hq
    split at hq
    · cases hq
      subst y
      exact ⟨r, hr, hw, hst, fun _ => hE.1⟩
    · exact ⟨q, hq, rfl, fun _ => id, id⟩
  refine ⟨h.segment, fun m p hm hmo hp => ?_, h.under, fun y q hq => ?_, fun y q hy hq => ?_, fun y z p q m hy hz hp hq hm hm' => ?_⟩
  · obtain ⟨hlaw, hwait⟩ := h.law m p hm hmo hp
    refine ⟨hlaw, fun hi => ?_⟩
    obtain ⟨y, hy, ⟨q, hq, hqst, hmem⟩, hchain⟩ := hwait hi
    refine ⟨y, hy, ?_, hchain⟩
    rw [hint]
    split
    · subst y
      rw [hr] at hq
      cases hq
      exact ⟨_, rfl, hst (List.ne_nil_of_mem hmem) hqst, by simpa [hw] using hmem⟩
    · exact ⟨q, hq, hqst, hmem⟩
  · obtain ⟨p, hp, -, -, herr⟩ := hback hq
    exact ⟨(h.interrupter y p hp).1, herr (h.interrupter y p hp).2⟩
  · obtain ⟨p, hp, hpw, hpst, -⟩ := hback hq
    obtain ⟨hnodup, htrip, hmem⟩ := h.waiters y p hy hp
    rw [hpw]
    exact ⟨hnodup, fun hne => hpst hne (htrip hne), hmem⟩
  · obtain ⟨p', hp', hpw, -⟩ := hback hp
    obtain ⟨q', hq', hqw, -⟩ := hback hq
    rw [hpw] at hm
    rw [hqw] at hm'
    exact h.sole y z p' q' m hy hz hp' hq' hm hm'

/-- An interrupter loses its waiters, or its record; those that waited on it are under way. -/
theorem Lawful.releaseWaiters {ws : List Nat} (h : Lawful E ids undated [] s) (hg : t.segments = s.segments)
    (hother : ∀ y, y ≠ x → interrupterAt t y = interrupterAt s y)
    (hnew : ∀ q, interrupterAt t x = some q → ids x ∧ E q.err ∧ q.waiters = [])
    (hws : ∀ n, n ∈ ws ↔ x < 16 ∧ ∃ q, interrupterAt s x = some q ∧ n ∈ q.waiters) : Lawful E ids undated ws t := by
  have hseg := segmentAt_congr hg
  have hback {y : Nat} {q : IntRec} (hq : interrupterAt t y = some q) (hne : q.waiters ≠ []) :
      y ≠ x ∧ interrupterAt s y = some q := by
    by_cases hyx : y = x
    · subst y
      exact absurd (hnew q hq).2.2 hne
    · exact ⟨hyx, hother y hyx ▸ hq⟩
  refine ⟨by simpa only [hseg] using h.segment, fun m p hm hmo hp => ?_, fun m hm => ?_, fun y q hq => ?_, fun y q hy hq => ?_,
    fun y z p q m hy hz hp hq hm hm' => ?_⟩
  · rw [hseg] at hp
    obtain ⟨hlaw, hwait⟩ := h.law m p hm (by simp) hp
    refine ⟨hlaw, fun hi => ?_⟩
    obtain ⟨y, hy, ⟨q, hq, hqst, hmem⟩, hchain⟩ := hwait hi
    have hyx : y ≠ x := by
      rintro rfl
      exact hmo ((hws m).mpr ⟨hy, q, hq, hmem⟩)
    exact ⟨y, hy, ⟨q, (hother y hyx).trans hq, hqst, hmem⟩, hchain⟩
  · obtain ⟨hx, q, hq, hmem⟩ := (hws m).mp hm
    obtain ⟨hm40, -, r, hr, hst⟩ := (h.waiters x q hx hq).2.2 m hmem
    obtain ⟨⟨hv, hs, hd⟩, -⟩ := h.law m r hm40 (by simp) hr
    refine ⟨hm40, fun p hp => ?_⟩
    rw [hseg, hr] at hp
    cases hp
    refine ⟨hv.mpr (by simp [hst, isVerdictState]), ?_, ?_⟩
    · by_contra hne
      rw [hs.mp hne] at hst
      cases hst
    · by_contra hne
      rw [hd hne] at hst
      cases hst
  · by_cases hyx : y = x
    · subst y
      exact ⟨(hnew q hq).1, (hnew q hq).2.1⟩
    · exact h.interrupter y q (hother y hyx ▸ hq)
  · by_cases hne : q.waiters = []
    · simp [hne]
    · obtain ⟨hyx, hq'⟩ := hback hq hne
      obtain ⟨hnodup, htrip, hmem⟩ := h.waiters y q hy hq'
      refine ⟨hnodup, htrip, fun m hm => ?_⟩
      obtain ⟨hm40, -, hrec⟩ := hmem m hm
      refine ⟨hm40, fun hin => ?_, by rwa [hseg]⟩
      obtain ⟨hx, p, hp, hmp⟩ := (hws m).mp hin
      exact hyx (h.sole y x q p m hy hx hq' hp hm hmp)
  · obtain ⟨-, hp'⟩ := hback hp (List.ne_nil_of_mem hm)
    obtain ⟨-, hq'⟩ := hback hq (List.ne_nil_of_mem hm')
    exact h.sole y z p q m hy hz hp' hq' hm hm'

/-- An interrupter that holds no waiters is written without any, or is lost. -/
theorem Lawful.changeIdle (h : Lawful E ids undated [] s) (hg : t.segments = s.segments)
    (hother : ∀ y, y ≠ x → interrupterAt t y = interrupterAt s y)
    (hnew : ∀ q, interrupterAt t x = some q → ids x ∧ E q.err ∧ q.waiters = [])
    (hidle : ∀ q, x < 16 → interrupterAt s x = some q → q.waiters = []) : Lawful E ids undated [] t := by
  refine h.releaseWaiters hg hother hnew fun n => ⟨by simp, ?_⟩
  rintro ⟨hx, q, hq, hmem⟩
  rw [hidle q hx hq] at hmem
  cases hmem

/-- An interrupter that is not TRIPPING has no waiters. -/
theorem Lawful.waiters_nil {q : IntRec} (h : Lawful E ids undated out s) (hx : x < 16) (hq : interrupterAt s x = some q)
    (hst : q.state ≠ .tripping) : q.waiters = [] := by
  by_contra hne
  exact hst ((h.waiters x q hx hq).2.1 hne)

/-- A segment under way comes to wait on an interrupter. -/
theorem Lawful.settleWaiting {r : SegRec} {q q' : IntRec} (h : Lawful E ids undated (n :: out) s)
    (hno : n ∉ out) (hx : x < 16) (hq : interrupterAt s x = some q) (hr : UnderWay r) (hst : r.state = .isolating)
    (hchain : ∃ v e, r.verdict = some v ∧ v.chain.getLast? = some e ∧ e.id = x ∧ (e.outcome = .tripped ∨ e.outcome = .joined))
    (hw : q'.waiters = q.waiters ++ [n]) (htrip : q'.state = .tripping) (hre : E r.err) (hqe : E q'.err)
    (hseg : ∀ m, segmentAt t m = if m = n then some r else segmentAt s m)
    (hint : ∀ y, interrupterAt t y = if y = x then some q' else interrupterAt s y) : Lawful E ids undated out t := by
  have hn := (h.under n (List.mem_cons_self ..)).1
  obtain ⟨hv, hs, hd⟩ := hr
  have hlaw : segmentLaw r := by
    refine ⟨by simp [hv, hst, isVerdictState], ⟨fun hne => absurd hs hne, fun hsus => ?_⟩, fun hne => absurd hd hne⟩
    rw [hst] at hsus
    cases hsus
  /- Each waiter after the change is n on x, or waited on the same interrupter before it. -/
  have hback {y : Nat} {p : IntRec} {m : Nat} (hp : interrupterAt t y = some p) (hm : m ∈ p.waiters) :
      (m = n ∧ y = x) ∨ ∃ p', interrupterAt s y = some p' ∧ m ∈ p'.waiters := by
    rw [hint] at hp
    split at hp
    · cases hp
      subst y
      simp only [hw, List.mem_append, List.mem_singleton] at hm
      rcases hm with hm | rfl
      · exact .inr ⟨q, hq, hm⟩
      · exact .inl ⟨rfl, rfl⟩
    · exact .inr ⟨p, hp, hm⟩
  refine ⟨fun m p hp => ?_, fun m p hm hmo hp => ?_, fun m hm => ?_, fun y p hp => ?_, fun y p hy hp => ?_,
    fun y z p p' m hy hz hp hp' hm hm' => ?_⟩
  · rw [hseg] at hp
    split at hp
    · cases hp
      exact ⟨hre, fun _ => hd⟩
    · exact h.segment m p hp
  · rw [hseg] at hp
    split at hp
    · cases hp
      subst m
      refine ⟨hlaw, fun _ => ⟨x, hx, ?_, hchain⟩⟩
      rw [hint, if_pos rfl]
      exact ⟨_, rfl, htrip, by simp [hw]⟩
    · obtain ⟨hlaw', hwait⟩ := h.law m p hm (by simp_all) hp
      refine ⟨hlaw', fun hiso => ?_⟩
      obtain ⟨y, hy, ⟨p', hp', hst', hmem⟩, hch⟩ := hwait hiso
      refine ⟨y, hy, ?_, hch⟩
      rw [hint]
      split
      · subst y
        rw [hq] at hp'
        cases hp'
        exact ⟨_, rfl, htrip, by simp [hw, hmem]⟩
      · exact ⟨p', hp', hst', hmem⟩
  · obtain ⟨hm40, hrec⟩ := h.under m (List.mem_cons_of_mem n hm)
    refine ⟨hm40, fun p hp => hrec p ?_⟩
    rwa [hseg, if_neg (ne_of_mem_of_not_mem hm hno)] at hp
  · rw [hint] at hp
    split at hp
    · cases hp
      subst y
      exact ⟨(h.interrupter x q hq).1, hqe⟩
    · exact h.interrupter y p hp
  · have hwhole (m : Nat) (hm : m ∈ p.waiters) : m < 40 ∧ m ∉ out ∧ ∃ r, segmentAt t m = some r ∧ r.state = .isolating := by
      rw [hseg]
      rcases hback hp hm with ⟨rfl, -⟩ | ⟨p', hp', hm'⟩
      · exact ⟨hn, hno, _, if_pos rfl, hst⟩
      · obtain ⟨hm40, hmo, hrec⟩ := (h.waiters y p' hy hp').2.2 m hm'
        rw [List.mem_cons, not_or] at hmo
        exact ⟨hm40, hmo.2, by rwa [if_neg hmo.1]⟩
    rw [hint] at hp
    split at hp
    · cases hp
      obtain ⟨hnodup, -, hmem⟩ := h.waiters x q hx hq
      refine ⟨?_, fun _ => htrip, hwhole⟩
      have hnew : n ∉ q.waiters := h.not_waiting_of_out (List.mem_cons_self ..) hx hq
      simpa [hw, List.nodup_append, hnodup] using fun m hm => ne_of_mem_of_not_mem hm hnew
    · obtain ⟨hnodup, htr, -⟩ := h.waiters y p hy hp
      exact ⟨hnodup, htr, hwhole⟩
  · have hnew {y : Nat} {p : IntRec} (hy : y < 16) (hp : interrupterAt s y = some p) : n ∉ p.waiters :=
      h.not_waiting_of_out (List.mem_cons_self ..) hy hp
    rcases hback hp hm with ⟨rfl, rfl⟩ | ⟨u, hu, hmu⟩ <;> rcases hback hp' hm' with ⟨hmn, rfl⟩ | ⟨v, hv, hmv⟩
    · rfl
    · exact absurd hmv (hnew hz hv)
    · subst hmn
      exact absurd hmu (hnew hy hu)
    · exact h.sole y z u v m hy hz hu hv hmu hmv

/-! #### A segment record lost or removed -/

/-- A segment loses its record and stands in no waiters list. -/
theorem Lawful.loseSegment {leave : List Nat → List Nat} (h : Lawful E ids undated out s)
    (hseg : ∀ m, segmentAt t m = if m = n then none else segmentAt s m)
    (hint : ∀ x, interrupterAt t x = (interrupterAt s x).map fun r => { r with waiters := leave r.waiters })
    (hleave : ∀ x q, x < 16 → interrupterAt s x = some q → leave q.waiters = q.waiters.filter (· != n)) :
    Lawful E ids undated out t := by
  have hback {m : Nat} {p : SegRec} (hp : segmentAt t m = some p) : m ≠ n ∧ segmentAt s m = some p := by
    rw [hseg] at hp
    split at hp
    · cases hp
    · exact ⟨‹_›, hp⟩
  have hbackInt {x : Nat} {q : IntRec} (hq : interrupterAt t x = some q) :
      ∃ p, interrupterAt s x = some p ∧ q = { p with waiters := leave p.waiters } := by
    rw [hint, Option.map_eq_some_iff] at hq
    obtain ⟨p, hp, rfl⟩ := hq
    exact ⟨p, hp, rfl⟩
  refine ⟨fun m p hp => h.segment m p (hback hp).2, fun m p hm hmo hp => ?_, fun m hm => ?_, fun x q hq => ?_, fun x q hx hq => ?_,
    fun x y p q m hx hy hp hq hm hm' => ?_⟩
  · obtain ⟨hmn, hp'⟩ := hback hp
    obtain ⟨hlaw, hwait⟩ := h.law m p hm hmo hp'
    refine ⟨hlaw, fun hi => ?_⟩
    obtain ⟨x, hx, ⟨q, hq, hst, hmem⟩, hchain⟩ := hwait hi
    refine ⟨x, hx, ⟨{ q with waiters := leave q.waiters }, by rw [hint, hq]; rfl, hst, ?_⟩, hchain⟩
    simp [hleave x q hx hq, hmem, hmn]
  · obtain ⟨hm40, hrec⟩ := h.under m hm
    exact ⟨hm40, fun p hp => hrec p (hback hp).2⟩
  · obtain ⟨p, hp, rfl⟩ := hbackInt hq
    exact h.interrupter x p hp
  · obtain ⟨p, hp, rfl⟩ := hbackInt hq
    obtain ⟨hnodup, htrip, hmem⟩ := h.waiters x p hx hp
    dsimp only
    rw [hleave x p hx hp]
    refine ⟨hnodup.filter _, fun hne => htrip ?_, fun m hm => ?_⟩
    · rintro hnil
      simp [hnil] at hne
    · simp only [List.mem_filter, bne_iff_ne] at hm
      rw [hseg, if_neg hm.2]
      exact hmem m hm.1
  · obtain ⟨p', hp', rfl⟩ := hbackInt hp
    obtain ⟨q', hq', rfl⟩ := hbackInt hq
    dsimp only at hm hm'
    rw [hleave x p' hx hp'] at hm
    rw [hleave y q' hy hq'] at hm'
    exact h.sole x y p' q' m hx hy hp' hq' (List.mem_filter.mp hm).1 (List.mem_filter.mp hm').1

/-! #### Stored bits inverted -/

/-- A segment record without its inverted bits. -/
def SegRec.plainBits (r : SegRec) : SegRec := { r with err := 0 }

/-- An interrupter record without its inverted bits. -/
def IntRec.plainBits (q : IntRec) : IntRec := { q with err := 0 }

theorem SegRec.of_plainBits {a b : Option SegRec} (h : a.map SegRec.plainBits = b.map SegRec.plainBits) {r : SegRec}
    (hr : a = some r) : ∃ e, b = some { r with err := e } := by
  rw [hr, Option.map_some, eq_comm, Option.map_eq_some_iff] at h
  obtain ⟨p, hp, he⟩ := h
  refine ⟨p.err, hp.trans (congrArg some ?_)⟩
  cases p
  cases r
  simp_all [SegRec.plainBits]

theorem IntRec.of_plainBits {a b : Option IntRec} (h : a.map IntRec.plainBits = b.map IntRec.plainBits) {q : IntRec}
    (hq : a = some q) : ∃ e, b = some { q with err := e } := by
  rw [hq, Option.map_some, eq_comm, Option.map_eq_some_iff] at h
  obtain ⟨p, hp, he⟩ := h
  refine ⟨p.err, hp.trans (congrArg some ?_)⟩
  cases p
  cases q
  simp_all [IntRec.plainBits]

/-- Records that differ in their inverted bits alone meet the same laws. -/
theorem Lawful.invert {E' : BitVec 32 → Prop} (h : Lawful E ids undated out s)
    (hseg : ∀ n, (segmentAt t n).map SegRec.plainBits = (segmentAt s n).map SegRec.plainBits)
    (hint : ∀ x, (interrupterAt t x).map IntRec.plainBits = (interrupterAt s x).map IntRec.plainBits)
    (hsegErr : ∀ n r, segmentAt t n = some r → E' r.err) (hintErr : ∀ x q, interrupterAt t x = some q → E' q.err) :
    Lawful E' ids undated out t := by
  refine ⟨fun n r hr => ?_, fun n r hn hno hr => ?_, fun n hn => ?_, fun x q hq => ?_, fun x q hx hq => ?_,
    fun x y p q n hx hy hp hq => ?_⟩
  · obtain ⟨e, hs⟩ := SegRec.of_plainBits (hseg n) hr
    exact ⟨hsegErr n r hr, (h.segment n _ hs).2⟩
  · obtain ⟨e, hs⟩ := SegRec.of_plainBits (hseg n) hr
    obtain ⟨hlaw, hwait⟩ := h.law n _ hn hno hs
    refine ⟨hlaw, fun hi => ?_⟩
    obtain ⟨x, hx, ⟨q, hq, hst, hmem⟩, hchain⟩ := hwait hi
    obtain ⟨e', hq'⟩ := IntRec.of_plainBits (hint x).symm hq
    exact ⟨x, hx, ⟨_, hq', hst, hmem⟩, hchain⟩
  · obtain ⟨hn40, hrec⟩ := h.under n hn
    refine ⟨hn40, fun r hr => ?_⟩
    obtain ⟨e, hs⟩ := SegRec.of_plainBits (hseg n) hr
    exact hrec { r with err := e } hs
  · obtain ⟨e, hs⟩ := IntRec.of_plainBits (hint x) hq
    exact ⟨(h.interrupter x _ hs).1, hintErr x q hq⟩
  · obtain ⟨e, hs⟩ := IntRec.of_plainBits (hint x) hq
    obtain ⟨hnodup, htrip, hmem⟩ := h.waiters x _ hx hs
    refine ⟨hnodup, htrip, fun n hn => ?_⟩
    obtain ⟨hn40, hno, r, hr, hst⟩ := hmem n hn
    obtain ⟨e', hr'⟩ := SegRec.of_plainBits (hseg n).symm hr
    exact ⟨hn40, hno, _, hr', hst⟩
  · obtain ⟨e, hs⟩ := IntRec.of_plainBits (hint x) hp
    obtain ⟨e', hs'⟩ := IntRec.of_plainBits (hint y) hq
    exact h.sole x y { p with err := e } { q with err := e' } n hx hy hs hs'

end
end Sys2Proof.Machine
end

section
namespace Sys2Proof.Machine

/-! #### The laws where the records are free of errors, or no trip is allowed -/

/-- The laws of the records, in HOLD or with no inverted bit: a trip never meets a damaged record. -/
structure Calm (E : BitVec 32 → Prop) (ids undated : Nat → Prop) (out : List Nat) (s : State) : Prop
    extends Lawful E ids undated out s where
  quiet : (∀ e, E e → e = 0) ∨ s.mc.mode = .hold

/-- The record that comes to wait on interrupter x, with the chain entry of the visit (R121 to R124). -/
def waitingRecord (x : Nat) (o : ChainOutcome) (r : SegRec) : SegRec :=
  { r with
    state := .isolating
    verdict := r.verdict.map fun v => { v with chain := appendEntry ⟨x, o⟩ v.chain }
    err := 0 }

theorem segmentAt_waiting (n m x : Nat) (o : ChainOutcome) (s : State) :
    segmentAt (recordVisit n x o (setSegState n .isolating s)) m =
      if m = n then (segmentAt s n).map (waitingRecord x o) else segmentAt s m := by
  unfold recordVisit modifyChain setSegState
  rw [segmentAt_modifySegment]
  split
  · rw [segmentAt_modifySegment, if_pos rfl, Option.map_map]
    rfl
  · rw [segmentAt_modifySegment, if_neg ‹_›]

theorem getLast?_appendEntry (e : ChainEntry) (chain : List ChainEntry) : (appendEntry e chain).getLast? = some e := by
  simp [appendEntry]

theorem mem_waitersByChain {s : State} {n x : Nat} : n ∈ waitersByChain s x ↔
    n < 40 ∧ ∃ r v e, segmentAt s n = some r ∧ r.state = .isolating ∧ r.verdict = some v ∧ v.chain.getLast? = some e ∧ e.id = x ∧
      (e.outcome = .tripped ∨ e.outcome = .joined) := by
  unfold waitersByChain stateOfSegment newestEntry
  simp only [List.mem_filter, mem_allSegments, Bool.and_eq_true, Bool.or_eq_true, beq_iff_eq]
  refine and_congr_right fun _ => ?_
  cases segmentAt s n with
  | none => simp
  | some r =>
    cases hv : r.verdict with
    | none => simp [hv]
    | some v =>
      cases he : v.chain.getLast? with
      | none => simp [hv, he]
      | some e =>
        obtain ⟨i, o⟩ := e
        simp [hv, he]
        tauto

section
variable {E : BitVec 32 → Prop} {ids undated : Nat → Prop} {out : List Nat} {s t : State} {n x : Nat}

theorem Calm.of_lawful {ids' undated' : Nat → Prop} {out' : List Nat} (h : Calm E ids undated out s)
    (ht : Lawful E ids' undated' out' t) (hm : t.mc.mode = s.mc.mode) : Calm E ids' undated' out' t :=
  ⟨ht, hm ▸ h.quiet⟩

/-- The laws leave the sensors, the ring, the notices and the counts. -/
theorem keptOutside_calm : KeptOutside (Calm E ids undated out) where
  congr h ho := by
    simp only [observed, Prod.mk.injEq] at ho
    obtain ⟨-, -, hg, hi, -, -, -, hm⟩ := ho
    exact h.of_lawful (h.toLawful.congr hg hi) hm
  setSensor _ _ h := h.of_lawful (h.toLawful.congr rfl rfl) rfl
  dropSensor _ h := h.of_lawful (h.toLawful.congr rfl rfl) rfl
  setIndex _ _ h := h.of_lawful (h.toLawful.congr rfl rfl) rfl
  filterIndex _ h := h.of_lawful (h.toLawful.congr rfl rfl) rfl
  ring _ h := h.of_lawful (h.toLawful.congr rfl rfl) rfl
  queue _ h := h.of_lawful (h.toLawful.congr rfl rfl) rfl
  enqueue n h := h.of_lawful (h.toLawful.congr (enqueue_segments n _) (enqueue_interrupters n _)) (by rw [enqueue_mc])
  counts _ h := h.of_lawful (h.toLawful.congr rfl rfl) rfl

theorem Calm.noError (h : Calm E ids undated out s) (hq : (∀ e, E e → e = 0)) :
    (∀ n r, segmentAt s n = some r → r.err = 0) ∧ ∀ x q, interrupterAt s x = some q → q.err = 0 :=
  ⟨fun n r hr => hq _ (h.segment n r hr).1, fun x q hx => hq _ (h.interrupter x q hx).2⟩

variable (hE : Readable E)
include hE

/-! #### Segments read -/

omit hE in
theorem interrupterAt_leaveWaiters (n x : Nat) (s : State) :
    interrupterAt (leaveWaiters n s) x = (interrupterAt s x).map fun r => { r with waiters := r.waiters.filter (· != n) } := by
  have hrow : rowAt (leaveWaiters n s).interrupters x = (rowAt s.interrupters x).map fun p => match p with
      | .live r => .live { r with waiters := r.waiters.filter (· != n) }
      | .tableError => .tableError := by
    rw [← rowAt_map]
    congr 1
    refine List.map_congr_left fun p _ => ?_
    obtain ⟨k, _ | _⟩ := p <;> rfl
  unfold interrupterAt
  rw [hrow]
  cases rowAt s.interrupters x with
  | none => rfl
  | some p => cases p <;> rfl

theorem Calm.readSegment (n : Nat) (h : Calm E ids undated out s) : Calm E ids undated out (readSegment n s) := by
  have hmode : (Machine.readSegment n s).mc.mode = s.mc.mode := congrArg (·.mc.mode) (standing_readSegment s n)
  refine h.of_lawful ?_ hmode
  have hl := h.toLawful
  rcases readSegment_cases fun r hr => hE.2 _ (hl.segment n r hr).1 with he | ⟨r, hr, he | he⟩ | he <;> rw [he]
  · exact hl
  · exact hl.writeKept hE hr rfl rfl rfl fun _ => rfl
  · exact (hl.writeKept hE hr rfl rfl rfl fun _ => rfl).congr (by simp) (by simp)
  · refine hl.loseSegment (n := n) (leave := (·.filter (· != n))) (fun m => ?_) (fun x => ?_) fun _ _ _ _ => rfl
    · rw [segmentAt_congr (s := { s with segments := setRow s.segments n .quarantined }) (by simp [quarantineSegment])]
      unfold segmentAt
      rw [rowAt_setRow]
      by_cases hm : m = n <;> simp [hm]
    · rw [← interrupterAt_leaveWaiters]
      exact interrupterAt_congr (by simp [quarantineSegment, leaveWaiters]) x

theorem Calm.readSegments (h : Calm E ids undated out s) : Calm E ids undated out (readSegments s) :=
  forEach_kept (fun n _ ht => ht.readSegment hE n) h

theorem Calm.excludeFrom (slot n : Nat) (h : Calm E ids undated out s) : Calm E ids undated out (excludeFrom slot n s).1 := by
  unfold Machine.excludeFrom
  split
  · rename_i r hr
    split
    · exact h.of_lawful (h.toLawful.writeKept hE hr rfl rfl rfl fun _ => rfl) rfl
    · exact h
  · exact h

/-! #### Walks (R123, R124) -/

theorem Calm.modifyChain (f : List ChainEntry → List ChainEntry) (h : Calm E ids undated out s) (hn : n ∈ out) :
    Calm E ids undated out (modifyChain n f s) := by
  unfold Machine.modifyChain modifySegment
  split
  · rename_i r hr
    obtain ⟨hv, hs, hd⟩ := (h.under n hn).2 r hr
    exact h.of_lawful (h.toLawful.writeUnderWay hE hn ⟨by simpa using hv, hs, hd⟩) rfl
  · exact h

theorem Calm.settle {st : SegState} (h : Calm E ids undated (n :: out) s) (hno : n ∉ out) (hv : isVerdictState st = true)
    (hni : st ≠ .isolating) : Calm E ids undated out (setSegState n st s) := by
  unfold setSegState modifySegment
  split
  · rename_i r hr
    exact h.of_lawful (h.toLawful.settleEnded hE hno (r := { r with state := st }) ((h.under n (List.mem_cons_self ..)).2 r hr) hv hni) rfl
  · exact h.of_lawful (h.toLawful.settleLost ‹_›) rfl

/-- A segment under way joins the waiters of an interrupter that is TRIPPING then. -/
theorem Calm.joinWaiters {q q' : IntRec} {o : ChainOutcome} (h : Calm E ids undated (n :: out) s) (hno : n ∉ out)
    (hsome : ∃ r, segmentAt s n = some r) (hx : x < 16) (hq : interrupterAt s x = some q) (hw : q'.waiters = q.waiters ++ [n])
    (htrip : q'.state = .tripping) (ho : o = .tripped ∨ o = .joined) :
    Calm E ids undated out (recordVisit n x o (setSegState n .isolating (writeInterrupter x q' s))) := by
  obtain ⟨r, hr⟩ := hsome
  obtain ⟨hv, hs, hd⟩ := (h.under n (List.mem_cons_self ..)).2 r hr
  obtain ⟨v, hv⟩ := Option.ne_none_iff_exists'.mp hv
  have hlaw : Lawful E ids undated out (recordVisit n x o (setSegState n .isolating (writeInterrupter x q' s))) := by
    refine h.toLawful.settleWaiting (r := waitingRecord x o r) (q' := { q' with err := 0 }) hno hx hq
      ⟨by simp [waitingRecord, hv], hs, hd⟩ rfl ?_ hw htrip hE.1 hE.1 (fun m => ?_) fun y => ?_
    · exact ⟨_, ⟨x, o⟩, by simp [waitingRecord, hv]; rfl, getLast?_appendEntry _ _, rfl, ho⟩
    · have hkept (m : Nat) : segmentAt (writeInterrupter x q' s) m = segmentAt s m := rfl
      rw [segmentAt_waiting, hkept, hkept, hr]
      rfl
    · rw [← interrupterAt_writeInterrupter]
      exact interrupterAt_congr (by simp [recordVisit, Machine.modifyChain, setSegState]) y
  exact h.of_lawful hlaw (congrArg (·.mc.mode) ((standing_recordVisit _ n x o).trans (standing_setSegState _ n .isolating)))

theorem Calm.startTrip {q : IntRec} (c : TripCause) (h : Calm E ids undated (n :: out) s) (hno : n ∉ out)
    (hsome : ∃ r, segmentAt s n = some r) (hx : x < 16) (hq : interrupterAt s x = some q) (hst : q.state ≠ .tripping) :
    Calm E ids undated out (startTrip x q n c s) := by
  have hjoin := h.joinWaiters hE (q' := tripped n s q) (o := .tripped) hno hsome hx hq
    (by simp [tripped, h.waiters_nil hx hq hst]) rfl (.inl rfl)
  unfold Machine.startTrip
  refine keptOutside_calm.raiseNow _ ?_
  cases q.kind with
  | loc ch => exact keptOutside_calm.congr hjoin rfl
  | remote => exact hjoin

omit hE in
theorem segmentAt_recordVisit_some {o : ChainOutcome} (h : ∃ r, segmentAt s n = some r) :
    ∃ r, segmentAt (recordVisit n x o s) n = some r := by
  obtain ⟨r, hr⟩ := h
  simp [recordVisit, Machine.modifyChain, segmentAt_modifySegment, hr]

/-- A walk ends with its segment waiting on an interrupter or in ISOLATION_FAILED; without damaged records nothing else moves. -/
theorem Calm.walkWith (e : Escalation) (c : TripCause) (bs : List Nat) (hq : ∀ e, E e → e = 0)
    (h : Calm E ids undated (n :: out) s) (hno : n ∉ out) (hsome : ∃ r, segmentAt s n = some r) :
    Calm E ids undated out (walkWith e n c bs s) := by
  induction bs generalizing s with
  | nil => exact h.settle hE hno rfl (by simp)
  | cons b bs ih =>
    have hon (x : Nat) (o : ChainOutcome) : Calm E ids undated out (Machine.walkWith e n c bs (recordVisit n x o s)) :=
      ih (h.modifyChain hE _ (List.mem_cons_self ..)) (segmentAt_recordVisit_some hsome)
    unfold Machine.walkWith
    split
    · exact ih h hsome
    · rename_i x hon'
      have hx : x < 16 := mem_allInterrupters.mp (List.mem_of_find?_eq_some hon')
      rw [readInterrupterWith_noError e ((h.noError hq).2 x)]
      dsimp only
      split
      · exact hon x _
      · rename_i q hqx
        split
        · exact h.joinWaiters hE hno hsome hx hqx rfl ‹_› (.inr rfl)
        · exact hon x _
        · exact hon x _
        all_goals
          split
          · exact h.startTrip hE c hno hsome hx hqx (by simp_all)
          · exact hon x _

end
end Sys2Proof.Machine
end

section
namespace Sys2Proof.Machine

section
variable {E : BitVec 32 → Prop} {ids undated : Nat → Prop} {out : List Nat} {s t : State} {n x : Nat}
variable (hE : Readable E)
include hE

/-! #### Escalation (R135, R136, R144) -/

theorem Calm.escalateOne {w : Nat → TripCause → List Nat → State → State} (x : Nat) (c : FailReason) (b : Nat)
    (hw : (∀ e, E e → e = 0) → ∀ c' bs t, Calm E ids undated (n :: out) t → (∃ r, segmentAt t n = some r) →
      Calm E ids undated out (w n c' bs t))
    (h : Calm E ids undated (n :: out) s) (hno : n ∉ out) : Calm E ids undated out (escalateOne w x c b n s) := by
  have h1 := h.readSegments hE
  unfold Machine.escalateOne
  generalize Machine.readSegments s = s1 at h1 ⊢
  dsimp only
  split
  · exact h1.of_lawful (h1.toLawful.settleLost ‹_›) rfl
  · rename_i r hr
    have h2 := h1.modifyChain hE (setNewest .escalatedFrom) (List.mem_cons_self ..)
    have hsome : ∃ r, segmentAt (Machine.modifyChain n (setNewest .escalatedFrom) s1) n = some r := by
      simp [Machine.modifyChain, segmentAt_modifySegment, hr]
    generalize Machine.modifyChain n (setNewest .escalatedFrom) s1 = s2 at h2 hsome ⊢
    refine keptOutside_calm.noteIsolationFailed n (keptOutside_calm.raiseNow _ ?_)
    split
    · rename_i htrips
      rcases h2.quiet with hq | hhold
      · exact hw hq _ _ _ h2 hsome
      · simp [tripsAllowed, hhold] at htrips
    · exact h2.settle hE hno rfl (by simp)

/-- The escalation of waiters ends the walk of each. -/
theorem Calm.escalateWith (fuel x : Nat) (c : FailReason) (b : Nat) {ws : List Nat} (hnodup : ws.Nodup)
    (h : Calm E ids undated ws s) : Calm E ids undated [] (escalateWith (fuel + 1) x c b ws s) := by
  unfold Machine.escalateWith
  split
  · rename_i hws
    rw [List.isEmpty_iff.mp hws] at h
    exact keptOutside_calm.raiseNow _ h
  · clear * - hE hnodup h
    induction ws generalizing s with
    | nil => exact h
    | cons n ws ih =>
      obtain ⟨hno, hnodup⟩ := List.nodup_cons.mp hnodup
      rw [forEach_cons]
      refine ih hnodup (h.escalateOne hE x c b (fun hq c' bs t ht hsome => ?_) hno)
      exact ht.walkWith hE _ c' bs hq hno hsome

/-! #### Interrupters read (R144, R162) -/

omit hE in
/-- What a read of an interrupter record with at most two inverted bits does (R162). -/
theorem readInterrupterWith_within (e : Escalation) (h : ∀ r, interrupterAt s x = some r → invertedBits r.err ≤ 2) :
    readInterrupterWith e x s = s ∨
    ∃ r, interrupterAt s x = some r ∧
      (readInterrupterWith e x s = writeInterrupter x r s ∨
        readInterrupterWith e x s = noteCorrection interrupterBank (writeInterrupter x r s) ∨
        readInterrupterWith e x s = quarantineInterrupter e x r (latch .eccDoubleSeen s)) := by
  unfold readInterrupterWith
  split
  · exact .inl rfl
  · rename_i r hr
    have hb := h r hr
    rcases (by omega : invertedBits r.err = 0 ∨ invertedBits r.err = 1 ∨ invertedBits r.err = 2) with h0 | h1 | h2
    · by_cases hz : r.err = 0
      · exact .inl (by simp [hz])
      · exact .inr ⟨r, hr, .inl (by simpa [readResult, h0] using fun e => absurd e hz)⟩
    · exact .inr ⟨r, hr, .inr (.inl (by simp [readResult_one h1, h1]))⟩
    · exact .inr ⟨r, hr, .inr (.inr (by simp [readResult_two h2]))⟩

omit hE in
/-- The segments whose newest chain entry says so are those that wait on the interrupter (R121, R122). -/
theorem Lawful.mem_waitersByChain (h : Lawful E ids undated [] s) :
    n ∈ waitersByChain s x ↔ x < 16 ∧ ∃ q, interrupterAt s x = some q ∧ n ∈ q.waiters := by
  rw [Machine.mem_waitersByChain]
  constructor
  · rintro ⟨hn, r, v, e, hr, hst, hv, he, hid, -⟩
    obtain ⟨y, hy, ⟨q, hq, -, hmem⟩, v', e', hv', he', hid', -⟩ := (h.law n r hn (by simp) hr).2 hst
    rw [hv] at hv'
    cases hv'
    rw [he] at he'
    cases he'
    obtain rfl : x = y := hid.symm.trans hid'
    exact ⟨hy, q, hq, hmem⟩
  · rintro ⟨hx, q, hq, hmem⟩
    obtain ⟨hn, -, r, hr, hst⟩ := (h.waiters x q hx hq).2.2 n hmem
    obtain ⟨y, hy, ⟨p, hp, -, hmem'⟩, v, e, hv, he, hid, ho⟩ := (h.law n r hn (by simp) hr).2 hst
    obtain rfl : x = y := h.sole x y q p n hx hy hq hp hmem hmem'
    exact ⟨hn, r, v, e, hr, hst, hv, he, hid, ho⟩

theorem Calm.quarantineInterrupter {r : IntRec} (h : Calm E ids undated [] s) (hr : interrupterAt s x = some r) :
    Calm E ids undated [] (quarantineInterrupter escalate x r s) := by
  have hl := h.toLawful
  have hrow (y : Nat) (hyx : y ≠ x) :
      interrupterAt { s with interrupters := setRow s.interrupters x .tableError } y = interrupterAt s y := by
    unfold interrupterAt
    rw [rowAt_setRow, if_neg hyx]
  have hlost (q : IntRec) : interrupterAt { s with interrupters := setRow s.interrupters x .tableError } x ≠ some q := by
    rw [Ne, interrupterAt_row, rowAt_setRow, if_pos rfl]
    simp
  unfold Machine.quarantineInterrupter
  extract_lets t
  have hseg (m : Nat) : segmentAt t m = segmentAt s m := segmentAt_congr (raiseNow_segments _ _) m
  split
  · refine Calm.escalateWith hE _ _ _ _ (List.nodup_range.filter _) (keptOutside_calm.raiseNow _ (h.of_lawful ?_ rfl))
    refine hl.releaseWaiters (x := x) rfl hrow (fun q hq => absurd hq (hlost q)) fun n => ?_
    rw [← hl.mem_waitersByChain]
    unfold waitersByChain stateOfSegment newestEntry
    simp only [hseg]
  · refine keptOutside_calm.raiseNow _ (h.of_lawful ?_ rfl)
    refine hl.changeIdle (x := x) rfl hrow (fun q hq => absurd hq (hlost q)) fun q hx hq => ?_
    rw [hr] at hq
    cases hq
    exact hl.waiters_nil hx hr ‹_›

theorem Calm.readInterrupter (x : Nat) (h : Calm E ids undated [] s) : Calm E ids undated [] (readInterrupter x s) := by
  have hl := h.toLawful
  rcases readInterrupterWith_within escalate fun r hr => hE.2 _ (hl.interrupter x r hr).2 with
    he | ⟨r, hr, he | he | he⟩ <;> rw [Machine.readInterrupter, he]
  · exact h
  · exact h.of_lawful (hl.writeWaiting hE hr rfl fun _ => id) rfl
  · exact keptOutside_calm.noteCorrection _ (h.of_lawful (hl.writeWaiting hE hr rfl fun _ => id) rfl)
  · exact Calm.quarantineInterrupter hE (keptOutside_calm.latch _ h) hr

omit hE in
/-- The reads keep the laws. -/
theorem keptByReads_calm (hE : Readable E) : KeptByReads (Calm E ids undated []) where
  toKeptOutside := keptOutside_calm
  readSegment n h := h.readSegment hE n
  readInterrupter x h := h.readInterrupter hE x
  excludeFrom slot n h := h.excludeFrom hE slot n

/-! #### Opening and failing (R128, R133, R135) -/

/-- A TRIPPING interrupter is written without its waiters, which come under way. -/
theorem Calm.release {r r' : IntRec} (h : Calm E ids undated [] s) (hx : x < 16) (hr : interrupterAt s x = some r)
    (hw : r'.waiters = []) : Calm E ids undated r.waiters (writeInterrupter x r' s) := by
  have hint (y : Nat) := interrupterAt_writeInterrupter x y r' s
  refine h.of_lawful (h.toLawful.releaseWaiters (x := x) rfl (fun y hyx => by rw [hint, if_neg hyx]) (fun q hq => ?_) fun n => ?_) rfl
  · rw [hint, if_pos rfl] at hq
    cases hq
    exact ⟨(h.interrupter x r hr).1, hE.1, hw⟩
  · simp [hx, hr]

theorem Calm.failTripping (c : FailReason) (h : Calm E ids undated [] s) (hx : x < 16) :
    Calm E ids undated [] (failTripping x c s) := by
  unfold Machine.failTripping
  split
  · exact h
  · rename_i r hr
    exact Calm.escalateWith hE _ _ _ _ (h.waiters x r hx hr).1 (h.release hE hx hr rfl)

/-- The waiters of an interrupter that opened are ISOLATED (R128). -/
theorem Calm.isolateWaiters {ws : List Nat} (hnodup : ws.Nodup) (h : Calm E ids undated ws s) : Calm E ids undated []
    (forEach ws (fun n t => Machine.modifyChain n (setNewest .opened) (setSegState n .isolated t)) s) := by
  induction ws generalizing s with
  | nil => exact h
  | cons n ws ih =>
    obtain ⟨hno, hnodup⟩ := List.nodup_cons.mp hnodup
    have h1 : Calm E ids undated ws (setSegState n .isolated s) := h.settle hE hno rfl (by simp)
    have hst {r : SegRec} (hr : segmentAt (setSegState n .isolated s) n = some r) : r.state = .isolated := by
      rw [setSegState, segmentAt_modifySegment, if_pos rfl, Option.map_eq_some_iff] at hr
      obtain ⟨p, -, rfl⟩ := hr
      rfl
    rw [forEach_cons]
    refine ih hnodup ?_
    generalize setSegState n .isolated s = t at h1 hst ⊢
    unfold Machine.modifyChain modifySegment
    split
    · rename_i r hr
      refine h1.of_lawful (h1.toLawful.writeIdle hE hno (fun q hq => by simp [hst hq]) (fun hn => ?_) (by simp [hst hr])
        (h1.segment n r hr).2) rfl
      simpa [segmentLaw] using (h1.law n r hn hno hr).1
    · exact h1

theorem Calm.openInterrupter (o : OpenSource) (f : FrameNo) (h : Calm E ids undated [] s) (hx : x < 16) :
    Calm E ids undated [] (openInterrupter x o f s) := by
  unfold Machine.openInterrupter
  split
  · exact h
  · rename_i r hr
    exact keptOutside_calm.raiseAt _ _ (Calm.isolateWaiters hE (h.waiters x r hx hr).1 (h.release hE hx hr rfl))

end
end Sys2Proof.Machine
end

section
namespace Sys2Proof.Machine

section
variable {E : BitVec 32 → Prop} {ids undated : Nat → Prop} {out : List Nat} {s t : State} {n x : Nat}

theorem Calm.weaken {undated' : Nat → Prop} (h : Calm E ids undated out s) (hu : ∀ n, undated' n → undated n) :
    Calm E ids undated' out s :=
  h.of_lawful (h.toLawful.rebound (fun n r hr => ⟨(h.segment n r hr).1, fun hn => (h.segment n r hr).2 (hu n hn)⟩) h.interrupter) rfl

/-- A segment without a deadline timer running joins the undated ones. -/
theorem Calm.undate {undated' : Nat → Prop} (h : Calm E ids undated out s) (hu : ∀ m, undated' m → undated m ∨ m = n)
    (hnone : ∀ r, segmentAt s n = some r → r.deadline = none) : Calm E ids undated' out s := by
  refine h.of_lawful (h.toLawful.rebound (fun m r hr => ⟨(h.segment m r hr).1, fun hm => ?_⟩) h.interrupter) rfl
  rcases hu m hm with hm | rfl
  · exact (h.segment m r hr).2 hm
  · exact hnone r hr

variable (hE : Readable E)
include hE

/-! #### Confirmation (R89, R125) -/

theorem Calm.confirmWalk (k : Confirmation) (h : Calm E ids undated [] s) (hn : n < 40) (hu : undated n) :
    Calm E ids undated [] (confirmWalk n k s) := by
  have h1 := h.readSegments hE
  unfold Machine.confirmWalk
  generalize Machine.readSegments s = s1 at h1 ⊢
  dsimp only
  split
  · exact h1
  · rename_i r hr
    split
    · exact h1
    · rename_i d hd
      obtain ⟨⟨-, hsus, -⟩, -⟩ := h1.law n r hn (by simp) hr
      have hst : r.state = .suspect := hsus.mp (by simp [hd])
      have h2 : Calm E ids undated [n] (writeSegment n { r with verdict := some (verdictOf r d k), suspect := none } s1) := by
        refine h1.of_lawful (h1.toLawful.beginWalk hE hn (fun q hq => ?_) ⟨by simp, rfl, (h1.segment n r hr).2 hu⟩) rfl
        rw [hr] at hq
        cases hq
        simp [hst]
      have hsome : ∃ r', segmentAt (writeSegment n { r with verdict := some (verdictOf r d k), suspect := none } s1) n = some r' :=
        ⟨_, by rw [segmentAt_writeSegment, if_pos rfl]⟩
      generalize writeSegment n _ s1 = s2 at h2 hsome ⊢
      refine keptOutside_calm.noteIsolationFailed n (keptOutside_calm.noteVerdict n k.arc ?_)
      split
      · rename_i htrips
        rcases h2.quiet with hq | hhold
        · exact h2.walkWith hE _ _ _ hq (by simp) hsome
        · simp [tripsAllowed, hhold] at htrips
      · exact h2.settle hE (by simp) rfl (by simp)

/-! #### Deadlines (R72, R99 to R101) -/

theorem Calm.stopDeadline {r : SegRec} (passed : Bool) (h : Calm E ids undated [] s) (hr : segmentAt s n = some r) :
    Calm E ids (fun m => undated m ∨ m = n) [] (writeSegment n { r with deadline := none, deadlinePassed := passed } s) := by
  have hkept : Calm E ids undated [] (writeSegment n { r with deadline := none, deadlinePassed := passed } s) :=
    h.of_lawful (h.toLawful.writeKept hE hr rfl rfl rfl (by simp +contextual)) rfl
  refine hkept.undate (n := n) (fun m => id) fun q hq => ?_
  rw [segmentAt_writeSegment, if_pos rfl] at hq
  cases hq
  rfl

theorem Calm.passDeadline {r : SegRec} (h : Calm E ids undated [] s) (hr : segmentAt s n = some r) :
    Calm E ids undated [] (passDeadline n r s) := by
  have h1 := (h.stopDeadline hE true hr).weaken (undated' := undated) fun _ => .inl
  unfold Machine.passDeadline
  split
  · exact keptOutside_calm.raiseNow _ h1
  · exact h1

theorem Calm.deadlineExpires (h : Calm E ids undated [] s) (hn : n < 40) : Calm E ids undated [] (deadlineExpires n s) := by
  unfold Machine.deadlineExpires
  split
  · exact h
  · split
    · exact h
    · rename_i due _
      have h1 := Calm.readSegment hE n (keptOutside_calm.arriveAt due h)
      extract_lets s1
      split
      · exact h1
      · rename_i r hr
        split
        · exact ((h1.stopDeadline hE _ hr).confirmWalk hE _ hn (.inr rfl)).weaken fun _ => .inl
        · exact h1.passDeadline hE hr

/-- Step 2 of the completion names the segments that expire there, their timers not running. -/
theorem Calm.deadlineStart (p : Pass) (h : Calm E ids undated [] s) (hu : ¬ undated n) :
    Calm E ids (fun m => undated m ∨ m ∈ (deadlineStart p n s).2) [] (deadlineStart p n s).1 := by
  have h1 := h.readSegment hE n
  unfold Machine.deadlineStart
  extract_lets s1
  split
  · exact h1.weaken fun m => by simp
  · rename_i r hr
    split
    · rename_i hstart
      simp only [Bool.and_eq_true, Option.isNone_iff_eq_none, decide_eq_true_eq] at hstart
      obtain ⟨⟨⟨hst, -⟩, -⟩, hnone⟩ := hstart
      extract_lets left
      split
      · refine Calm.weaken (undated := undated) (h1.of_lawful (h1.toLawful.writeIdle hE (by simp) (fun q hq => ?_) (fun hn => ?_)
          (by simp [hst]) fun hu' => absurd hu' hu) rfl) fun m => by simp
        · rw [hr] at hq
          cases hq
          simp [hst]
        · obtain ⟨hv, hs, -⟩ := (h1.law n r hn (by simp) hr).1
          exact ⟨hv, hs, fun _ => hst⟩
      · split
        · refine h1.undate (n := n) (fun m => by simp) fun q hq => ?_
          rw [hr] at hq
          cases hq
          exact hnone
        · exact (h1.passDeadline hE hr).weaken fun m => by simp
    · exact h1.weaken fun m => by simp

omit hE in
theorem deadlineStart_expired (p : Pass) {m : Nat} (h : m ∈ (Machine.deadlineStart p n s).2) : m = n := by
  unfold Machine.deadlineStart at h
  dsimp only at h
  split at h
  · cases h
  · split at h
    · split at h
      · cases h
      · split at h
        · simpa using h
        · cases h
    · cases h

theorem Calm.deadlineStarts (p : Pass) {ns : List Nat} (hnodup : ns.Nodup) (h : Calm E ids undated [] s)
    (hns : ∀ n ∈ ns, n < 40 ∧ ¬ undated n) :
    Calm E ids (fun m => undated m ∨ m ∈ (deadlineStarts p ns s).2) [] (deadlineStarts p ns s).1 := by
  induction ns generalizing s undated with
  | nil => exact h.weaken fun m => by simp [Machine.deadlineStarts]
  | cons n ns ih =>
    obtain ⟨hno, hnodup⟩ := List.nodup_cons.mp hnodup
    have hu := (hns n (List.mem_cons_self ..)).2
    have hrest := ih hnodup (h.deadlineStart hE p hu) fun m hm => by
      refine ⟨(hns m (List.mem_cons_of_mem n hm)).1, ?_⟩
      rintro (hum | hexp)
      · exact (hns m (List.mem_cons_of_mem n hm)).2 hum
      · exact hno (deadlineStart_expired p hexp ▸ hm)
    exact hrest.weaken fun m => by simp [Machine.deadlineStarts, or_assoc]

theorem Calm.stopConfirmed (p : Pass) {ns : List Nat} (h : Calm E ids undated [] s) (hns : ∀ n ∈ ns, n < 40) :
    Calm E ids (fun m => undated m ∨ (m ∈ ns ∧ (rowAt p.confirmed m).isSome)) [] (forEach ns (fun n t =>
      if (rowAt p.confirmed n).isSome && isSuspect t n then modifySegment n (fun r => { r with deadline := none }) t else t) s) := by
  induction ns generalizing s undated with
  | nil => exact h.weaken fun m => by simp
  | cons n ns ih =>
    have hfirst : Calm E ids (fun m => undated m ∨ (m = n ∧ (rowAt p.confirmed m).isSome)) []
        (if (rowAt p.confirmed n).isSome && isSuspect s n then modifySegment n (fun r => { r with deadline := none }) s else s) := by
      split
      · unfold modifySegment
        split
        · rename_i r hr
          exact (h.stopDeadline hE _ hr).weaken fun m => by tauto
        · refine h.undate (n := n) (fun m => by tauto) fun r hr => ?_
          simp_all
      · rename_i hnot
        by_cases hconf : (rowAt p.confirmed n).isSome
        · refine h.undate (n := n) (fun m => by tauto) fun r hr => ?_
          obtain ⟨-, -, hd⟩ := (h.law n r (hns n (List.mem_cons_self ..)) (by simp) hr).1
          by_contra hne
          simp [hconf, isSuspect, stateOfSegment, hr, hd hne] at hnot
        · refine h.weaken fun m => ?_
          rintro (hm | ⟨rfl, hm⟩)
          · exact hm
          · exact absurd hm hconf
    rw [forEach_cons]
    exact (ih hfirst fun m hm => hns m (List.mem_cons_of_mem n hm)).weaken fun m => by simp only [List.mem_cons]; tauto

theorem Calm.stepThreeWalk (p : Pass) (ex : List Nat) (h : Calm E ids undated [] s) (hn : n < 40)
    (hex : n ∈ ex → undated n) (hconf : (rowAt p.confirmed n).isSome → undated n) :
    Calm E ids undated [] (stepThreeWalk p ex n s) := by
  unfold Machine.stepThreeWalk
  split
  · exact h
  · split
    · rename_i hin
      exact h.confirmWalk hE _ hn (hex (by simpa using hin))
    · split
      · rename_i k hk
        exact h.confirmWalk hE _ hn (hconf (by simp [hk]))
      · exact h

theorem Calm.proofStep (p : Pass) (h : Calm E ids undated [] s) (hx : x < 16) : Calm E ids undated [] (proofStep p x s) := by
  have h1 := h.readInterrupter hE x
  unfold Machine.proofStep
  extract_lets s1
  split
  · exact h1
  · split
    · extract_lets s2
      have h2 : Calm E ids undated [] s2 := (keptByReads_calm hE).readSensor _ h1
      split
      · exact h2.openInterrupter hE _ _ hx
      · exact h2
    · exact h1

theorem Calm.completePass (h : Calm E ids (fun _ => False) [] s) : Calm E ids (fun _ => False) [] (completePass s) := by
  unfold Machine.completePass
  split
  · rename_i p _
    have h1 : Calm E ids (fun _ => False) [] (raiseStageNotices p s) := keptOutside_calm.raiseAll _ _ (keptOutside_calm.raiseAll _ _ h)
    have h2 := h1.deadlineStarts hE p (ns := allSegments) List.nodup_range fun n hn => ⟨mem_allSegments.mp hn, id⟩
    unfold completionSteps
    dsimp only
    generalize Machine.deadlineStarts p allSegments _ = d at h2 ⊢
    have h3 := h2.stopConfirmed hE p (ns := allSegments) fun n hn => mem_allSegments.mp hn
    refine keptOutside_calm.leaveFrame (keptOutside_calm.noteCorrections _ (keptOutside_calm.raiseAll _ _ ?_))
    refine forEach_keeps (fun x hx _ ht => Calm.proofStep hE p ht (mem_allInterrupters.mp hx)) ?_
    refine Calm.weaken (forEach_keeps (fun n hn _ ht => Calm.stepThreeWalk hE p _ ht (mem_allSegments.mp hn) (fun hex => .inl (.inr hex))
      fun hc => .inr ⟨hn, hc⟩) h3) fun m => False.elim
  · exact h

theorem Calm.confirmExpires (h : Calm E ids undated [] s) (hx : x < 16) : Calm E ids undated [] (confirmExpires x s) := by
  unfold Machine.confirmExpires
  split
  · exact h
  · split
    · exact h
    · rename_i due _
      have h1 := Calm.readInterrupter hE x (keptOutside_calm.arriveAt due h)
      extract_lets s1
      split
      · exact h1
      · split
        · exact h1.failTripping hE _ hx
        · exact h1

end
end Sys2Proof.Machine
end

section
namespace Sys2Proof.Machine

/-! #### Records of segments at rest -/

theorem segmentLaw.verdict_none {r : SegRec} (h : segmentLaw r) (hst : isVerdictState r.state = false) : r.verdict = none := by
  by_contra hne
  simp [h.1.mp hne] at hst

/-- Without a verdict part, suspect details and a deadline, a record meets its law in NORMAL, DEENERGIZED and SETTLING. -/
theorem segmentLaw_of_plain {r : SegRec} (hst : isVerdictState r.state = false) (hns : r.state ≠ .suspect) (hv : r.verdict = none)
    (hs : r.suspect = none) (hd : r.deadline = none) : segmentLaw r :=
  ⟨by simp [hv, hst], by simp [hs, hns], by simp [hd]⟩

/-- With suspect details and no verdict part, a record meets its law in SUSPECT. -/
theorem segmentLaw_of_suspect {r : SegRec} (hst : r.state = .suspect) (hv : r.verdict = none) (hs : r.suspect ≠ none) : segmentLaw r :=
  ⟨by simp [hv, hst, isVerdictState], by simp [hs, hst], fun _ => hst⟩

/-- In NORMAL, DEENERGIZED and SETTLING a record holds neither suspect details nor a deadline. -/
theorem segmentLaw.plain {r : SegRec} (h : segmentLaw r) (hns : r.state ≠ .suspect) : r.suspect = none ∧ r.deadline = none := by
  obtain ⟨-, hs, hd⟩ := h
  exact ⟨by_contra fun hne => hns (hs.mp hne), by_contra fun hne => hns (hd hne)⟩

theorem segmentLaw_testedRecord {s : State} {sh : List Nat} {f : FrameNo} {r : SegRec} (h : segmentLaw r) :
    segmentLaw (testedRecord s sh f r) := by
  unfold testedRecord
  dsimp only
  split
  · rename_i hst
    refine segmentLaw_of_suspect hst (h.verdict_none (by simp [hst, isVerdictState])) ?_
    simpa using h.2.1.mpr hst
  · rename_i hst
    obtain ⟨hs, hd⟩ := h.plain hst
    obtain ⟨hv, -⟩ := h
    exact ⟨hv, by simp [hs, hst], by simp [hd]⟩

theorem testedRecord_state (s : State) (sh : List Nat) (f : FrameNo) (r : SegRec) : (testedRecord s sh f r).state = r.state := by
  unfold testedRecord
  dsimp only
  split <;> rfl

theorem testedRecord_deadline {s : State} {sh : List Nat} {f : FrameNo} {r : SegRec} (h : r.deadline = none) :
    (testedRecord s sh f r).deadline = none := by
  unfold testedRecord
  dsimp only
  split
  · split <;> simp [h]
  · exact h

section
variable {E : BitVec 32 → Prop} {ids undated : Nat → Prop} {s t : State} {n x : Nat}
variable (hE : Readable E)
include hE

/-- A record at rest gives way to another. -/
theorem Calm.writeIdle {r : SegRec} (h : Calm E ids undated [] s)
    (hold : ∀ q, segmentAt s n = some q → q.state ≠ .isolating) (hlaw : n < 40 → segmentLaw r) (hst : r.state ≠ .isolating)
    (hu : undated n → r.deadline = none) : Calm E ids undated [] (writeSegment n r s) :=
  h.of_lawful (h.toLawful.writeIdle hE (by simp) hold hlaw hst hu) rfl

/-- The record that stands at n gives way to another, neither ISOLATING. -/
theorem Calm.replace {r r' : SegRec} (h : Calm E ids undated [] s) (hr : segmentAt s n = some r) (hold : r.state ≠ .isolating)
    (hlaw : segmentLaw r → segmentLaw r') (hst : r'.state ≠ .isolating) (hd : r.deadline = none → r'.deadline = none) :
    Calm E ids undated [] (writeSegment n r' s) := by
  refine h.writeIdle hE (fun q hq => ?_) (fun hn => hlaw (h.law n r hn (by simp) hr).1) hst fun hu => hd ((h.segment n r hr).2 hu)
  rw [hr] at hq
  cases hq
  exact hold

/-! #### Stage 2 (R79 to R87) -/

theorem Calm.stage2Segment (n : Nat) (h : Calm E ids undated [] s) : Calm E ids undated [] (stage2Segment n s) := by
  have h1 := h.readSegment hE n
  unfold Machine.stage2Segment
  extract_lets s1
  split
  · rename_i p r _ hr
    split
    · rename_i htest
      have hni : r.state ≠ .isolating := by
        intro he
        simp [testedState, he] at htest
      exact keptOutside_calm.congr (h1.replace hE hr hni segmentLaw_testedRecord (by rwa [testedRecord_state]) testedRecord_deadline) rfl
    · exact h1
  · exact h1

theorem Calm.stage2 (h : Calm E ids undated [] s) : Calm E ids undated [] (stage2 s) :=
  forEach_kept (fun n _ ht => ht.stage2Segment hE n) h

/-! #### Stage 3 (R88 to R94) -/

omit hE in
theorem Calm.queueSegmentNotices (n : Nat) (bs : List NoticeBody) (h : Calm E ids undated [] s) :
    Calm E ids undated [] (queueSegmentNotices n bs s) := keptOutside_calm.congr h rfl

theorem Calm.deenergize {r : SegRec} (h : Calm E ids undated [] s) (hr : segmentAt s n = some r)
    (hst : isVerdictState r.state = false) : Calm E ids undated [] (writeSegment n (deenergize r) s) := by
  refine h.replace hE hr (fun he => ?_) (fun hlaw => ?_) (by simp [Machine.deenergize]) fun _ => rfl
  · simp [he, isVerdictState] at hst
  · exact segmentLaw_of_plain rfl (by simp [Machine.deenergize]) (hlaw.verdict_none hst) rfl rfl

theorem Calm.clearSuspect {r : SegRec} (h : Calm E ids undated [] s) (hr : segmentAt s n = some r) (hst : r.state = .suspect) :
    Calm E ids undated [] (modifySegment n clearSuspect s) := by
  unfold modifySegment
  rw [hr]
  refine h.replace hE hr (by simp [hst]) (fun hlaw => ?_) (by simp [Machine.clearSuspect]) fun _ => rfl
  exact segmentLaw_of_plain rfl (by simp [Machine.clearSuspect]) (hlaw.verdict_none (by simp [hst, isVerdictState])) rfl rfl

theorem Calm.judgeSegment (p : Pass) {r : SegRec} (h : Calm E ids undated [] s) (hr : segmentAt s n = some r) :
    Calm E ids undated [] (judgeSegment p n r s) := by
  unfold Machine.judgeSegment
  extract_lets w enters s1
  have h1 : Calm E ids undated [] s1 := by
    unfold s1
    split
    · rename_i henters
      have hnormal : r.state = .normal := by
        by_contra hne
        simp [enters, hne] at henters
      refine Calm.queueSegmentNotices n _ (h.replace hE hr (by simp [hnormal]) (fun hlaw => ?_) (by simp [enterSuspect]) (by exact id))
      exact segmentLaw_of_suspect rfl (hlaw.verdict_none (by simp [hnormal, isVerdictState])) (by simp [enterSuspect])
    · exact h
  have hsus (hs : (enters || r.state == .suspect) = true) : ∃ q, segmentAt s1 n = some q ∧ q.state = .suspect := by
    unfold s1
    split
    · exact ⟨{ enterSuspect p.frame w r with err := 0 }, (segmentAt_writeSegment n n _ s).trans (if_pos rfl), rfl⟩
    · exact ⟨r, hr, by simp_all⟩
  split
  · exact keptOutside_calm.modifyPass _ h1
  · split
    · rename_i hclear
      rw [Bool.and_eq_true] at hclear
      obtain ⟨q, hq, hqs⟩ := hsus hclear.1
      exact (h1.clearSuspect hE hq hqs).queueSegmentNotices n _
    · exact h1

theorem Calm.stage3Segment (n : Nat) (h : Calm E ids undated [] s) : Calm E ids undated [] (stage3Segment n s) := by
  have h1 := h.readSegment hE n
  unfold Machine.stage3Segment
  extract_lets s1
  split
  · rename_i p r _ hr
    have hrunning (hst : r.state = .normal ∨ r.state = .suspect) : Calm E ids undated [] (stage3Running p n r s1) := by
      unfold stage3Running
      split
      · exact (h1.deenergize hE hr (by rcases hst with hst | hst <;> simp [hst, isVerdictState])).queueSegmentNotices n _
      · exact h1.judgeSegment hE p hr
    split
    · exact h1
    · split
      · exact hrunning (.inl ‹_›)
      · exact hrunning (.inr ‹_›)
      · rename_i hst
        unfold stage3Deenergized
        split
        · refine Calm.queueSegmentNotices n _ (h1.replace hE hr (by simp [hst]) (fun hlaw => ?_) ?_ (by exact id))
          · obtain ⟨hs, hd⟩ := hlaw.plain (by simp [hst])
            have hv := hlaw.verdict_none (by simp [hst, isVerdictState])
            exact segmentLaw_of_plain (by dsimp only; split <;> rfl) (by dsimp only; split <;> simp) hv hs hd
          · dsimp only
            split <;> simp
        · exact h1
      · rename_i hst
        unfold stage3Settling
        split
        · exact h1
        · split
          · exact (h1.deenergize hE hr (by simp [hst, isVerdictState])).queueSegmentNotices n _
          · refine h1.replace hE hr (by simp [hst]) (fun hlaw => ?_) ?_ (by exact id)
            · obtain ⟨hs, hd⟩ := hlaw.plain (by simp [hst])
              have hv := hlaw.verdict_none (by simp [hst, isVerdictState])
              exact segmentLaw_of_plain (by dsimp only; split <;> rfl) (by dsimp only; split <;> simp) hv hs hd
            · dsimp only
              split <;> simp
      all_goals exact h1
  · exact h1

theorem Calm.stage3 (h : Calm E ids undated [] s) : Calm E ids undated [] (stage3 s) :=
  forEach_kept (fun n _ ht => ht.stage3Segment hE n) h

end
end Sys2Proof.Machine
end

section
namespace Sys2Proof.Machine

/-- The laws between steps: every segment meets its law, whatever interrupters and deadlines there are. -/
abbrev Kept (E : BitVec 32 → Prop) (s : State) : Prop := Lawful E (fun _ => True) (fun _ => False) [] s

/-- The laws between steps, in HOLD or with no inverted bit. -/
abbrev CalmKept (E : BitVec 32 → Prop) (s : State) : Prop := Calm E (fun _ => True) (fun _ => False) [] s

theorem Calm.kept {E : BitVec 32 → Prop} {s : State} (h : CalmKept E s) : Kept E s := h.toLawful

section
variable {E : BitVec 32 → Prop} {s t : State} {n x : Nat}
variable (hE : Readable E)
include hE

/-! #### Requests on segments -/

theorem CalmKept.takeDefineSegment (n : Nat) (d : SegmentFields) (h : CalmKept E s) : CalmKept E (takeDefineSegment n d s).1 := by
  have hP := keptByReads_calm (ids := fun _ => True) (undated := fun _ => False) hE
  have h1 : CalmKept E (readSensors (d.up :: d.down) s) := hP.readSensors _ h
  have h2 : CalmKept E (readSegments (readSensors (d.up :: d.down) s)) := hP.readSegments h1
  unfold Machine.takeDefineSegment
  split
  · exact h
  · split
    · exact h
    · dsimp only
      split
      · exact h1
      · generalize readSegments _ = t at h2 ⊢
        unfold defineSegmentChecked
        split
        · exact h2
        · rename_i hedit
          split
          · exact h2
          · refine h2.writeIdle hE (fun q hq hst => hedit ?_) (fun _ => segmentLaw_of_plain rfl (by simp [freshSegment]) rfl rfl rfl)
              (by simp [freshSegment]) False.elim
            simp [refusesEdit, hq, hst, mayEdit]

theorem CalmKept.takeRemoveSegment (n : Nat) (h : CalmKept E s) : CalmKept E (takeRemoveSegment n s).1 := by
  have h1 : CalmKept E (readSegment n s) := h.readSegment hE n
  unfold Machine.takeRemoveSegment
  split
  · exact h
  · extract_lets s1
    split
    · exact h1
    · rename_i hedit
      refine h1.of_lawful (h1.toLawful.loseSegment (n := n) (leave := id) (fun m => ?_) (fun x => ?_) fun x q hx hq => ?_) rfl
      · unfold segmentAt
        rw [rowAt_dropRow]
        by_cases hm : m = n <;> simp [hm, s1]
      · exact Option.map_id'.symm ▸ rfl
      · refine (List.filter_eq_self.mpr fun m hm => ?_).symm
        rw [bne_iff_ne]
        refine ne_of_mem_of_not_mem hm (h1.not_waiting (fun r hr hst => hedit ?_) hx hq)
        simp [s1, refusesEdit, hr, hst, mayEdit]

theorem CalmKept.takeReleaseSegment (n : Nat) (h : CalmKept E s) : CalmKept E (takeReleaseSegment n s).1 := by
  have hP := keptByReads_calm (ids := fun _ => True) (undated := fun _ => False) hE
  have h1 : CalmKept E (readSegment n s) := h.readSegment hE n
  unfold Machine.takeReleaseSegment
  split
  · exact h
  · extract_lets s1
    split
    · exact h1
    · rename_i r hr
      split
      · rename_i hmay
        have h2 : CalmKept E (writeSegment n (released r) s1) := by
          refine h1.replace hE hr (fun he => by simp [he, mayRelease] at hmay) (fun hlaw => ?_) (by simp [released]) (by simp [released])
          refine segmentLaw_of_plain rfl (by simp [released]) rfl (hlaw.plain fun he => ?_).1 rfl
          simp [he, mayRelease] at hmay
        exact forEach_kept (fun d _ ht => hP.modifySensor d unseed (hP.readSensor d ht)) h2
      · exact h1

theorem CalmKept.takeRestoreSegment (n : Nat) (h : CalmKept E s) : CalmKept E (takeRestoreSegment n s).1 := by
  have hP := keptByReads_calm (ids := fun _ => True) (undated := fun _ => False) hE
  have h1 : CalmKept E (readSegment n s) := h.readSegment hE n
  unfold Machine.takeRestoreSegment
  split
  · exact h
  · extract_lets s1
    split
    · exact h1
    · extract_lets members s2
      have h2 : CalmKept E s2 := hP.readSensors members h1
      have h3 : CalmKept E (modifySegment n (fun q => { q with excluded := [] }) s2) := by
        unfold modifySegment
        split
        · rename_i q hq
          exact h2.of_lawful (h2.toLawful.writeKept hE hq rfl rfl rfl fun _ => rfl) rfl
        · exact h2
      split
      · exact h2
      · exact h3

/-! #### Requests on interrupters -/

/-- A record of an interrupter without waiters is written. -/
theorem CalmKept.writeIdle {r : IntRec} (h : CalmKept E s) (hidle : ∀ q, x < 16 → interrupterAt s x = some q → q.waiters = [])
    (hw : r.waiters = []) : CalmKept E (writeInterrupter x r s) := by
  have hint (y : Nat) := interrupterAt_writeInterrupter x y r s
  refine h.of_lawful (h.toLawful.changeIdle (x := x) rfl (fun y hyx => by rw [hint, if_neg hyx]) (fun q hq => ?_) hidle) rfl
  rw [hint, if_pos rfl] at hq
  cases hq
  exact ⟨trivial, hE.1, hw⟩

/-- A record of an interrupter at rest gives way to another. -/
theorem CalmKept.replaceIdle {r r' : IntRec} (h : CalmKept E s) (hx : x < 16) (hr : interrupterAt s x = some r)
    (hst : r.state ≠ .tripping) (hw : r'.waiters = r.waiters) : CalmKept E (writeInterrupter x r' s) := by
  have hnil := h.waiters_nil hx hr hst
  refine h.writeIdle hE (fun q _ hq => ?_) (hw.trans hnil)
  rw [hr] at hq
  cases hq
  exact hnil

theorem CalmKept.takeDefineInterrupter (x : Nat) (k : InterrupterKind) (slot c : Nat) (h : CalmKept E s) :
    CalmKept E (takeDefineInterrupter x k slot c s).1 := by
  unfold Machine.takeDefineInterrupter
  split
  · exact h
  · rename_i hfree
    have hP := keptByReads_calm (ids := (· ≠ x)) (undated := fun _ => False) hE
    have h0 : Calm E (· ≠ x) (fun _ => False) [] s := by
      refine h.of_lawful (h.toLawful.rebound h.segment fun y q hq => ⟨?_, (h.interrupter y q hq).2⟩) rfl
      rintro rfl
      simp [interrupterAt_row.mp hq] at hfree
    have hany {t : State} (ht : Calm E (· ≠ x) (fun _ => False) [] t) : CalmKept E t :=
      ht.of_lawful (ht.toLawful.rebound ht.segment fun y q hq => ⟨trivial, (ht.interrupter y q hq).2⟩) rfl
    have h1 := hP.readSensor slot h0
    have h2 := hP.readInterrupters h1
    split
    · exact h
    · dsimp only
      split
      · exact hany h1
      · generalize readInterrupters _ = t at h2 ⊢
        split
        · exact hany h2
        · split
          · exact hany h2
          · exact (hany h2).writeIdle hE (fun q _ hq => absurd rfl (h2.interrupter x q hq).1) rfl

theorem CalmKept.takeRemoveInterrupter (h : CalmKept E s) (hx : x < 16) : CalmKept E (takeRemoveInterrupter x s).1 := by
  have h1 : CalmKept E (readInterrupter x s) := h.readInterrupter hE x
  unfold Machine.takeRemoveInterrupter
  split
  · exact h
  · extract_lets s1
    split
    · exact h1
    · rename_i htrip
      have hrow (y : Nat) : interrupterAt { s1 with interrupters := dropRow s1.interrupters x } y =
          if y = x then none else interrupterAt s1 y := by
        unfold interrupterAt
        rw [rowAt_dropRow]
        by_cases hy : y = x <;> simp [hy]
      refine h1.of_lawful (h1.toLawful.changeIdle (x := x) rfl (fun y hyx => by rw [hrow, if_neg hyx]) (fun q hq => ?_)
        fun q _ hq => h1.waiters_nil hx hq fun hst => htrip ?_) rfl
      · rw [hrow, if_pos rfl] at hq
        cases hq
      · simp [isTripping, s1, hq, hst]

theorem CalmKept.onInterrupter {f : IntRec → State → State × Answer} (h : CalmKept E s)
    (hf : ∀ r t, CalmKept E t → interrupterAt t x = some r → CalmKept E (f r t).1) : CalmKept E (onInterrupter x f s).1 := by
  have h1 : CalmKept E (readInterrupter x s) := h.readInterrupter hE x
  unfold Machine.onInterrupter
  split
  · exact h
  · extract_lets s1
    split
    · exact h1
    · exact hf _ _ h1 ‹_›

theorem CalmKept.takeSetArm (x : Nat) (v : Bool) (h : CalmKept E s) : CalmKept E (takeSetArm x v s).1 := by
  refine h.onInterrupter hE fun r t ht hr => ht.of_lawful (ht.toLawful.writeWaiting hE hr ?_ fun _ hst => ?_) rfl
  · unfold setArm
    split <;> rfl
  · unfold setArm
    split <;> exact hst

theorem CalmKept.takeAckTrip (x : Nat) (h : CalmKept E s) : CalmKept E (takeAckTrip x s).1 := by
  refine h.onInterrupter hE fun r t ht hr => ?_
  split
  · exact ht
  · exact ht.of_lawful (ht.toLawful.writeWaiting hE hr rfl fun _ => id) rfl

theorem CalmKept.reportOpen {r : IntRec} (h : CalmKept E s) (hx : x < 16) (hr : interrupterAt s x = some r) :
    CalmKept E (reportOpen x r s) := by
  have hat (hst : r.state ≠ .tripping) : CalmKept E (writeInterrupter x (atPosition .opened r) s) := h.replaceIdle hE hx hr hst rfl
  unfold Machine.reportOpen
  split
  · exact h.openInterrupter hE _ _ hx
  · exact keptOutside_calm.raiseNow _ (hat (by simp_all))
  · exact keptOutside_calm.raiseNow _ (hat (by simp_all))
  · exact keptOutside_calm.raiseNow _ (hat (by simp_all))
  · exact h

theorem CalmKept.reportClosed {r : IntRec} (h : CalmKept E s) (hx : x < 16) (hr : interrupterAt s x = some r) :
    CalmKept E (reportClosed x r s) := by
  have hat (hst : r.state ≠ .tripping) : CalmKept E (writeInterrupter x (atPosition .closed r) s) := h.replaceIdle hE hx hr hst rfl
  unfold Machine.reportClosed
  split
  · exact hat (by simp_all)
  · exact hat (by simp_all)
  · exact hat (by simp_all)
  · exact h
  · exact h

theorem CalmKept.reportFailed {r : IntRec} (h : CalmKept E s) (hx : x < 16) (hr : interrupterAt s x = some r) :
    CalmKept E (reportFailed x r s) := by
  unfold Machine.reportFailed
  split
  · exact h.failTripping hE _ hx
  all_goals exact h.replaceIdle hE hx hr (by simp_all) rfl

theorem CalmKept.takeInterrupterState (p : Nat) (h : CalmKept E s) (hx : x < 16) : CalmKept E (takeInterrupterState x p s).1 := by
  refine h.onInterrupter hE fun r t ht hr => ?_
  split
  · exact ht.reportOpen hE hx hr
  · split
    · split
      · exact ht
      · exact ht.reportClosed hE hx hr
    · exact ht.reportFailed hE hx hr

/-! #### Modes (R104, R158) -/

theorem CalmKept.enterRun (h : CalmKept E s) : Kept E (enterRun s) := by
  have hP := keptByReads_calm (ids := fun _ => True) (undated := fun _ => False) hE
  unfold Machine.enterRun
  extract_lets t
  have ht : CalmKept E t := by
    unfold t
    split
    · exact h
    · exact hP.rewriteSensors unseed h
  exact ht.kept.congr rfl rfl

/-- HOLD entry leaves a segment's record, or a plain one in NORMAL (R104). -/
theorem CalmKept.holdEntry (n : Nat) (h : CalmKept E s) : CalmKept E (modifySegment n holdEntry s) := by
  unfold modifySegment
  split
  · rename_i r hr
    unfold Machine.holdEntry
    split
    · rename_i hst
      refine h.replace hE hr (by simp [hst]) (fun hlaw => ?_) (by simp) (by exact fun _ => rfl)
      exact segmentLaw_of_plain rfl (by simp) (hlaw.verdict_none (by simp [hst, isVerdictState])) rfl rfl
    · rename_i hst
      refine h.replace hE hr (by simp [hst]) (fun hlaw => ?_) (by simp) (by exact id)
      obtain ⟨hs, hd⟩ := hlaw.plain (by simp [hst])
      exact segmentLaw_of_plain rfl (by simp) (hlaw.verdict_none (by simp [hst, isVerdictState])) hs hd
    · rename_i hst
      refine h.replace hE hr (by simp [hst]) (fun hlaw => ?_) (by simp) (by exact id)
      obtain ⟨hs, hd⟩ := hlaw.plain (by simp [hst])
      exact segmentLaw_of_plain rfl (by simp) (hlaw.verdict_none (by simp [hst, isVerdictState])) hs hd
    all_goals exact h.of_lawful (h.toLawful.writeKept hE hr rfl rfl rfl fun _ => rfl) rfl
  · exact h

theorem CalmKept.enterHold (h : CalmKept E s) : CalmKept E (enterHold s) := by
  have h0 : CalmKept E (setPartMode .hold { s with ring := [] }) := ⟨h.kept.congr rfl rfl, .inr rfl⟩
  exact forEach_kept (fun n _ ht => CalmKept.holdEntry hE n (ht.readSegment hE n)) h0

theorem CalmKept.takeSetMode (toRun : Bool) (h : CalmKept E s) : Kept E (takeSetMode toRun s).1 := by
  unfold Machine.takeSetMode
  split
  · split
    · exact h.kept
    · split
      · exact h.enterRun hE
      · exact h.kept
  · split
    · exact h.kept
    · split
      · exact h.kept
      · dsimp only
        exact (h.enterHold hE).kept

end
end Sys2Proof.Machine
end

section
namespace Sys2Proof.Machine

/-! #### RESTART (R26, R159) -/

/-- A segment record as RESTART leaves it (R26). -/
def Restarted (r : SegRec) : Prop := r.state = .normal ∧ r.verdict = none ∧ r.suspect = none ∧ r.deadline = none

section
variable {s t : State} {n x : Nat}

/-- A read of a segment record leaves the others. -/
theorem segmentAt_readSegment_other {m : Nat} (hm : m ≠ n) : segmentAt (readSegment n s) m = segmentAt s m := by
  have hrow {v : SegPlace} : rowAt (setRow s.segments n v) m = rowAt s.segments m := by rw [rowAt_setRow, if_neg hm]
  rcases readSegment_any n s with he | ⟨r, he⟩ | ⟨r, he⟩ | he <;> rw [he]
  · simp only [segmentAt, writeSegment, hrow]
  · simp only [segmentAt, noteCorrection_segments, writeSegment, hrow]
  · simp [segmentAt, quarantineSegment, hrow]

/-- RESTART rewrites the segments in turn. -/
theorem restarted_rewriteSegments {ns : List Nat} (h : ∀ m r, m ∉ ns → segmentAt s m = some r → m < 40 → Restarted r) :
    ∀ m r, segmentAt (forEach ns (fun n t => let u := readSegment n t; modifySegment n (restartSegment u) u) s) m = some r → m < 40 →
      Restarted r := by
  induction ns generalizing s with
  | nil => exact fun m r => h m r (by simp)
  | cons n ns ih =>
    rw [forEach_cons]
    refine ih fun m r hm hr hm40 => ?_
    rw [segmentAt_modifySegment] at hr
    split at hr
    · rw [Option.map_eq_some_iff] at hr
      obtain ⟨p, -, rfl⟩ := hr
      exact ⟨rfl, rfl, rfl, rfl⟩
    · rename_i hmn
      rw [segmentAt_readSegment_other hmn] at hr
      exact h m r (by simp [hmn, hm]) hr hm40

/-- With no segment ISOLATING none is found to wait. -/
theorem waitersByChain_restarted (h : ∀ m r, segmentAt s m = some r → m < 40 → Restarted r) : waitersByChain s x = [] := by
  rw [List.eq_nil_iff_forall_not_mem]
  intro n hn
  obtain ⟨hn40, r, -, -, hr, hst, -⟩ := mem_waitersByChain.mp hn
  simp [(h n r hr hn40).1] at hst

/-- While every segment stands restarted, a read of an interrupter record reaches no other record. -/
theorem readInterrupter_restarted (h : ∀ m r, segmentAt s m = some r → m < 40 → Restarted r) :
    (∀ m, segmentAt (readInterrupter x s) m = segmentAt s m) ∧
    ∀ y, y ≠ x → interrupterAt (readInterrupter x s) y = interrupterAt s y := by
  have hrow {y : Nat} (hy : y ≠ x) {v : IntPlace} : rowAt (setRow s.interrupters x v) y = rowAt s.interrupters y := by
    rw [rowAt_setRow, if_neg hy]
  rcases readInterrupterWith_cases escalate x s with he | ⟨r, he⟩ | ⟨r, he⟩ | ⟨r, he⟩ <;> rw [readInterrupter, he]
  · exact ⟨fun _ => rfl, fun _ _ => rfl⟩
  · exact ⟨fun _ => rfl, fun y hy => by simp only [interrupterAt, writeInterrupter, hrow hy]⟩
  · exact ⟨fun _ => rfl, fun y hy => by simp only [interrupterAt, noteCorrection_interrupters, writeInterrupter, hrow hy]⟩
  · unfold quarantineInterrupter
    extract_lets t
    have hseg (m : Nat) : segmentAt t m = segmentAt s m := segmentAt_congr (by simp [t]) m
    have hint (y : Nat) (hy : y ≠ x) : interrupterAt t y = interrupterAt s y := by simp [t, interrupterAt, hrow hy]
    have hnone : waitersByChain t x = [] := waitersByChain_restarted fun m r hr => h m r (hseg m ▸ hr)
    split
    · have hescalate : escalate x .tableError r.boundary [] t = raiseNow (.escalated x .tableError none none none) t := rfl
      rw [hnone, hescalate]
      exact ⟨fun m => (segmentAt_congr (by simp) m).trans (hseg m), fun y hy => (interrupterAt_congr (by simp) y).trans (hint y hy)⟩
    · exact ⟨hseg, hint⟩

theorem rewriteInterrupters_restarted {xs : List Nat} (h : ∀ m r, segmentAt s m = some r → m < 40 → Restarted r)
    (hidle : ∀ y q, y ∉ xs → y < 16 → interrupterAt s y = some q → q.waiters = []) :
    (∀ m r, segmentAt (forEach xs (fun x t => modifyInterrupter x restartInterrupter (readInterrupter x t)) s) m = some r → m < 40 →
      Restarted r) ∧
    ∀ y q, y < 16 → interrupterAt (forEach xs (fun x t => modifyInterrupter x restartInterrupter (readInterrupter x t)) s) y = some q →
      q.waiters = [] := by
  induction xs generalizing s with
  | nil => exact ⟨h, fun y q => hidle y q (by simp)⟩
  | cons x xs ih =>
    obtain ⟨hseg, hint⟩ := readInterrupter_restarted (x := x) h
    rw [forEach_cons]
    refine ih (fun m r hr => ?_) fun y q hy hy16 hq => ?_
    · rw [segmentAt_congr (modifyInterrupter_segments _ _ _), hseg] at hr
      exact h m r hr
    · rw [interrupterAt_modifyInterrupter] at hq
      split at hq
      · rw [Option.map_eq_some_iff] at hq
        obtain ⟨p, -, rfl⟩ := hq
        rfl
      · rename_i hyx
        rw [hint y hyx] at hq
        exact hidle y q (by simp [hyx, hy]) hy16 hq

/-- Once the segments stand restarted, the rewritten interrupters meet the laws: none has waiters. -/
theorem recordLaws_rewriteInterrupters (h : ∀ m r, segmentAt s m = some r → m < 40 → Restarted r) :
    recordLaws (rewriteInterrupters restartInterrupter s) := by
  obtain ⟨hseg, hint⟩ := rewriteInterrupters_restarted (xs := allInterrupters) h
    fun y q hy hy16 _ => absurd (mem_allInterrupters.mpr hy16) hy
  unfold rewriteInterrupters
  generalize forEach allInterrupters _ s = t at hseg hint
  refine ⟨fun n r hn hr => ?_, fun x q hx hq => ?_, fun x y p q n hx _ hp _ hn _ => ?_⟩
  · obtain ⟨hst, hv, hs, hd⟩ := hseg n r hr hn
    exact ⟨segmentLaw_of_plain (by simp [hst, isVerdictState]) (by simp [hst]) hv hs hd, fun hi => by simp [hst] at hi⟩
  · simp [hint x q hx hq]
  · rw [hint x p hx hp] at hn
    cases hn

theorem recordLaws_congr (h : recordLaws s) (hg : t.segments = s.segments) (hi : t.interrupters = s.interrupters) : recordLaws t :=
  (Lawful.congr (lawful_of_recordLaws (E := fun _ => True) h (fun _ _ _ => trivial) fun _ _ _ => trivial) hg hi).recordLaws

/-- RESTART leaves every segment in NORMAL and every interrupter without waiters. -/
theorem recordLaws_restartEffects (s : State) : recordLaws (restartEffects s) := by
  have hsegments : ∀ m r, segmentAt (rewriteSegments restartSegment (rewriteSensors restartSensor (restartBlocks s))) m = some r →
      m < 40 → Restarted r :=
    restarted_rewriteSegments fun m r hm _ hm40 => absurd (mem_allSegments.mpr hm40) hm
  unfold restartEffects
  generalize rewriteSegments restartSegment _ = t at hsegments
  have hlaws := recordLaws_rewriteInterrupters hsegments
  generalize rewriteInterrupters restartInterrupter t = u at hlaws
  exact recordLaws_congr hlaws rfl rfl

/-! #### INJECT (R163) -/

theorem interrupterAt_setRow_live (x y : Nat) (q : IntRec) (s : State) :
    interrupterAt { s with interrupters := setRow s.interrupters x (.live q) } y = if y = x then some q else interrupterAt s y := by
  unfold interrupterAt
  rw [rowAt_setRow]
  by_cases hy : y = x <;> simp [hy]

/-- INJECT leaves the laws; the errors grow by its bits. -/
theorem Lawful.takeInject {E E' : BitVec 32 → Prop} {ids undated : Nat → Prop} {out : List Nat} (hE' : ∀ e, E e → E' e)
    (hflip : ∀ e mask, E e → invertedBits mask ≤ 2 → E' (e ^^^ mask)) (target number position : Nat) (double : Bool)
    (h : Lawful E ids undated out s) : Lawful E' ids undated out (takeInject target number double position s).1 := by
  have hmask := invertedBits_le_mask (position := position) double
  have hsame : Lawful E' ids undated out s :=
    h.invert (fun _ => rfl) (fun _ => rfl) (fun n r hr => hE' _ (h.segment n r hr).1) fun x q hq => hE' _ (h.interrupter x q hq).2
  unfold Machine.takeInject
  generalize injectMask double position = mask at hmask ⊢
  split
  · unfold injectSensor
    split
    · exact hsame
    · exact hsame
    · exact hsame.congr rfl rfl
  · unfold injectSegment
    split
    · exact hsame
    · exact hsame
    · rename_i r hrow
      have hr := segmentAt_row.mpr hrow
      have hseg (m : Nat) := segmentAt_setRow_live number m { r with err := r.err ^^^ mask } s
      refine h.invert (fun m => ?_) (fun _ => rfl) (fun m p hp => ?_) fun x q hq => hE' _ (h.interrupter x q hq).2
      · dsimp only
        rw [hseg]
        split
        · rename_i hm
          rw [hm, hr]
          rfl
        · rfl
      · dsimp only at hp
        rw [hseg] at hp
        split at hp
        · cases hp
          exact hflip _ _ (h.segment number r hr).1 hmask
        · exact hE' _ (h.segment m p hp).1
  · unfold injectInterrupter
    split
    · exact hsame
    · exact hsame
    · rename_i q hrow
      have hq := interrupterAt_row.mpr hrow
      have hint (y : Nat) := interrupterAt_setRow_live number y { q with err := q.err ^^^ mask } s
      refine h.invert (fun _ => rfl) (fun y => ?_) (fun m p hp => hE' _ (h.segment m p hp).1) fun y p hp => ?_
      · dsimp only
        rw [hint]
        split
        · rename_i hy
          rw [hy, hq]
          rfl
        · rfl
      · dsimp only at hp
        rw [hint] at hp
        split at hp
        · cases hp
          exact hflip _ _ (h.interrupter number q hq).2 hmask
        · exact hE' _ (h.interrupter y p hp).2
  · exact hsame.congr rfl rfl

theorem takeInject_mc (target number position : Nat) (double : Bool) (s : State) :
    (takeInject target number double position s).1.mc = s.mc := by
  unfold takeInject
  split
  · unfold injectSensor
    split <;> rfl
  · unfold injectSegment
    split <;> rfl
  · unfold injectInterrupter
    split <;> rfl
  · rfl

end

/-! #### A request taken -/

section
variable {E : BitVec 32 → Prop} {s t : State}

/-- Every request but INJECT keeps the laws when its owner acts on it; SET_MODE RUN alone may leave HOLD with a damaged record. -/
theorem CalmKept.act (hE : Readable E) {r : Request} (hf : fieldFault r = none) (hinj : ∀ a b c d, r ≠ .inject a b c d)
    (h : CalmKept E s) : Kept E (act r s).1 := by
  have hP := keptByReads_calm (ids := fun _ => True) (undated := fun _ => False) hE
  have hid {id : Byte} {rest : List (Nat × Bool)} (hb : firstBad ((0, within 0 15 id.toNat) :: rest) = none) : id.toNat < 16 := by
    have hw : within 0 15 id.toNat = true := firstBad_none.mp hb _ List.mem_cons_self
    have := within_iff.mp hw
    omega
  unfold Machine.act
  cases r with
  | identify | getStatus | restart | selfTest | unknownKind | malformed => exact h.kept
  | setMode => exact h.takeSetMode hE _
  | setTimebase => exact (hP.takeSetTimebase _ _ _ h).toLawful
  | setProfile | setInhibit => exact h.kept.congr rfl rfl
  | fetchNotices => exact (hP.takeFetchNotices _ h).toLawful
  | getCounts => exact (hP.takeGetCounts h).toLawful
  | setParams => exact (hP.takeSetParams _ h).toLawful
  | defineSensor => exact (hP.takeDefineSensor _ _ _ _ h).toLawful
  | retireSensor =>
    dsimp only
    exact (hP.takeRetireSensor _ h).toLawful
  | querySensor =>
    dsimp only
    exact (hP.takeQuerySensor _ h).toLawful
  | defineSegment =>
    dsimp only
    exact (h.takeDefineSegment hE _ _).kept
  | removeSegment => exact (h.takeRemoveSegment hE _).kept
  | querySegment =>
    dsimp only
    exact (hP.takeQuerySegment _ h).toLawful
  | releaseSegment =>
    dsimp only
    exact (h.takeReleaseSegment hE _).kept
  | restoreSegment => exact (h.takeRestoreSegment hE _).kept
  | defineInterrupter => exact (h.takeDefineInterrupter hE _ _ _ _).kept
  | removeInterrupter => exact (h.takeRemoveInterrupter hE (hid hf)).kept
  | queryInterrupter => exact (hP.takeQueryInterrupter _ h).toLawful
  | setArm => exact (h.takeSetArm hE _ _).kept
  | interrupterState => exact (h.takeInterrupterState hE _ (hid hf)).kept
  | ackTrip => exact (h.takeAckTrip hE _).kept
  | configTripOutputs =>
    dsimp only
    exact (hP.takeConfigTripOutputs _ h).toLawful
  | report => exact (hP.judgeEntries _ h).toLawful
  | clearCounts => exact (hP.takeClearCounts _ h).toLawful
  | inject => exact absurd rfl (hinj _ _ _ _)

/-- A request judged keeps the laws; INJECT, taken in HOLD, adds two inverted bits at most. -/
theorem CalmKept.perform (hE : Readable E) {E' : BitVec 32 → Prop} (hE' : ∀ e, E e → E' e)
    (hflip : ∀ e mask, E e → invertedBits mask ≤ 2 → E' (e ^^^ mask)) (r : Request) (h : CalmKept E s) :
    Kept E (perform r s).1 ∨ (Kept E' (perform r s).1 ∧ (perform r s).1.mc.mode = .hold) := by
  unfold Machine.perform
  split
  · exact .inl h.kept
  · rename_i htaken
    split
    · exact .inl h.kept
    · rename_i hf
      by_cases hinj : ∃ a b c d, r = .inject a b c d
      · obtain ⟨a, b, c, d, rfl⟩ := hinj
        refine .inr ⟨h.toLawful.takeInject hE' hflip _ _ _ _, ?_⟩
        rw [show Machine.act (.inject a b c d) s = takeInject a.toNat b.toNat (c == 1) d.toNat s from rfl, takeInject_mc]
        simpa [takenIn, requestKind] using htaken
      · exact .inl (h.act hE hf fun a b c d e => hinj ⟨a, b, c, d, e⟩)

/-! #### The laws while requests are held (R168) -/

/-- What the records meet while that many requests are held: an INJECT among them may damage a record in HOLD, and none is left to
read it after the last. -/
def lawsBefore : Nat → State → Prop
  | 0, s => recordLaws s
  | 1, s => ∃ E, Readable E ∧ CalmKept E s
  | _ + 2, s => CalmKept (· = 0) s

/-- At most two requests are held, and the records meet what those need. -/
def HeldLaws (s : State) : Prop := ∃ k ≤ 2, s.hl.requests.length ≤ k ∧ lawsBefore k s

theorem lawsBefore.recordLaws {k : Nat} (h : lawsBefore k s) : recordLaws s := by
  match k, h with
  | 0, h => exact h
  | 1, ⟨_, _, h⟩ => exact h.toLawful.recordLaws
  | _ + 2, h => exact Calm.toLawful h |>.recordLaws

theorem lawsBefore.congr {k : Nat} (h : lawsBefore k s) (hg : t.segments = s.segments) (hi : t.interrupters = s.interrupters)
    (hm : t.mc.mode = s.mc.mode) : lawsBefore k t := by
  match k, h with
  | 0, h => exact recordLaws_congr h hg hi
  | 1, ⟨E, hE, h⟩ => exact ⟨E, hE, h.of_lawful (h.toLawful.congr hg hi) hm⟩
  | _ + 2, h => exact Calm.of_lawful h (Lawful.congr (Calm.toLawful h) hg hi) hm

/-- What a request judged leaves to the requests behind it. -/
theorem lawsBefore.perform {k : Nat} (hk : k ≤ 1) (r : Request) (h : lawsBefore (k + 1) s) : lawsBefore k (perform r s).1 := by
  have hclean : Readable (· = 0) := readable_eq_zero
  match k, h with
  | 0, ⟨E, hE, h⟩ =>
    rcases h.perform hE (E' := fun _ => True) (fun _ _ => trivial) (fun _ _ _ _ => trivial) r with hkept | ⟨hkept, -⟩
    · exact hkept.recordLaws
    · exact hkept.recordLaws
  | 1, h =>
    rcases CalmKept.perform hclean (E' := fun e => invertedBits e ≤ 2) (by rintro _ rfl; simp) (by rintro _ m rfl hm; simpa using hm)
      r h with hkept | ⟨hkept, hhold⟩
    · exact ⟨(· = 0), hclean, hkept, .inl fun _ => id⟩
    · exact ⟨fun e => invertedBits e ≤ 2, ⟨by simp, fun _ => id⟩, hkept, .inr hhold⟩

theorem HeldLaws.takeRequest {r : Request} {rest : List Request} (h : HeldLaws s) (hq : s.hl.requests = r :: rest) :
    HeldLaws (takeRequest r s) := by
  obtain ⟨k, hk, hlen, hlaws⟩ := h
  obtain ⟨j, rfl⟩ : ∃ j, k = j + 1 := ⟨k - 1, by simp [hq] at hlen; omega⟩
  have hbuf : Buffered j (s.hl.replies.length + 1) (Machine.takeRequest r s) := Buffered.takeRequest r ⟨hlen, Nat.le_refl _⟩
  have h0 : lawsBefore (j + 1) (spendBadCheck s) := hlaws.congr rfl rfl rfl
  have h1 := h0.perform (by omega) r
  have hend : recordLaws (Machine.takeRequest r s) ∧ (Machine.takeRequest r s).hl.requests.length ≤ 0 ∨
      lawsBefore j (Machine.takeRequest r s) := by
    unfold Machine.takeRequest
    extract_lets out t u
    split
    · have hu : Buffered u.hl.requests.length u.hl.replies.length u := ⟨Nat.le_refl _, Nat.le_refl _⟩
      exact .inl ⟨recordLaws_restartEffects u, hu.restartEffects.requests⟩
    · exact .inr (h1.congr (by simp [u, t, out, handOver]) (by simp [u, t, out, handOver]) (by simp [u, t, out, handOver]))
  rcases hend with ⟨hlaw, hnone⟩ | hlaw
  · exact ⟨0, by omega, hnone, hlaw⟩
  · exact ⟨j, by omega, hbuf.requests, hlaw⟩

end
end Sys2Proof.Machine
end

section
namespace Sys2Proof.Machine

section
variable {s t : State}

theorem HeldLaws.congr (h : HeldLaws s) (hq : t.hl.requests = s.hl.requests) (hg : t.segments = s.segments)
    (hi : t.interrupters = s.interrupters) (hm : t.mc.mode = s.mc.mode) : HeldLaws t := by
  obtain ⟨k, hk, hlen, hlaws⟩ := h
  exact ⟨k, hk, hq ▸ hlen, hlaws.congr hg hi hm⟩

theorem HeldLaws.serveUpTo (n : Nat) (h : HeldLaws s) : HeldLaws (serveUpTo n s) := by
  induction n generalizing s with
  | zero => exact h
  | succ n ih =>
    unfold Machine.serveUpTo
    split
    · exact h
    · rename_i r rest hq
      split
      · exact ih (h.takeRequest hq)
      · exact h

/-- Records free of errors meet what two held requests need. -/
theorem heldLaws_of_clean {k : Nat} (h : CalmKept (· = 0) s) (hb : Buffered 2 k s) : HeldLaws s := ⟨2, Nat.le_refl _, hb.requests, h⟩

theorem HeldLaws.recordLaws (h : HeldLaws s) : recordLaws s := by
  obtain ⟨_, _, _, hlaws⟩ := h
  exact hlaws.recordLaws

theorem HeldLaws.event {f : State → State} (hf : HeldLaws (f s)) (hex : event f s = .next t) : Machine.recordLaws t := by
  cases hex
  exact (hf.serveUpTo _).recordLaws

/-! #### Resets (R54, R161) -/

theorem segmentAt_hardReset_eq (st baud : BitVec 2) (n : Nat) (s : State) :
    segmentAt (hardReset st baud s) n = (segmentAt s n).map fun r => { r with deadline := none } := by
  unfold segmentAt
  rw [hardReset_segments, rowAt_map]
  cases rowAt s.segments n with
  | none => rfl
  | some p => cases p <;> rfl

theorem interrupterAt_hardReset (st baud : BitVec 2) (x : Nat) (s : State) :
    interrupterAt (hardReset st baud s) x = (interrupterAt s x).map fun q => { q with confirm := none } := by
  unfold interrupterAt
  rw [hardReset_interrupters, rowAt_map]
  cases rowAt s.interrupters x with
  | none => rfl
  | some p => cases p <;> rfl

/-- A hard reset stops the timers and leaves the laws. -/
theorem recordLaws_hardReset (st baud : BitVec 2) (h : recordLaws s) : recordLaws (hardReset st baud s) := by
  obtain ⟨hlaw, hwait, hsole⟩ := h
  have hback {x : Nat} {q : IntRec} (hq : interrupterAt (hardReset st baud s) x = some q) :
      ∃ p, interrupterAt s x = some p ∧ q = { p with confirm := none } := by
    rw [interrupterAt_hardReset, Option.map_eq_some_iff] at hq
    obtain ⟨p, hp, rfl⟩ := hq
    exact ⟨p, hp, rfl⟩
  refine ⟨fun n r hn hr => ?_, fun x q hx hq => ?_, fun x y p q n hx hy hp hq => ?_⟩
  · obtain ⟨p, hp, rfl⟩ := segmentAt_hardReset hr
    obtain ⟨⟨hv, hs, -⟩, hon⟩ := hlaw n p hn hp
    refine ⟨⟨hv, hs, fun hne => absurd rfl hne⟩, fun hi => ?_⟩
    obtain ⟨x, hx, ⟨q, hq, hst, hmem⟩, hchain⟩ := hon hi
    exact ⟨x, hx, ⟨{ q with confirm := none }, by rw [interrupterAt_hardReset, hq]; rfl, hst, hmem⟩, hchain⟩
  · obtain ⟨p, hp, rfl⟩ := hback hq
    obtain ⟨hnodup, htrip, hmem⟩ := hwait x p hx hp
    refine ⟨hnodup, htrip, fun n hn => ?_⟩
    obtain ⟨hn40, r, hr, hst⟩ := hmem n hn
    exact ⟨hn40, { r with deadline := none }, by rw [segmentAt_hardReset_eq, hr]; rfl, hst⟩
  · obtain ⟨p', hp', rfl⟩ := hback hp
    obtain ⟨q', hq', rfl⟩ := hback hq
    exact hsole x y p' q' n hx hy hp' hq'

theorem calmKept_endSelfTest : CalmKept (· = 0) (endSelfTest (emptyTables s)) := by
  have hkept : Kept (· = 0) (emptyTables s) :=
    ⟨fun n r hr => (by cases hr), fun n r _ _ hr => (by cases hr), by simp, fun x q hq => (by cases hq), fun x q _ hq => (by cases hq),
      fun x y p q n _ _ hp => (by cases hp)⟩
  refine ⟨?_, .inl fun _ => id⟩
  unfold endSelfTest
  split
  · exact hkept.congr rfl rfl
  · exact hkept.congr (raiseNow_segments _ _) (raiseNow_interrupters _ _)

theorem heldLaws_replyEnds (h : CalmKept (· = 0) s) (hb : Buffered 2 2 s) : HeldLaws (replyEnds s) := by
  have hsent : HeldLaws (sendEnds s) := (heldLaws_of_clean h hb).congr rfl rfl rfl rfl
  unfold replyEnds
  split
  · split
    · split
      · refine ⟨0, by omega, Nat.le_refl _, ?_⟩
        have hreset := recordLaws_hardReset (Config.strapsAt s.strapReads).1 (Config.strapsAt s.strapReads).2 h.toLawful.recordLaws
        exact recordLaws_congr hreset rfl rfl
      · exact hsent
    · exact hsent
  · exact heldLaws_of_clean h hb

/-! #### Every command -/

theorem CalmKept.settled {f : State → State} (hf : ∀ {u}, CalmKept (· = 0) u → CalmKept (· = 0) (f u)) (h : CalmKept (· = 0) s) :
    CalmKept (· = 0) (settled f s) :=
  keptOutside_calm.settleUrgency _ (hf h)

theorem heldLaws_passCompletes (k : Nat) (h : CalmKept (· = 0) s) (hb : Buffered 2 2 s) : HeldLaws (passCompletes k s) := by
  unfold passCompletes
  split
  · have h1 : HeldLaws (Machine.settled completePass s) :=
      heldLaws_of_clean (CalmKept.settled (fun hu => hu.completePass readable_eq_zero) h) (hb.settled (standing_completePass s))
    generalize Machine.settled completePass s = u at h1 ⊢
    have h2 := h1.serveUpTo k
    generalize serveUpTo k u = v at h2 ⊢
    have hst := standing_closeOldest v
    rw [closeOldest_eq]
    exact h2.congr rfl rfl rfl rfl
  · exact heldLaws_of_clean h hb

/-- From records free of errors every command keeps the laws, the held requests that it takes included. -/
theorem recordLaws_exec {c : Instr} (h : CalmKept (· = 0) s) (hb : Buffered 2 2 s) (hex : exec c s = .next t) : recordLaws t := by
  have hE := readable_eq_zero
  have hP := keptByReads_calm (ids := fun _ => True) (undated := fun _ => False) hE
  have hevent {f : State → State} (hf : CalmKept (· = 0) (f s)) (hfb : Buffered 2 2 (f s)) (hex : event f s = .next t) : recordLaws t :=
    (heldLaws_of_clean hf hfb).event hex
  have hrequest {r : Request} (hr : requestOf c = some r) : recordLaws t := by
    rw [exec_of_request hr] at hex
    exact hevent (hP.requestArrives r h) (hb.requestArrives r) hex
  have hstage {work : State → State} {g next : Stage} (hw : ∀ {u}, CalmKept (· = 0) u → CalmKept (· = 0) (work u))
      (hst : standing (work s) = standing s) (hex : event (settled (runStage g next work)) s = .next t) : recordLaws t :=
    hevent (h.settled fun hu => hP.runStage (hw hu) _ _ hu) (hb.settled (standing_runStage s _ _ hst)) hex
  cases c with
  | hardReset st baud =>
    cases hex
    exact recordLaws_hardReset _ _ h.toLawful.recordLaws
  | selfTestStepEnd f => exact hevent (hP.stepEnds f h calmKept_endSelfTest) (hb.stepEnds f) hex
  | linkLoopback good => exact hevent (hP.loopbackBegins good h) (hb.loopbackBegins good) hex
  | messageReceived a p check => exact hevent (hP.messageArrives a p check h) (hb.messageArrives a p check) hex
  | linkAborted a => exact hevent (hP.markedCharacter a h) (hb.markedCharacter a) hex
  | linkBreak => exact hevent (hP.breakArrives h) hb.breakArrives hex
  | linkFraming cause => exact hevent (hP.framingArrives cause h) (hb.framingArrives cause) hex
  | gapTimeout => exact hevent (hP.gapArrives h) hb.gapArrives hex
  | replySendStart => exact hevent (hP.sendStarts h) hb.sendStarts hex
  | replySent => exact (heldLaws_replyEnds h hb).event hex
  | syncEdge time =>
    exact hevent (f := fun u => syncEdge (max u.now time) (arriveAt time u)) (hP.syncEdge _ (hP.arriveAt time h))
      (Buffered.syncEdge _ (hb.of_hl (arriveAt_hl time s))) hex
  | edgeHistoryTimeout => exact hevent (hP.historyTimeout h) hb.historyTimeout hex
  | internalFrameStart => exact hevent (hP.internalStart h) hb.internalStart hex
  | edgeWindowClose => exact hevent (hP.windowClose h) hb.windowClose hex
  | passStage1 => exact hstage hP.stage1 (standing_stage1 s) hex
  | passStage2 => exact hstage (fun hu => hu.stage2 hE) (standing_stage2 s) hex
  | passStage3 => exact hstage (fun hu => hu.stage3 hE) (standing_stage3 s) hex
  | passStage4 => exact hstage hP.stage4 (standing_stage4 s) hex
  | passCompletion k => exact (heldLaws_passCompletes k.val h hb).event hex
  | deadlineExpiry n =>
    exact hevent (h.settled fun hu => hu.deadlineExpires hE n.isLt) (hb.settled (standing_deadlineExpires s n.val)) hex
  | confirmTimerExpiry x =>
    exact hevent (h.settled fun hu => hu.confirmExpires hE x.isLt) (hb.settled (standing_confirmExpires s x.val)) hex
  | pulseTimerExpiry ch => exact hevent (hP.pulseExpires ch h) (hb.of_standing (standing_pulseExpires s ch)) hex
  | inhibitInputChange a => exact hevent (f := inhibitChanges a) (hP.congr h rfl) (hb.of_hl rfl) hex
  | addressCharacter a => exact hevent (hP.markedCharacter a h) (hb.markedCharacter a) hex
  | resetNRelease => exact hevent (hP.resetReleases h) hb.resetReleases hex
  | _ => exact hrequest rfl

theorem recordLaws_step (hclean : clean s = true) (hb : Buffered 2 2 s) (h : recordLaws s) (hstep : step s = .next t) : recordLaws t := by
  have hcalm : CalmKept (· = 0) s :=
    ⟨lawful_of_recordLaws h (fun _ _ hr => clean_segment hclean hr) fun _ _ hq => clean_interrupter hclean hq, .inl fun _ => id⟩
  unfold step at hstep
  split at hstep
  · cases hstep
    exact recordLaws_congr h rfl rfl
  · rename_i c rest _
    exact recordLaws_exec (s := { s with pending := rest }) (hcalm.of_lawful (hcalm.toLawful.congr rfl rfl) rfl) (hb.of_hl rfl) hstep

end

/-- Settles O58: the bounds stand under every write of the tables, the buffers under every request taken, and the laws of the records
under every operation that meets no damaged record where a trip is allowed. -/
theorem everyStepKeepsBoundsAndTables : Obligations.EveryStepKeepsBoundsAndTables := by
  intro s t hstep
  refine ⟨fun h => keptByWrites_notices.step h hstep, fun h => keptByWrites_counts.step h hstep, fun h => ?_,
    fun h => keptByWrites_ring.step h hstep, fun h => keptByWrites_tables.step h hstep, fun hclean hb h => ?_⟩
  · exact buffersBounded_iff.mpr ((buffersBounded_iff.mp h).step hstep)
  · exact recordLaws_step hclean (buffersBounded_iff.mp hb) h hstep

end Sys2Proof.Machine
end

section
namespace Sys2Proof.Machine

/-! ### SELF_TEST and its reset (R160, R165) -/

/-- A request that arrives while nothing is held is buffered (R168). -/
theorem requestArrives_idle {s : State} (h : lineIdle s = true) (hnone : s.hl.requests = []) (r : Request) :
    requestArrives r s = arrived r s := by
  obtain ⟨hread, hrx⟩ := lineIdle_iff.mp h
  simp [requestArrives, hread, dropOther_idle hrx, buffer, setRx, hnone, arrived]

/-- No request is taken while a SELF_TEST reply waits for its reset (R160; log 18). -/
theorem serve_resetPending {s : State} (h : s.hl.replies.any (·.resetAfter) = true) : serve s = s := by
  have hno (r : Request) : takeable r s = false := by simp [takeable, h]
  unfold serve
  cases hq : s.hl.requests with
  | nil => rfl
  | cons r rest => simp [serveUpTo, hq, hno]

theorem rowAt_map_stopDeadline (tab : Table SegPlace) (n : Nat) :
    rowAt (tab.map fun p => (p.1, stopDeadline p.2)) n = match rowAt tab n with
      | some (.live g) => some (.live { g with deadline := none })
      | other => other := by
  rw [rowAt_map]
  rcases rowAt tab n with _ | _ | _ <;> rfl

theorem rowAt_map_stopConfirm (tab : Table IntPlace) (x : Nat) :
    rowAt (tab.map fun p => (p.1, stopConfirm p.2)) x = match rowAt tab x with
      | some (.live g) => some (.live { g with confirm := none })
      | other => other := by
  rw [rowAt_map]
  rcases rowAt tab x with _ | _ | _ <;> rfl

/-- Settles O8: the answer leaves the state, a reply that waits for its reset lets no request be taken, and the reset follows it. -/
theorem selfTestResetsAfterReply : Obligations.SelfTestResetsAfterReply := by
  refine ⟨fun s hready hhold => ?_, fun i r s hi hidle hnone hreset => ?_, fun r rest s hsending hreplies hr => ?_⟩
  · rw [exec_of_request (i := .selfTest) rfl]
    exact event_answered (t := s) hready rfl (by simp [takenIn, requestKind, hhold]) rfl rfl (by simp) rfl rfl
  · rw [exec_of_request hi, event, requestArrives_idle hidle hnone, serve_resetPending (s := arrived r s) hreset]
    rfl
  · refine ⟨_, _, exec_event (f := replyEnds) (fun _ => rfl) ?_ rfl, rowAt_map_stopDeadline s.segments, rowAt_map_stopConfirm s.interrupters⟩
    simp only [replyEnds, hsending, hreplies, hr, if_true]
    rfl

end Sys2Proof.Machine
end

section
namespace Sys2Proof.Machine

/-! ### The judging of REPORT entries does not read Host Link -/

/-- The state with Host Link replaced. -/
def linked (x : HostLink) (s : State) : State := { s with hl := x }

/-- The function neither reads nor writes Host Link. -/
def OutsideLink (f : State → State) : Prop := ∀ x s, f (linked x s) = linked x (f s)

section
variable {x : HostLink} {s : State}

theorem enqueue_linked (n : Notice) : OutsideLink (enqueue n) := by
  intro x s
  unfold enqueue linked
  dsimp only
  split
  · rfl
  · cases makeRoom (noticeClass n.body) s.nq.queue <;> rfl

theorem raiseAt_linked (f : FrameNo) (b : NoticeBody) : OutsideLink (raiseAt f b) :=
  fun x s => enqueue_linked _ x { s with nq := { s.nq with seq := s.nq.seq + 1 } }

theorem raiseNow_linked (b : NoticeBody) : OutsideLink (raiseNow b) := fun x s => raiseAt_linked s.ft.frame b x s

theorem raiseAll_linked (f : FrameNo) (bs : List NoticeBody) : OutsideLink (raiseAll f bs) := by
  intro x s
  induction bs generalizing s with
  | nil => rfl
  | cons b bs ih => rw [raiseAll_cons, raiseAll_cons, raiseAt_linked, ih]

theorem quarantineSegment_linked (n : Nat) : OutsideLink (quarantineSegment n) := fun x s =>
  raiseNow_linked _ x (forgetWork n (leaveWaiters n { s with segments := setRow s.segments n .quarantined }))

theorem readSegment_linked (n : Nat) : OutsideLink (readSegment n) := by
  intro x s
  unfold readSegment
  rw [show segmentAt (linked x s) n = segmentAt s n from rfl]
  cases segmentAt s n with
  | none => rfl
  | some r =>
    dsimp only
    cases readResult r.err with
    | clean =>
      dsimp only
      rw [apply_ite (linked x)]
      rfl
    | single => rfl
    | double => exact quarantineSegment_linked n x (latch .eccDoubleSeen s)

theorem excludeFrom_linked (slot n : Nat) :
    excludeFrom slot n (linked x s) = (linked x (excludeFrom slot n s).1, (excludeFrom slot n s).2) := by
  unfold excludeFrom
  rw [show segmentAt (linked x s) n = segmentAt s n from rfl]
  cases segmentAt s n with
  | none => rfl
  | some r =>
    dsimp only
    split <;> rfl

theorem excludeEverywhere_linked (slot : Nat) (ns : List Nat) :
    excludeEverywhere slot ns (linked x s) = (linked x (excludeEverywhere slot ns s).1, (excludeEverywhere slot ns s).2) := by
  induction ns generalizing s with
  | nil => rfl
  | cons n ns ih =>
    simp only [excludeEverywhere]
    rw [readSegment_linked, excludeFrom_linked, ih]

theorem raiseExclusions_linked (slot : Nat) (ns : List Nat) :
    OutsideLink (fun s => raiseAll (excludeEverywhere slot ns s).1.ft.frame (excludeEverywhere slot ns s).2 (excludeEverywhere slot ns s).1) := by
  intro x s
  dsimp only
  rw [excludeEverywhere_linked]
  generalize excludeEverywhere slot ns s = out
  exact raiseAll_linked out.1.ft.frame out.2 x out.1

theorem quarantineSensor_linked (slot : Nat) : OutsideLink (quarantineSensor slot) := by
  intro x s
  have hlost : raiseNow (.quarantined .sensor slot) (lostSensor slot (linked x s)) =
      linked x (raiseNow (.quarantined .sensor slot) (lostSensor slot s)) := raiseNow_linked _ x (lostSensor slot s)
  rw [quarantineSensor_eq, quarantineSensor_eq, hlost]
  exact raiseExclusions_linked slot allSegments x _

theorem readSensor_linked (slot : Nat) : OutsideLink (readSensor slot) := by
  intro x s
  unfold readSensor
  rw [show sensorAt (linked x s) slot = sensorAt s slot from rfl]
  cases sensorAt s slot with
  | none => rfl
  | some r =>
    dsimp only
    cases readResult r.err with
    | clean =>
      dsimp only
      rw [apply_ite (linked x)]
      rfl
    | single => rfl
    | double => exact quarantineSensor_linked slot x (latch .eccDoubleSeen s)

theorem closeOldest_linked : OutsideLink closeOldest := by
  intro x s
  cases hp : s.pass with
  | some p => rw [closeOldest_busy (s := linked x s) (by simp [linked, hp]), closeOldest_busy (by simp [hp])]
  | none =>
    cases hr : s.ring with
    | nil => simp [closeOldest, linked, hp, hr]
    | cons f rest =>
      by_cases hc : f.cond = .closable
      · rw [closeOldest_closable (s := linked x s) hp hr hc, closeOldest_closable hp hr hc]
        rfl
      · rw [closeOldest_open (s := linked x s) hr hc, closeOldest_open hr hc]

theorem storeReport_linked (number : FrameNo) (slot : Nat) (r : StoredReport) : OutsideLink (storeReport number slot r) := by
  intro x s
  unfold storeReport
  rw [show testFrame (linked x s) = testFrame s from rfl, show (linked x s).ring = s.ring from rfl]
  cases s.ring with
  | nil => rfl
  | cons f rest =>
    dsimp only [List.map]
    rw [apply_ite (linked x), ← closeOldest_linked]
    rfl

theorem judgeKnown_linked (e : ReportEntry) (f : Frame) (slot : Nat) (r : SensorRec) :
    judgeKnown e f slot r (linked x s) = (linked x (judgeKnown e f slot r s).1, (judgeKnown e f slot r s).2) := by
  unfold judgeKnown
  split
  · rfl
  · split
    · rfl
    · split
      · rfl
      · dsimp only
        rw [Prod.mk.injEq, ← storeReport_linked]
        refine ⟨congrArg _ ?_, rfl⟩
        split <;> split <;> rfl

theorem judgeEntry_linked (e : ReportEntry) : judgeEntry e (linked x s) = (linked x (judgeEntry e s).1, (judgeEntry e s).2) := by
  unfold judgeEntry
  rw [show (linked x s).ft = s.ft from rfl, show frameFor (linked x s) e.frame = frameFor s e.frame from rfl,
    show (linked x s).index = s.index from rfl]
  split
  · rfl
  · cases frameFor s e.frame with
    | none => rfl
    | some f =>
      dsimp only
      cases rowAt s.index e.address.toNat with
      | none => rfl
      | some slot =>
        dsimp only
        rw [readSensor_linked]
        generalize readSensor slot s = u
        rw [show frameFor (linked x u) e.frame = frameFor u e.frame from rfl, show sensorAt (linked x u) slot = sensorAt u slot from rfl]
        cases frameFor u e.frame with
        | none => rfl
        | some g =>
          cases sensorAt u slot with
          | none => rfl
          | some r => exact judgeKnown_linked e g slot r

/-- The entries of a report are judged without Host Link. -/
theorem judgeEntries_linked (es : List ReportEntry) :
    judgeEntries es (linked x s) = (linked x (judgeEntries es s).1, (judgeEntries es s).2) := by
  induction es generalizing s with
  | nil => rfl
  | cons e es ih =>
    simp only [judgeEntries]
    rw [judgeEntry_linked, ih]

end
end Sys2Proof.Machine
end

section
namespace Sys2Proof.Machine

/-! ### REPORT (R37, R148) -/

theorem length_judgeEntries (es : List ReportEntry) (s : State) : (judgeEntries es s).2.length = es.length := by
  induction es generalizing s with
  | nil => rfl
  | cons e es ih => simp [judgeEntries, ih]

/-- The tail count after an action, the urgency source having stood as `u` before it (R148). -/
def settledTail (u : Bool) (t : State) : Nat :=
  if u && !urgencySource t then t.params.maintTail else if !u && urgencySource t then 0 else t.nq.tail

theorem settleUrgency_eq (u : Bool) (t : State) : settleUrgency u t = { t with nq := { t.nq with tail := settledTail u t } } := by
  cases u <;> cases hu : urgencySource t <;> simp [settleUrgency, settledTail, hu]

/-- Settles O40: the owner's action is the judging of the entries, which keeps what `standing` holds. -/
theorem reportAnswersEveryEntry : Obligations.ReportAnswersEveryEntry := by
  intro entries s hready hrun hfields
  extract_lets out tail
  have hstanding : standing out.1 = standing s := standing_judgeEntries s entries
  have hhl : out.1.hl = s.hl := congrArg Standing.hl hstanding
  refine ⟨?_, length_judgeEntries entries s, congrArg Standing.mc hstanding, hhl, congrArg Standing.ft hstanding,
    congrArg Standing.params hstanding, rfl, fun _ _ _ => rfl⟩
  have hact : act (.report entries) (acting (.report entries) s) = ({ out.1 with hl := (acting (.report entries) s).hl },
      okWith (frameBytes s.ft.frame ++ int1 entries.length ++ out.2.flatMap fun o => int1 (entryOutcomeByte o))) := by
    have hjudged := judgeEntries_linked (x := (acting (.report entries) s).hl) (s := s) entries
    have hreport : act (.report entries) (acting (.report entries) s) =
        takeReport entries (linked (acting (.report entries) s).hl s) := rfl
    rw [hreport, takeReport, hjudged]
    simp only [listBytes, length_judgeEntries, List.append_assoc, out]
    rfl
  rw [exec_of_request (i := .report entries) rfl,
    event_settled hready rfl (by simp [takenIn, requestKind, hrun]) hfields hact (follow_okWith _) hhl, settleUrgency_eq]
  rfl

end Sys2Proof.Machine
end

section
namespace Sys2Proof.Machine

/-! ### SET_MODE RUN (R54, R66, R158) -/

theorem act_setMode (target : Byte) (s : State) : act (.setMode target) s = takeSetMode (target == 1) s := rfl

theorem anySegment_iff {s : State} : anySegment s = true ↔ ∃ n < 40, (segmentAt s n).isSome = true := by
  simp [anySegment, mem_allSegments]

/-- SET_MODE RUN in RUN changes nothing (R158). -/
theorem takeSetMode_running {s : State} (hrun : s.mc.mode = .run) : takeSetMode true s = (s, okWith []) := by
  simp [takeSetMode, hrun]

/-- SET_MODE RUN in HOLD with no segment defined is refused (R158). -/
theorem takeSetMode_notReady {s : State} (hhold : s.mc.mode = .hold) (hnone : ∀ n < 40, segmentAt s n = none) :
    takeSetMode true s = (s, refuse .notReady) := by
  have hempty : anySegment s = false := by
    rw [← Bool.not_eq_true, anySegment_iff]
    rintro ⟨n, hn, hsome⟩
    simp [hnone n hn] at hsome
  simp [takeSetMode, hhold, hempty]

/-- SET_MODE RUN in HOLD, a segment defined: RUN is entered (R158). -/
theorem takeSetMode_run {s : State} (hhold : s.mc.mode = .hold) (hany : ∃ n < 40, (segmentAt s n).isSome = true) :
    takeSetMode true s = (enterRun s, okWith []) := by
  simp [takeSetMode, hhold, anySegment_iff.mpr hany]

/-- The first entry to RUN unseeds the sensors; a later one reads none (R66). -/
theorem enterRun_again {s : State} (h : s.mc.runEntered = true) :
    enterRun s = { s with ring := [], mc := { s.mc with mode := .run, runEntered := true } } := by
  simp [enterRun, h]

theorem enterRun_first {s : State} (h : s.mc.runEntered = false) (hclean : clean s = true) :
    ∃ tab, enterRun s = { s with sensors := tab, ring := [], mc := { s.mc with mode := .run, runEntered := true } } ∧
      ∀ d, rowAt tab d = if d < 48 then (rowAt s.sensors d).map (rewrittenSensor unseed) else rowAt s.sensors d := by
  obtain ⟨tab, htab, hrow⟩ := forEach_modifySensor (f := unseed) nodup_allSlots (s := s) fun n _ r hr => clean_sensor hclean hr
  have hunseeded : rewriteSensors unseed s = { s with sensors := tab } := htab
  refine ⟨tab, ?_, fun d => ?_⟩
  · simp [enterRun, h, hunseeded]
  · simpa [mem_allSlots] using hrow d

/-- Settles O5: the check and the entry read no record but those the first entry rewrites. -/
theorem setModeRunEntersRun : Obligations.SetModeRunEntersRun := by
  intro s hready hpass
  have hd (r : Request) := not_delayed (r := r) hpass
  have hhold' (h : s.mc.mode = .hold) : inService s = true := by simp [inService, h]
  have hentered {t : State} (hhold : s.mc.mode = .hold) (hany : ∃ n < 40, (segmentAt s n).isSome = true)
      (ht : enterRun (acting (.setMode 1) s) = { t with hl := (acting (.setMode 1) s).hl }) (hh : t.hl = s.hl)
      (hu : urgencySource t = urgencySource s) : exec (.setMode 1) s = .next (answered 3 (okWith []) t) := by
    refine exec_taken (i := .setMode 1) rfl hready (hd _) (hhold' hhold) rfl rfl ?_ (follow_okWith _) hh hu
    exact (takeSetMode_run (s := acting (.setMode 1) s) hhold hany).trans (by rw [ht])
  refine ⟨fun hrun => ?_, fun hhold hnone => ?_, fun hhold hany hagain => ?_, fun hhold hany hfirst hclean => ?_⟩
  · exact exec_unchanged (i := .setMode 1) rfl hready (hd _) (by simp [inService, hrun]) rfl rfl
      (takeSetMode_running (s := acting (.setMode 1) s) hrun) (follow_okWith _)
  · exact exec_unchanged (i := .setMode 1) rfl hready (hd _) (hhold' hhold) rfl rfl
      (takeSetMode_notReady (s := acting (.setMode 1) s) hhold hnone) (follow_refuse _)
  · exact hentered hhold hany (enterRun_again (s := acting (.setMode 1) s) hagain) rfl (by simp [urgencySource, hhold]; rfl)
  · obtain ⟨tab, htab, hrow⟩ := enterRun_first (s := acting (.setMode 1) s) hfirst (clean_acting hclean _)
    refine ⟨tab, hentered hhold hany htab rfl (by simp [urgencySource, hhold]; rfl), fun d r hd hr => ?_, fun d hd => ?_⟩
    · rw [hrow, if_pos hd]
      simp [acting_eq, sensorAt_row.mp hr, rewrittenSensor, unseed, clean_sensor hclean hr]
    · rw [hrow]
      split
      · exact rewrittenSensor_notLive (s := s) _ (hd.resolve_left (by omega))
      · rfl

end Sys2Proof.Machine
end

section
namespace Sys2Proof.Machine

/-! ### SET_MODE HOLD (R54, R104, R148, R158) -/

/-- SET_MODE HOLD in HOLD changes nothing (R158). -/
theorem takeSetMode_holding {s : State} (hhold : s.mc.mode = .hold) : takeSetMode false s = (s, okWith []) := by
  simp [takeSetMode, hhold]

/-- While an interrupter is TRIPPING the lowest such refuses HOLD (R158). -/
theorem takeSetMode_tripping {s : State} {x : Nat} (hrun : s.mc.mode = .run) (hx : x < 16) (htrip : isTripping s x = true)
    (hlow : ∀ y < x, isTripping s y = false) : takeSetMode false s = (s, refuseNaming .stateConflict .interrupter x) := by
  have hfind : allInterrupters.find? (isTripping s) = some x :=
    find_range_some (P := fun y => isTripping s y = true) (fun _ => Iff.rfl) hx htrip fun y hy => by simp [hlow y hy]
  simp [takeSetMode, hrun, hfind]

theorem takeSetMode_hold {s : State} (hrun : s.mc.mode = .run) (hnone : ∀ x < 16, isTripping s x = false) :
    takeSetMode false s = (enterHold s, okWith []) := by
  have hfind : allInterrupters.find? (isTripping s) = none :=
    (find_range_none (P := fun y => isTripping s y = true) fun _ => Iff.rfl).mpr fun y hy => by simp [hnone y hy]
  simp [takeSetMode, hrun, hfind]

/-- HOLD entry rewrites the segments and leaves every other block but the ring and the mode (R54, R104). -/
theorem enterHold_clean {s : State} (hclean : clean s = true) :
    ∃ tab, enterHold s = { s with segments := tab, ring := [], mc := { s.mc with mode := .hold } } ∧
      ∀ n, rowAt tab n = if n < 40 then (rowAt s.segments n).map (rewrittenSegment holdEntry) else rowAt s.segments n := by
  obtain ⟨tab, htab, hrow⟩ := forEach_modifySegment (g := fun _ => holdEntry) (f := holdEntry) nodup_allSegments
    (s := setPartMode .hold { s with ring := [] }) (fun _ => rfl) fun n _ r hr => clean_segment hclean hr
  exact ⟨tab, htab, fun n => by simpa [mem_allSegments] using hrow n⟩

/-- HOLD entry makes no segment SUSPECT or ISOLATING (R104). -/
theorem urgent_of_holdEntry {r : SegRec} (h : (holdEntry r).state = .suspect ∨ (holdEntry r).state = .isolating) :
    r.state = .suspect ∨ r.state = .isolating := by
  unfold holdEntry at h
  split at h <;> simp_all

/-- A table of segments after HOLD entry. -/
def HeldTable (s : State) (tab : Table SegPlace) : Prop :=
  ∀ n, rowAt tab n = if n < 40 then (rowAt s.segments n).map (rewrittenSegment holdEntry) else rowAt s.segments n

section
variable {s : State} {tab : Table SegPlace}

theorem HeldTable.live (h : HeldTable s tab) (hclean : clean s = true) {n : Nat} {r : SegRec} (hn : n < 40)
    (hr : segmentAt s n = some r) : rowAt tab n = some (.live (holdEntry r)) := by
  have herr : { holdEntry r with err := 0 } = holdEntry r := by
    have hr0 := clean_segment hclean hr
    unfold holdEntry
    split <;> simp [← hr0]
  rw [h, if_pos hn, segmentAt_row.mp hr, Option.map_some, rewrittenSegment, herr]

theorem HeldTable.kept (h : HeldTable s tab) {n : Nat} (hn : 40 ≤ n ∨ segmentAt s n = none) : rowAt tab n = rowAt s.segments n := by
  rw [h]
  split
  · exact rewrittenSegment_notLive (s := s) _ (hn.resolve_left (by omega))
  · rfl

/-- HOLD entry leaves no segment urgent that was not (R104, R148). -/
theorem HeldTable.urgent (h : HeldTable s tab) (hclean : clean s = true) {n : Nat}
    (hu : segmentUrgent { s with segments := tab } n = true) : segmentUrgent s n = true := by
  have hrow : segmentAt { s with segments := tab } n = segmentAt s n ∨
      ∃ r, segmentAt s n = some r ∧ segmentAt { s with segments := tab } n = some (holdEntry r) := by
    cases hr : segmentAt s n with
    | none =>
      left
      rw [← hr, segmentAt, segmentAt, h.kept (.inr hr)]
    | some r =>
      by_cases hn : n < 40
      · exact .inr ⟨r, rfl, segmentAt_row.mpr (h.live hclean hn hr)⟩
      · left
        rw [← hr, segmentAt, segmentAt, h.kept (.inl (by omega))]
  rcases hrow with he | ⟨r, hr, he⟩
  · rwa [segmentUrgent, he] at hu
  · simp only [segmentUrgent, he, hr, Bool.or_eq_true, beq_iff_eq] at hu ⊢
    exact urgent_of_holdEntry hu

/-- The tail after HOLD entry: it starts when the urgency source ends with it (R148). -/
theorem HeldTable.tail (h : HeldTable s tab) (hclean : clean s = true) (hrun : s.mc.mode = .run) (t : State)
    (ht : t = { s with segments := tab, ring := [], mc := { s.mc with mode := .hold } }) :
    settledTail (urgencySource s) t = if urgencySource s && !urgencySource t then s.params.maintTail else s.nq.tail := by
  subst ht
  generalize ht : ({ s with segments := tab, ring := [], mc := { s.mc with mode := .hold } } : State) = t
  have hback (hu : urgencySource t = true) : urgencySource s = true := by
    subst ht
    simp only [urgencySource, Bool.and_eq_true, Bool.or_eq_true, List.any_eq_true] at hu ⊢
    refine ⟨by simp [hrun], hu.2.imp ?_ id⟩
    rintro ⟨n, hn, hun⟩
    exact ⟨n, hn, h.urgent hclean hun⟩
  unfold settledTail
  cases hs : urgencySource s with
  | true => subst ht; simp
  | false =>
    have hnot : urgencySource t = false := by
      rw [← Bool.not_eq_true]
      intro hu
      simp [hback hu] at hs
    subst ht
    simp [hnot]

end

/-- Settles O6: the lowest TRIPPING interrupter refuses; otherwise the records are rewritten one by one, none becoming urgent. -/
theorem setModeHoldEntersHold : Obligations.SetModeHoldEntersHold := by
  intro s hready hpass hclean
  have hd (r : Request) := not_delayed (r := r) hpass
  refine ⟨fun hhold => ?_, fun x hx hrun htrip hlow => ?_, fun hrun hnone => ?_⟩
  · exact exec_unchanged (i := .setMode 0) rfl hready (hd _) (by simp [inService, hhold]) rfl rfl
      (takeSetMode_holding (s := acting (.setMode 0) s) hhold) (follow_okWith _)
  · exact exec_unchanged (i := .setMode 0) rfl hready (hd _) (by simp [inService, hrun]) rfl rfl
      (takeSetMode_tripping (s := acting (.setMode 0) s) hrun hx htrip hlow) (follow_refuseNaming _ _ _)
  · obtain ⟨tab, htab, hrow⟩ := enterHold_clean (clean_acting hclean (.setMode 0))
    have hheld : HeldTable s tab := hrow
    have hact := (takeSetMode_hold (s := acting (.setMode 0) s) hrun hnone).trans (congrArg (·, okWith []) htab)
    have hexec : exec (.setMode 0) s = .next (answered 3 (okWith []) (settleUrgency (urgencySource s)
        { s with segments := tab, ring := [], mc := { s.mc with mode := .hold } })) := by
      rw [exec_of_request (i := .setMode 0) rfl]
      exact event_settled hready (hd _) (by simp [takenIn, requestKind, hrun]) rfl hact (follow_okWith _) rfl
    rw [settleUrgency_eq, hheld.tail hclean hrun _ rfl] at hexec
    refine ⟨_, hexec, rfl, fun n hn => hheld.kept hn, fun n r hn hr => ⟨fun hst => ?_, fun hst => ?_, fun hst => ?_, fun hst => ?_⟩⟩ <;>
      refine (hheld.live hclean hn hr).trans ?_
    · simp [holdEntry, hst]
    · rcases hst with hst | hst <;> simp [holdEntry, hst]
    · simp [holdEntry, hst]
    · rcases hst with hst | hst | hst | hst <;> simp [holdEntry, hst]

end Sys2Proof.Machine
end

section
namespace Sys2Proof.Machine

/-! ### The closing test (R47, R48) -/

/-- Slot d is awaited: expected, with no stored report. -/
theorem mem_awaited {f : Frame} {d : Nat} : d ∈ awaited f ↔ d ∈ f.expected ∧ rowAt f.reports d = none := by
  simp [awaited]

theorem maxLatency_le {s : State} {l : List Nat} {m : Nat} : maxLatency s l ≤ m ↔ ∀ d ∈ l, latencyOf s d ≤ m := by
  refine ⟨fun h d hd => (foldl_max_le.2 d hd).trans h, fun h => ?_⟩
  rcases foldl_max_attained (f := latencyOf s) (l := l) (m := 0) with h0 | ⟨d, hd, he⟩
  · exact h0.le.trans (Nat.zero_le m)
  · exact he.ge.trans (h d hd)

/-- The age meets the hold: MIN_HOLD and the latency class of every awaited sensor (R47). -/
theorem holdOf_le {s : State} {f : Frame} {age : Int} : (holdOf s f : Int) ≤ age ↔
    (s.params.minHold : Int) ≤ age ∧ ∀ d r, d ∈ f.expected ∧ rowAt f.reports d = none → sensorAt s d = some r → (r.latency : Int) ≤ age := by
  by_cases hneg : age < 0
  · constructor
    · intro h
      omega
    · rintro ⟨h, -⟩
      omega
  · obtain ⟨n, rfl⟩ := Int.eq_ofNat_of_zero_le (Int.not_lt.mp hneg)
    simp only [Int.ofNat_le, holdOf, Nat.max_le, maxLatency_le]
    refine and_congr_right fun _ => ⟨fun h d r hd hr => ?_, fun h d hd => ?_⟩
    · exact latencyOf_live hr ▸ h d (mem_awaited.mpr hd)
    · unfold latencyOf
      split
      · exact h d _ (mem_awaited.mp hd) ‹_›
      · exact Nat.zero_le _

/-- The closing test writes the condition alone. -/
theorem testFrame_eq (s : State) (f : Frame) : testFrame s f = { f with cond := (testFrame s f).cond } := by
  unfold testFrame
  split <;> rfl

theorem testFrame_closable {s : State} {f : Frame} (h : f.cond = .opened) :
    (testFrame s f).cond = .closable ↔ mayClose s f = true := by
  unfold testFrame
  cases mayClose s f <;> simp [h]

/-- Settles O17: the frame start opens, tests and closes as `frameOpened` says, and the test is the comparison of age and hold. -/
theorem frameStartInRunOpensAndTests : Obligations.FrameStartInRunOpensAndTests := by
  refine ⟨fun e s hheld hrun he hl hlen => ?_, fun f s hopen => ⟨?_, testFrame_eq s f⟩⟩
  · obtain ⟨ring, pass, hstart, -, hopened⟩ := frameStart_free (s := s) (max s.now e) (.inr ⟨hrun, hlen⟩)
    refine ⟨_, exec_internalFrameStart hheld (inService_iff.mpr (.inr hrun)) he hl hstart, hopened hrun _ rfl rfl, rfl⟩
  · rw [testFrame_closable hopen, mayClose, Bool.or_eq_true, List.isEmpty_iff, List.eq_nil_iff_forall_not_mem, decide_eq_true_eq, holdOf_le]
    simp only [mem_awaited]

end Sys2Proof.Machine
end

section
namespace Sys2Proof.Machine

/-! ### REPORT entries judged (R38 to R43) -/

/-- An outcome that adds 1 to a count and changes nothing else, as O41 states it. -/
theorem bump_rise (n : CountName) (s : State) : ∃ c, bump n s = { s with cb := { s.cb with counts := c } } ∧
    ∀ d, c.get d = if d = n then min (s.cb.counts.get d + 1) 65535 else s.cb.counts.get d :=
  ⟨_, rfl, fun d => bump_get n d s⟩

section
variable {e : ReportEntry} {s : State} {before after : List Frame} {f : Frame}

/-- No frame of that number is held OPEN or CLOSABLE (R38 check 2). -/
theorem frameFor_none {number : FrameNo} (h : ∀ f ∈ s.ring, f.number = number → f.cond = .evaluating) : frameFor s number = none := by
  simp only [frameFor, List.find?_eq_none, Bool.and_eq_true, beq_iff_eq, bne_iff_ne, not_and, not_not]
  exact h

/-- The first frame of that number held OPEN or CLOSABLE is the one for the report (R38 check 2). -/
theorem frameFor_some {number : FrameNo} (hring : s.ring = before ++ f :: after) (hf : f.number = number)
    (hc : f.cond ≠ .evaluating) (hb : ∀ g ∈ before, g.number ≠ number ∨ g.cond = .evaluating) : frameFor s number = some f := by
  rw [frameFor, List.find?_eq_some_iff_append]
  refine ⟨by simp [hf, hc], before, after, hring, fun g hg => ?_⟩
  rcases hb g hg with hn | he
  · simp [hn]
  · simp [he]

/-- The entry lacks a phase that the sensor carries (R41). -/
theorem lacksPhase_iff {r : SensorRec} : lacksPhase r e = true ↔
    ∃ p : Phase, perPhase r.phases p = true ∧ perPhase (phasesOfByte e.carried) p = false := by
  rw [lacksPhase, Bool.not_eq_true', phaseSubset_false]

/-- An entry for a frame ahead (R38 check 1). -/
theorem judgeEntry_future (h : frameDiff s.ft.frame e.frame < 0) : judgeEntry e s = (bump .reportFuture s, .future) := by
  simp [judgeEntry, h]

theorem judgeEntry_late (h : 0 ≤ frameDiff s.ft.frame e.frame) (hnone : frameFor s e.frame = none) :
    judgeEntry e s = (bump .reportLate s, .late) := by
  simp [judgeEntry, not_lt.mpr h, hnone]

theorem judgeEntry_unknown (h : 0 ≤ frameDiff s.ft.frame e.frame) (hf : frameFor s e.frame = some f)
    (hindex : rowAt s.index e.address.toNat = none) : judgeEntry e s = (bump .reportUnknown s, .unknownSensor) := by
  simp [judgeEntry, not_lt.mpr h, hf, hindex]

/-- An entry whose frame is held and whose address finds a live record goes on to the later checks (R38). -/
theorem judgeEntry_known (hclean : clean s = true) (h : 0 ≤ frameDiff s.ft.frame e.frame) (hf : frameFor s e.frame = some f) {d : Nat}
    {r : SensorRec} (hindex : rowAt s.index e.address.toNat = some d) (hr : sensorAt s d = some r) :
    judgeEntry e s = judgeKnown e f d r s := by
  simp [judgeEntry, not_lt.mpr h, hf, hindex, readSensor_clean hclean, hr]

end

/-- Settles O41: each check is a branch of the judging, taken in its order. -/
theorem entriesAreJudgedInOrder : Obligations.EntriesAreJudgedInOrder := by
  intro e s hclean rise
  have hrise {n : CountName} {o : EntryOutcome} (h : judgeEntry e s = (bump n s, o)) : rise n o := by
    obtain ⟨c, hc, hget⟩ := bump_rise n s
    exact ⟨c, h.trans (by rw [hc]), hget⟩
  refine ⟨fun h => hrise (judgeEntry_future h), fun h hnone => hrise (judgeEntry_late h (frameFor_none hnone)),
    fun before f after h hring hnum hc hb => ?_⟩
  have hf := frameFor_some hring hnum hc hb
  refine ⟨fun hindex => hrise (judgeEntry_unknown h hf hindex), fun d r hindex hr => ?_⟩
  have hknown := judgeEntry_known hclean h hf hindex hr
  refine ⟨fun hd => hrise ?_, fun hd hq hlacks => ?_, fun hd hok hdup => hrise ?_⟩ <;> rw [hknown, judgeKnown]
  · simp [hd]
  · simp [hd, entryValid, hq, lacksPhase_iff.mpr hlacks]
  · have hpass : (entryValid e && lacksPhase r e) = false := by
      rw [← Bool.not_eq_true, Bool.and_eq_true, lacksPhase_iff, entryValid, beq_iff_eq]
      rintro ⟨hq, hl⟩
      rcases hok with hne | hno
      · exact hne hq
      · exact hno hl
    simp [hd, hpass, Option.isSome_iff_ne_none, hdup]

end Sys2Proof.Machine
end

section
namespace Sys2Proof.Machine

/-! ### Stored entries (R43, R48, R49) -/

/-- A voltage of the sensor's phases stands above 2047 (R43). -/
theorem clamps_iff {r : SensorRec} {e : ReportEntry} : clamps r e = true ↔
    ∃ p v, perPhase r.phases p = true ∧ entryValue e p = some v ∧ 2047 < v.v.toNat := by
  simp only [clamps, List.any_eq_true, Bool.and_eq_true]
  refine exists_congr fun p => ?_
  have hp : p ∈ allPhases := by cases p <;> simp [allPhases]
  cases entryValue e p <;> simp [hp]

section
variable {s t : State}

/-- The closing test reads of the sensors their latency classes alone (R47). -/
theorem testFrame_of_latencies (hparams : t.params = s.params) (hlatency : latencyOf t = latencyOf s) (hframe : t.ft.frame = s.ft.frame) :
    testFrame t = testFrame s := by
  funext f
  rw [testFrame, testFrame, mayClose, mayClose, holdOf, holdOf, maxLatency, maxLatency, hlatency, hparams, hframe]

variable {before after : List Frame} {f : Frame} {d : Nat} {report : StoredReport}

/-- The frame as it stands with the report in it, tested for closing (R43, R48). -/
def storedFrame (s : State) (f : Frame) (d : Nat) (report : StoredReport) : Frame :=
  testFrame s { f with reports := setRow f.reports d report }

theorem storedFrame_reports : (storedFrame s f d report).reports = setRow f.reports d report := by
  rw [storedFrame, testFrame_eq]

theorem storedFrame_number : (storedFrame s f d report).number = f.number := by
  rw [storedFrame, testFrame_eq]

/-- The one frame of that number is rewritten in its place (R43). -/
theorem put_ring (hring : s.ring = before ++ f :: after) (hc : f.cond ≠ .evaluating)
    (hother : ∀ h ∈ before ++ after, h.number ≠ f.number) :
    (s.ring.map fun h => if h.number = f.number && h.cond ≠ .evaluating then storedFrame s h d report else h) =
      before ++ storedFrame s f d report :: after := by
  have hkeep {l : List Frame} (hl : ∀ h ∈ l, h.number ≠ f.number) :
      (l.map fun h => if h.number = f.number && h.cond ≠ .evaluating then storedFrame s h d report else h) = l :=
    (List.map_congr_left fun h hh => by simp [hl h hh]).trans (List.map_id l)
  rw [hring, List.map_append, List.map_cons, hkeep fun h hh => hother h (by simp [hh]), hkeep fun h hh => hother h (by simp [hh])]
  simp [hc]

/-- A report for a frame that is not made CLOSABLE as the oldest is filed and nothing closes (R49). -/
theorem storeReport_filed (hring : s.ring = before ++ f :: after) (hc : f.cond ≠ .evaluating)
    (hother : ∀ h ∈ before ++ after, h.number ≠ f.number)
    (hstay : before ≠ [] ∨ f.cond ≠ .opened ∨ (storedFrame s f d report).cond ≠ .closable ∨ s.pass ≠ none) :
    storeReport f.number d report s = { s with ring := before ++ storedFrame s f d report :: after } := by
  have hput := put_ring (d := d) (report := report) hring hc hother
  unfold storeReport
  simp only [storedFrame] at *
  rw [hput]
  cases before with
  | nil =>
    rw [hring]
    dsimp only [List.nil_append]
    split
    · rename_i hcl
      simp only [Bool.and_eq_true, decide_eq_true_eq] at hcl
      rw [closeOldest_busy]
      rcases hstay with h | h | h | h
      · exact absurd rfl h
      · exact absurd hcl.1 h
      · exact absurd hcl.2 h
      · exact Option.isSome_iff_ne_none.mpr h
    · rfl
  | cons g rest =>
    rw [hring]
    dsimp only [List.cons_append]
    rw [if_neg]
    cases g.cond <;> simp

/-- A report that makes the oldest frame CLOSABLE with no pass in flight closes it, and its pass begins (R49, R75). -/
theorem storeReport_closed (hring : s.ring = f :: after) (hother : ∀ h ∈ after, h.number ≠ f.number) (hopen : f.cond = .opened)
    (hclosable : (storedFrame s f d report).cond = .closable) (hpass : s.pass = none) :
    storeReport f.number d report s = { s with
      ring := { storedFrame s f d report with cond := .evaluating } :: after, pass := some (newPass s f.number) } := by
  have hput := put_ring (before := []) (d := d) (report := report) hring (by simp [hopen]) hother
  have hclose := closeOldest_closable (s := { s with ring := storedFrame s f d report :: after }) hpass rfl hclosable
  have hbegins : newPass { s with ring := storedFrame s f d report :: after } (storedFrame s f d report).number = newPass s f.number := by
    rw [storedFrame_number]
    rfl
  rw [hbegins] at hclose
  unfold storeReport
  simp only [storedFrame] at *
  rw [hput, hring]
  dsimp only [List.nil_append]
  rw [if_pos (Bool.and_eq_true_iff.mpr ⟨decide_eq_true hopen, decide_eq_true hclosable⟩), hclose]

/-- Both ways of filing a report (R43, R49, R75). -/
theorem storeReport_files (hring : s.ring = before ++ f :: after) (hc : f.cond ≠ .evaluating)
    (hother : ∀ h ∈ before ++ after, h.number ≠ f.number) :
    ∃ ring pass, storeReport f.number d report s = { s with ring, pass } ∧
      (before ≠ [] ∨ f.cond ≠ .opened ∨ (storedFrame s f d report).cond ≠ .closable ∨ s.pass ≠ none →
        ring = before ++ storedFrame s f d report :: after ∧ pass = s.pass) ∧
      (before = [] → f.cond = .opened → (storedFrame s f d report).cond = .closable → s.pass = none →
        ring = { storedFrame s f d report with cond := .evaluating } :: after ∧ pass = some (newPass s f.number)) := by
  by_cases hclose : before = [] ∧ f.cond = .opened ∧ (storedFrame s f d report).cond = .closable ∧ s.pass = none
  · obtain ⟨hb, hopen, hclosable, hpass⟩ := hclose
    subst hb
    refine ⟨_, _, storeReport_closed hring hother hopen hclosable hpass, fun hstay => ?_, fun _ _ _ _ => ⟨rfl, rfl⟩⟩
    simp [hopen, hclosable, hpass] at hstay
  · have hstay : before ≠ [] ∨ f.cond ≠ .opened ∨ (storedFrame s f d report).cond ≠ .closable ∨ s.pass ≠ none := by
      simpa only [not_and_or] using hclose
    exact ⟨_, _, storeReport_filed hring hc hother hstay, fun _ => ⟨rfl, rfl⟩,
      fun hb hopen hclosable hpass => absurd ⟨hb, hopen, hclosable, hpass⟩ hclose⟩

/-- The state in which an entry that passes every check is filed: the sensor seen, the clamped entry counted (R43). -/
def seenAndCounted (e : ReportEntry) (d : Nat) (r : SensorRec) (s : State) : State :=
  let seen := if r.seen then s else writeSensor d { r with seen := true } s
  if entryValid e && clamps r e then bump .reportClamped seen else seen

/-- The report as stored for the entry (R43). -/
def reportOf (e : ReportEntry) (r : SensorRec) : StoredReport := if entryValid e then .valid (storedValues r e) else .invalid

variable {e : ReportEntry} {r : SensorRec}

theorem judgeKnown_stored (hd : d ∈ f.expected) (hnew : rowAt f.reports d = none)
    (hok : e.quality ≠ 0 ∨ phaseSubset r.phases (phasesOfByte e.carried) = true) :
    judgeKnown e f d r s = (storeReport f.number d (reportOf e r) (seenAndCounted e d r s), .stored) := by
  have hpass : (entryValid e && lacksPhase r e) = false := by
    rcases hok with hq | hsub
    · simp [entryValid, show ¬ e.quality = 0#8 from hq]
    · simp [lacksPhase, hsub]
  simp [judgeKnown, hd, hpass, hnew, reportOf, seenAndCounted]

theorem seenAndCounted_eq : ∃ sensors counts, seenAndCounted e d r s = { s with sensors, cb := { s.cb with counts } } := by
  unfold seenAndCounted
  dsimp only
  split <;> split <;> exact ⟨_, _, rfl⟩

theorem seenAndCounted_sensors (hclean : clean s = true) (hr : sensorAt s d = some r) (k : Nat) :
    rowAt (seenAndCounted e d r s).sensors k = if k = d then some (.live { r with seen := true }) else rowAt s.sensors k := by
  have hsensors : (seenAndCounted e d r s).sensors = (if r.seen then s else writeSensor d { r with seen := true } s).sensors := by
    unfold seenAndCounted
    dsimp only
    split <;> rfl
  have herr := clean_sensor hclean hr
  rw [hsensors]
  split
  · rename_i hseen
    split
    · subst k
      rw [sensorAt_row.mp hr, ← hseen]
    · rfl
  · rw [writeSensor, rowAt_setRow, herr]

theorem seenAndCounted_counts (k : CountName) : (seenAndCounted e d r s).cb.counts.get k =
    if k = .reportClamped ∧ entryValid e = true ∧ clamps r e = true then min (s.cb.counts.get k + 1) 65535 else s.cb.counts.get k := by
  have hcb : (if r.seen then s else writeSensor d { r with seen := true } s).cb = s.cb := by
    split <;> rfl
  unfold seenAndCounted
  by_cases h : entryValid e = true ∧ clamps r e = true
  · simp [h, bump_get, hcb]
  · simp [h, hcb]

/-- Seeing a sensor leaves every latency class (R47). -/
theorem seenAndCounted_latency (hclean : clean s = true) (hr : sensorAt s d = some r) :
    latencyOf (seenAndCounted e d r s) = latencyOf s := by
  have hrow := seenAndCounted_sensors (e := e) hclean hr
  funext k
  unfold latencyOf
  by_cases hk : k = d
  · have hnow : sensorAt (seenAndCounted e d r s) k = some { r with seen := true } := sensorAt_row.mpr (by rw [hrow, if_pos hk])
    rw [hnow, hk, hr]
  · have hsame : sensorAt (seenAndCounted e d r s) k = sensorAt s k := by rw [sensorAt, sensorAt, hrow, if_neg hk]
    rw [hsame]

end

/-- Settles O42: the entry is filed in the frame of its number, and the two ways of `storeReport` are the two clauses. -/
theorem storedEntriesKeepTheirValues : Obligations.StoredEntriesKeepTheirValues := by
  intro e s f before after d r hclean hahead hring hnum hc hother hindex hr hd hnew hok clamped report
  have hf : frameFor s e.frame = some f := frameFor_some hring hnum hc fun g hg => .inl (hother g (by simp [hg]))
  have hjudge : judgeEntry e s = _ := (judgeEntry_known hclean hahead hf hindex hr).trans (judgeKnown_stored hd hnew hok)
  have hreport : reportOf e r = report := if_congr (by simp [entryValid]) rfl rfl
  have hcounts := seenAndCounted_counts (e := e) (d := d) (r := r) (s := s)
  have hrows := seenAndCounted_sensors (e := e) hclean hr
  obtain ⟨sensors, counts, hu⟩ := seenAndCounted_eq (e := e) (d := d) (r := r) (s := s)
  have htest : testFrame (seenAndCounted e d r s) = testFrame s :=
    testFrame_of_latencies (by rw [hu]) (seenAndCounted_latency hclean hr) (by rw [hu])
  have hstored : storedFrame (seenAndCounted e d r s) f d report = storedFrame s f d report := congrFun htest _
  rw [hreport] at hjudge
  generalize seenAndCounted e d r s = u at *
  have huring : u.ring = before ++ f :: after := by rw [hu, ← hring]
  obtain ⟨ring, pass, hfile, hstay, hclose⟩ := storeReport_files (report := report) (d := d) huring hc (hnum ▸ hother)
  rw [hstored] at hstay hclose
  subst hu
  have hvalid : entryValid e = true ↔ e.quality = 0 := by simp [entryValid]
  refine ⟨_, storedFrame s f d report, hjudge, ?_⟩
  rw [hfile]
  refine ⟨rfl, hrows, fun k hk hq hcl => ?_, fun k hk => ?_, fun k => ?_, ?_, hstay, fun hb hopen hcl hp => ?_⟩
  · exact (hcounts k).trans (if_pos ⟨hk, hvalid.mpr hq, clamps_iff.mpr hcl⟩)
  · exact (hcounts k).trans (if_neg fun ⟨hc, hq, hcl⟩ => hk ⟨hc, hvalid.mp hq, clamps_iff.mp hcl⟩)
  · rw [storedFrame_reports, rowAt_setRow]
  · rw [storedFrame_reports]
    rfl
  · obtain ⟨hring', hpass'⟩ := hclose hb hopen hcl hp
    exact ⟨hring', _, hpass', fun b => mem_shadowedNow⟩
end Sys2Proof.Machine
end

section
namespace Sys2Proof.Machine

/-! ### Tables rewritten record by record -/

/-- A sensor's place with its record rewritten. -/
def liveSensor (h : SensorRec → SensorRec) : SensorPlace → SensorPlace
  | .live r => .live (h r)
  | .quarantined => .quarantined

/-- A segment's place with its record rewritten. -/
def liveSegment (h : SegRec → SegRec) : SegPlace → SegPlace
  | .live r => .live (h r)
  | .quarantined => .quarantined

theorem liveSegment_id : liveSegment (fun r => r) = id := by
  funext p
  cases p <;> rfl

theorem liveSegment_comp (g h : SegRec → SegRec) (p : SegPlace) : liveSegment g (liveSegment h p) = liveSegment (fun r => g (h r)) p := by
  cases p <;> rfl

section
variable {s t : State} {n d : Nat}

theorem segmentAt_rewritten {h : SegRec → SegRec} (hrow : rowAt t.segments n = (rowAt s.segments n).map (liveSegment h)) :
    segmentAt t n = (segmentAt s n).map h := by
  unfold segmentAt
  rw [hrow]
  rcases rowAt s.segments n with _ | _ | _ <;> rfl

theorem sensorAt_rewritten {h : SensorRec → SensorRec} (hrow : rowAt t.sensors d = (rowAt s.sensors d).map (liveSensor h)) :
    sensorAt t d = (sensorAt s d).map h := by
  unfold sensorAt
  rw [hrow]
  rcases rowAt s.sensors d with _ | _ | _ <;> rfl

theorem vacant_sensor (hr : sensorAt s d = none) (h : SensorRec → SensorRec) :
    (rowAt s.sensors d).map (liveSensor h) = rowAt s.sensors d := by
  revert hr
  unfold sensorAt
  rcases rowAt s.sensors d with _ | _ | _ <;> simp [liveSensor]

theorem vacant_segment (hr : segmentAt s n = none) (h : SegRec → SegRec) :
    (rowAt s.segments n).map (liveSegment h) = rowAt s.segments n := by
  revert hr
  unfold segmentAt
  rcases rowAt s.segments n with _ | _ | _ <;> simp [liveSegment]

/-! ### Sensing loss: the segments that a sensor is excluded from (R112) -/

/-- The record names the sensor and does not exclude it yet. -/
def joins (d : Nat) (r : SegRec) : Bool := names r d && !r.excluded.contains d

def joined (d : Nat) (r : SegRec) : SegRec := if joins d r then withExcluded d r else r

/-- The notice of a sensor's joining segment n (R112). -/
def joinNotice (s : State) (d n : Nat) : NoticeBody :=
  match segmentAt s n with
  | some r => exclusionNotice n d (withExcluded d r)
  | none => .sensorStale d 0 0

/-- No record found by number holds an inverted bit in the two tables that a pass's sensing reads. -/
def readsClean (s : State) : Prop := (∀ d r, sensorAt s d = some r → r.err = 0) ∧ ∀ n r, segmentAt s n = some r → r.err = 0

theorem joined_err {r : SegRec} (h : r.err = 0) : (joined d r).err = 0 := by
  unfold joined
  split
  · exact h
  · exact h

theorem excludeFrom_some {r : SegRec} (hr : segmentAt s n = some r) : excludeFrom d n s =
    if joins d r then (writeSegment n (withExcluded d r) s, [exclusionNotice n d (withExcluded d r)]) else (s, []) := by
  simp only [excludeFrom, hr]
  rfl

theorem inTreeWith_some {r : SegRec} (hr : segmentAt s n = some r) (f : SegRec → Bool) : inTreeWith s f n = f r := by
  simp [inTreeWith, hr]

theorem joinNotice_some {r : SegRec} (hr : segmentAt s n = some r) : joinNotice s d n = exclusionNotice n d (withExcluded d r) := by
  simp [joinNotice, hr]

/-- One segment takes the sensor in or stays as it is (R112). -/
theorem excludeFrom_spec (hclean : ∀ n r, segmentAt s n = some r → r.err = 0) : ∃ tab,
    excludeFrom d n s = ({ s with segments := tab }, if inTreeWith s (joins d) n then [joinNotice s d n] else []) ∧
    ∀ m, rowAt tab m = (rowAt s.segments m).map (liveSegment fun r => if m = n then joined d r else r) := by
  have hkept {m : Nat} (hm : m ≠ n) : rowAt s.segments m = (rowAt s.segments m).map (liveSegment fun r => if m = n then joined d r else r) := by
    simp [hm, liveSegment_id]
  cases hr : segmentAt s n with
  | none =>
    refine ⟨s.segments, by simp [excludeFrom, inTreeWith, hr], fun m => ?_⟩
    by_cases hm : m = n
    · exact (vacant_segment (hm ▸ hr) _).symm
    · exact hkept hm
  | some r =>
    have hrow := segmentAt_row.mp hr
    by_cases hj : joins d r = true
    · refine ⟨_, by rw [excludeFrom_some hr, inTreeWith_some hr, joinNotice_some hr, if_pos hj, if_pos hj]; rfl, fun m => ?_⟩
      by_cases hm : m = n
      · subst hm
        simp [hrow, liveSegment, joined, hj, withExcluded, hclean m r hr]
      · rw [rowAt_setRow, if_neg hm]
        exact hkept hm
    · refine ⟨s.segments, by rw [excludeFrom_some hr, inTreeWith_some hr, if_neg hj, if_neg hj], fun m => ?_⟩
      by_cases hm : m = n
      · subst hm
        simp [hrow, liveSegment, joined, hj]
      · exact hkept hm

/-- Every segment of a list takes the sensor in, or stays; the notices come in the list's order (R112). -/
theorem excludeEverywhere_spec {ns : List Nat} (hnd : ns.Nodup) (hclean : ∀ n r, segmentAt s n = some r → r.err = 0) : ∃ tab,
    excludeEverywhere d ns s = ({ s with segments := tab }, (ns.filter (inTreeWith s (joins d))).map (joinNotice s d)) ∧
    ∀ m, rowAt tab m = (rowAt s.segments m).map (liveSegment fun r => if m ∈ ns then joined d r else r) := by
  induction ns generalizing s with
  | nil => exact ⟨s.segments, rfl, fun m => by simp [liveSegment_id]⟩
  | cons n rest ih =>
    obtain ⟨hn, hrest⟩ := List.nodup_cons.mp hnd
    obtain ⟨tab, hfrom, hrows⟩ := excludeFrom_spec (d := d) (n := n) hclean
    have hat (m : Nat) : segmentAt { s with segments := tab } m = (segmentAt s m).map fun r => if m = n then joined d r else r :=
      segmentAt_rewritten (hrows m)
    have hclean' : ∀ m r, segmentAt { s with segments := tab } m = some r → r.err = 0 := by
      intro m r hr
      rw [hat] at hr
      obtain ⟨q, hq, rfl⟩ := Option.map_eq_some_iff.mp hr
      have hz := hclean m q hq
      split
      · exact joined_err hz
      · exact hz
    obtain ⟨tab', heverywhere, hrows'⟩ := ih hrest hclean'
    have hsame {m : Nat} (hm : m ∈ rest) : segmentAt { s with segments := tab } m = segmentAt s m := by
      have hne : m ≠ n := fun h => hn (h ▸ hm)
      simp [hat, hne]
    have hfilter : rest.filter (inTreeWith { s with segments := tab } (joins d)) = rest.filter (inTreeWith s (joins d)) :=
      List.filter_congr fun m hm => by rw [inTreeWith, inTreeWith, hsame hm]
    have hnotices : (rest.filter (inTreeWith s (joins d))).map (joinNotice { s with segments := tab } d) =
        (rest.filter (inTreeWith s (joins d))).map (joinNotice s d) :=
      List.map_congr_left fun m hm => by rw [joinNotice, joinNotice, hsame (List.mem_of_mem_filter hm)]
    refine ⟨tab', ?_, fun m => ?_⟩
    · rw [excludeEverywhere, readSegment_noError (hclean n), hfrom]
      dsimp only
      rw [heverywhere, hfilter, hnotices, List.filter_cons]
      cases inTreeWith s (joins d) n <;> rfl
    · rw [hrows' m, hrows m, Option.map_map]
      congr 1
      funext p
      rw [Function.comp_apply, liveSegment_comp]
      by_cases hm : m = n
      · subst hm
        simp [hn]
      · simp [hm]

end
end Sys2Proof.Machine
end

section
namespace Sys2Proof.Machine

/-! ### Stage 1 on one sensor (R51, R58, R61, R78) -/

section
variable {s t : State} {f : Frame} {d : Nat} {r : SensorRec}

/-- The sensor, silent in the evaluated frame, goes STALE (R51, R111). -/
def goesStale (s : State) (d : Nat) (r : SensorRec) : Bool :=
  (validReport s d).isNone && r.status == .active && decide (s.params.staleLimit ≤ (missingStep false r).missingRun)

/-- The sensor, STALE until now, is heard again (R114). -/
def isHeard (s : State) (d : Nat) (r : SensorRec) : Bool := (validReport s d).isSome && r.status == .stale

/-- A sensor's record after stage 1. -/
def sensedRecord (s : State) (number : FrameNo) (d : Nat) (r : SensorRec) : SensorRec :=
  match validReport s d with
  | some v => { r with
      missingRun := 0, status := .active, last := some (lastOf v number), surge := surgeMarks (surgePickup s d) v number r.surge }
  | none => if goesStale s d r then unseed { missingStep false r with status := .stale } else missingStep false r

/-- Slot d holds a record that goes STALE. -/
def staleNow (s : State) (d : Nat) : Bool :=
  match sensorAt s d with
  | some r => goesStale s d r
  | none => false

theorem staleNow_some (hr : sensorAt s d = some r) : staleNow s d = goesStale s d r := by simp [staleNow, hr]

/-- The notices that stage 1 queues for a slot. -/
def slotNotices (s : State) (d : Nat) : List NoticeBody :=
  match sensorAt s d with
  | none => []
  | some r =>
    if goesStale s d r then
      .sensorStale d (missingStep false r).missingRun (missingStep false r).missingTotal
        :: (allSegments.filter (inTreeWith s (joins d))).map (joinNotice s d)
    else if isHeard s d r then [.sensorResumed d r.missingTotal (segmentsExcluding s d)] else []

theorem slotNotices_some (hr : sensorAt s d = some r) : slotNotices s d =
    if goesStale s d r then
      .sensorStale d (missingStep false r).missingRun (missingStep false r).missingTotal
        :: (allSegments.filter (inTreeWith s (joins d))).map (joinNotice s d)
    else if isHeard s d r then [.sensorResumed d r.missingTotal (segmentsExcluding s d)] else [] := by
  simp [slotNotices, hr]

/-- A pass with notices queued for its completion. -/
def withNotices (bodies : List NoticeBody) (p : Pass) : Pass := { p with sensorNotices := p.sensorNotices ++ bodies }

theorem withNotices_nil (p : Pass) : withNotices [] p = p := by simp [withNotices]

theorem withNotices_append (bodies more : List NoticeBody) (p : Pass) :
    withNotices more (withNotices bodies p) = withNotices (bodies ++ more) p := by
  simp [withNotices]

/-- What stage 1 makes of a state on slot d. -/
structure Sensed (s : State) (number : FrameNo) (d : Nat) (t : State) : Prop where
  rest : t = { s with sensors := t.sensors, segments := t.segments, pass := t.pass }
  sensors : ∀ m, rowAt t.sensors m = (rowAt s.sensors m).map (liveSensor fun r => if m = d then sensedRecord s number d r else r)
  segments : ∀ m, rowAt t.segments m =
    (rowAt s.segments m).map (liveSegment fun g => if m < 40 ∧ staleNow s d = true then joined d g else g)
  pass : t.pass = s.pass.map (withNotices (slotNotices s d))

theorem liveSensor_id : liveSensor (fun r => r) = id := by
  funext p
  cases p <;> rfl

theorem sensed_sensors {number : FrameNo} (hself : rowAt t.sensors d = (rowAt s.sensors d).map (liveSensor (sensedRecord s number d)))
    (hother : ∀ m, m ≠ d → rowAt t.sensors m = rowAt s.sensors m) (m : Nat) :
    rowAt t.sensors m = (rowAt s.sensors m).map (liveSensor fun r => if m = d then sensedRecord s number d r else r) := by
  by_cases hm : m = d
  · subst hm
    simpa using hself
  · simp [hm, hother m hm, liveSensor_id]

theorem kept_segments (h : staleNow s d = false) (m : Nat) :
    rowAt s.segments m = (rowAt s.segments m).map (liveSegment fun g => if m < 40 ∧ staleNow s d = true then joined d g else g) := by
  simp [h, liveSegment_id]

/-- The pickup depends on the segments' upstream sensors and I_SURGE alone (R61). -/
theorem surgePickup_congr (h : ∀ n, (segmentAt t n).map (fun g => (g.up, g.iSurge)) = (segmentAt s n).map fun g => (g.up, g.iSurge)) :
    surgePickup t d = surgePickup s d := by
  have htree : inTreeWith t (fun g => g.up == d) = inTreeWith s fun g => g.up == d := by
    funext n
    have hn := h n
    unfold inTreeWith
    cases ht : segmentAt t n <;> cases hs : segmentAt s n <;> simp_all
  have hlimit : (fun n => (segmentAt t n).map (·.iSurge)) = fun n => (segmentAt s n).map (·.iSurge) := by
    funext n
    simpa [Function.comp_def] using congrArg (Option.map Prod.snd) (h n)
  rw [surgePickup, surgePickup, segmentBelow, segmentBelow, htree, hlimit]

/-- A valid report's values join the record (R58, R61). -/
theorem writeReport_some {v : ReportValues} {number : FrameNo} (hclean : readsClean s) (hr : sensorAt s d = some r) :
    writeReport d v number s =
      writeSensor d { r with last := some (lastOf v number), surge := surgeMarks (surgePickup s d) v number r.surge } s := by
  have hread : readSegments s = s := forEach_id fun n _ => readSegment_noError (hclean.2 n)
  simp [writeReport, hread, modifySensor, hr]

theorem readSegments_readsClean (hclean : readsClean s) : readSegments s = s := forEach_id fun n _ => readSegment_noError (hclean.2 n)

theorem readsClean_writeSensor (hclean : readsClean s) : readsClean (writeSensor d r s) := by
  refine ⟨fun m q hq => ?_, fun n q hq => hclean.2 n q hq⟩
  rw [sensorAt_writeSensor] at hq
  split at hq
  · obtain rfl := Option.some.inj hq
    rfl
  · exact hclean.1 m q hq

theorem readsClean_queued (bodies : List NoticeBody) (hclean : readsClean s) : readsClean (queueSensorNotices bodies s) := hclean

theorem sensorAt_writeSensor_self (herr : r.err = 0) : sensorAt (writeSensor d r s) d = some r := by
  rw [sensorAt_writeSensor, if_pos rfl, ← herr]

/-- A sensor silent below the limit, or silent and STALE, takes its missing-run step (R51). -/
theorem sensed_silent {number : FrameNo} (hclean : readsClean s) (hr : sensorAt s d = some r) (hv : validReport s d = none)
    (hstale : goesStale s d r = false) : Sensed s number d (writeSensor d (missingStep false r) s) := by
  have herr : (missingStep false r).err = 0 := hclean.1 d r hr
  have hrecord : sensedRecord s number d r = missingStep false r := by simp [sensedRecord, hv, hstale]
  refine ⟨rfl, sensed_sensors ?_ fun m hm => rowAt_setRow_ne _ _ hm, kept_segments ((staleNow_some hr).trans hstale), ?_⟩
  · rw [sensorAt_row.mp hr, sensorAt_row.mp (sensorAt_writeSensor_self herr), Option.map_some, liveSensor, hrecord]
  · have hnone : slotNotices s d = [] := by
      rw [slotNotices_some hr, hstale]
      simp [isHeard, hv]
    rw [hnone, show withNotices [] = id from funext withNotices_nil, Option.map_id]
    rfl

/-- An ACTIVE sensor silent to the limit goes STALE and joins the excluded sets (R111, R112). -/
theorem sensed_stale {number : FrameNo} (hclean : readsClean s) (hr : sensorAt s d = some r) (hv : validReport s d = none)
    (hstale : goesStale s d r = true) : Sensed s number d (goStale d (missingStep false r) s) := by
  have herr : (unseed { missingStep false r with status := .stale }).err = 0 := hclean.1 d r hr
  have hrecord : sensedRecord s number d r = unseed { missingStep false r with status := .stale } := by
    simp [sensedRecord, hv, hstale]
  obtain ⟨tab, hexclude, hrows⟩ := excludeEverywhere_spec (d := d) nodup_allSegments
    (s := writeSensor d (unseed { missingStep false r with status := .stale }) s) hclean.2
  unfold goStale
  dsimp only
  rw [hexclude]
  refine ⟨rfl, sensed_sensors ?_ fun m hm => rowAt_setRow_ne _ _ hm, fun m => ?_, ?_⟩
  · rw [sensorAt_row.mp hr, Option.map_some, liveSensor, hrecord]
    exact sensorAt_row.mp (sensorAt_writeSensor_self herr)
  · have hrow := hrows m
    simp only [mem_allSegments] at hrow
    simp only [staleNow_some hr, hstale, and_true]
    exact hrow
  · rw [slotNotices_some hr, if_pos hstale]
    rfl

/-- The status step of a sensor heard: an ACTIVE one stays, a STALE one resumes (R114). -/
theorem statusStep_heard (hclean : readsClean s) (hr : sensorAt s d = some r) (hv : (validReport s d).isSome = true) :
    statusStep d (missingStep true r) true s = { writeSensor d { r with missingRun := 0, status := .active } s with
      pass := s.pass.map (withNotices (slotNotices s d)) } := by
  have hstale : goesStale s d r = false := by simp [goesStale, Option.isNone_iff_eq_none, Option.isSome_iff_ne_none.mp hv]
  rw [slotNotices_some hr, hstale]
  cases hstatus : r.status with
  | active =>
    have hnone : withNotices ([] : List NoticeBody) = id := funext withNotices_nil
    simp [statusStep, missingStep, hstatus, isHeard, hnone]
    rfl
  | stale =>
    have hread := readSegments_readsClean (readsClean_writeSensor (d := d) (r := { missingStep true r with status := .active }) hclean)
    have hstep : statusStep d (missingStep true r) true s = resume d (missingStep true r) s := by simp [statusStep, missingStep, hstatus]
    rw [hstep, resume, hread, isHeard, hv, hstatus]
    rfl

/-- A sensor heard in the evaluated frame is ACTIVE with its last values and surge marks (R58, R61, R114). -/
theorem sensed_heard {number : FrameNo} {v : ReportValues} (hclean : readsClean s) (hr : sensorAt s d = some r)
    (hv : validReport s d = some v) :
    Sensed s number d (writeReport d v number (statusStep d (missingStep true r) true s)) := by
  have hstale : goesStale s d r = false := by simp [goesStale, hv]
  have herr : (sensedRecord s number d r).err = 0 := by
    rw [sensedRecord, hv]
    exact hclean.1 d r hr
  rw [statusStep_heard hclean hr (by rw [hv]; rfl), writeReport_some (r := { r with missingRun := 0, status := .active })]
  · refine ⟨rfl, sensed_sensors ?_ fun m hm => ?_, kept_segments ((staleNow_some hr).trans hstale), rfl⟩
    · rw [sensorAt_row.mp hr, Option.map_some, liveSensor, sensedRecord, hv]
      rw [sensedRecord, hv] at herr
      exact sensorAt_row.mp (sensorAt_writeSensor_self herr)
    · exact (rowAt_setRow_ne _ _ hm).trans (rowAt_setRow_ne _ _ hm)
  · exact readsClean_writeSensor hclean
  · exact sensorAt_writeSensor_self (hclean.1 d r hr)

theorem sensed_missed {number : FrameNo} (hclean : readsClean s) (hr : sensorAt s d = some r) (hv : validReport s d = none) :
    Sensed s number d (statusStep d (missingStep false r) false s) := by
  cases hstale : goesStale s d r with
  | true =>
    have hstep : statusStep d (missingStep false r) false s = goStale d (missingStep false r) s := by
      simp only [goesStale, Bool.and_eq_true, beq_iff_eq, decide_eq_true_eq] at hstale
      obtain ⟨⟨-, hactive⟩, hlimit⟩ := hstale
      simp only [statusStep, show (missingStep false r).status = .active from hactive]
      simp [hlimit]
    rw [hstep]
    exact sensed_stale hclean hr hv hstale
  | false =>
    have hstep : statusStep d (missingStep false r) false s = writeSensor d (missingStep false r) s := by
      unfold statusStep
      split
      · rename_i hactive
        rw [if_neg]
        intro hlimit
        simp [goesStale, hv, show r.status = .active from hactive] at hstale hlimit
        omega
      · rfl
    rw [hstep]
    exact sensed_silent hclean hr hv hstale

/-- A slot without a live record is passed over (R73). -/
theorem sensed_vacant {number : FrameNo} (hr : sensorAt s d = none) : Sensed s number d s := by
  refine ⟨rfl, sensed_sensors (vacant_sensor hr _).symm fun _ _ => rfl, kept_segments (by simp [staleNow, hr]), ?_⟩
  rw [slotNotices, hr, show withNotices [] = id from funext withNotices_nil, Option.map_id]
  rfl

/-- Stage 1 on a slot is the account of it. -/
theorem stage1Sensor_sensed (hclean : readsClean s) : Sensed s f.number d (stage1Sensor f d s) := by
  unfold stage1Sensor
  rw [readSensor_noError (hclean.1 d)]
  dsimp only
  cases hr : sensorAt s d with
  | none => exact sensed_vacant hr
  | some r =>
    dsimp only
    cases hv : validReport s d with
    | none => exact sensed_missed hclean hr hv
    | some v => exact sensed_heard hclean hr hv

end
end Sys2Proof.Machine
end

section
namespace Sys2Proof.Machine

/-! ### Stage 1 on the expected set (R75, R78) -/

section
variable {s t u : State} {f : Frame} {d : Nat} {r : SensorRec} {g : SegRec} {l : List Nat}

/-- A segment's record after stage 1 on a list of slots: each sensor that goes STALE joins it (R112). -/
def accountedSegment (s : State) (l : List Nat) (g : SegRec) : SegRec := l.foldl (fun g d => if staleNow s d then joined d g else g) g

theorem accountedSegment_append : accountedSegment s (l ++ [d]) g =
    if staleNow s d then joined d (accountedSegment s l g) else accountedSegment s l g := by
  simp [accountedSegment]

theorem joined_eq : joined d g = { g with excluded := (joined d g).excluded } := by
  unfold joined
  split <;> rfl

theorem mem_joined {e : Nat} : e ∈ (joined d g).excluded ↔ e ∈ g.excluded ∨ (e = d ∧ d ∈ g.up :: g.down) := by
  unfold joined
  by_cases hj : joins d g = true
  · have hnames : d ∈ g.up :: g.down := names_iff.mp (Bool.and_eq_true_iff.mp hj).1
    simp only [hj, if_true, withExcluded, mem_insertAsc]
    tauto
  · rw [if_neg hj]
    simp only [joins, Bool.and_eq_true, names_iff, Bool.not_eq_true', List.contains_eq_mem, decide_eq_false_iff_not, not_and, not_not] at hj
    refine ⟨.inl, fun h => h.elim id ?_⟩
    rintro ⟨rfl, hd⟩
    exact hj hd

theorem accountedSegment_eq (s : State) (l : List Nat) (g : SegRec) :
    accountedSegment s l g = { g with excluded := (accountedSegment s l g).excluded } := by
  induction l using List.reverseRecOn with
  | nil => rfl
  | append_singleton l d ih =>
    rw [accountedSegment_append]
    split
    · rw [joined_eq, ih]
    · exact ih

theorem accountedSegment_names : (accountedSegment s l g).up :: (accountedSegment s l g).down = g.up :: g.down := by
  rw [accountedSegment_eq]

theorem mem_accountedSegment {e : Nat} : e ∈ (accountedSegment s l g).excluded ↔
    e ∈ g.excluded ∨ (e ∈ l ∧ staleNow s e = true ∧ e ∈ g.up :: g.down) := by
  induction l using List.reverseRecOn with
  | nil => simp [accountedSegment]
  | append_singleton l d ih =>
    rw [accountedSegment_append]
    by_cases hd : staleNow s d = true
    · rw [if_pos hd, mem_joined, accountedSegment_names, ih, List.mem_append, List.mem_singleton]
      constructor
      · rintro ((h | ⟨h, hs, hn⟩) | ⟨rfl, hn⟩)
        · exact .inl h
        · exact .inr ⟨.inl h, hs, hn⟩
        · exact .inr ⟨.inr rfl, hd, hn⟩
      · rintro (h | ⟨h | rfl, hs, hn⟩)
        · exact .inl (.inl h)
        · exact .inl (.inr ⟨h, hs, hn⟩)
        · exact .inr ⟨rfl, hn⟩
    · rw [if_neg hd, ih, List.mem_append, List.mem_singleton]
      constructor
      · rintro (h | ⟨h, hs, hn⟩)
        · exact .inl h
        · exact .inr ⟨.inl h, hs, hn⟩
      · rintro (h | ⟨h | rfl, hs, hn⟩)
        · exact .inl h
        · exact .inr ⟨h, hs, hn⟩
        · exact absurd hs hd

/-- What stage 1 makes of a state on a list of slots, its notices left out. -/
structure Accounted (s : State) (number : FrameNo) (l : List Nat) (t : State) : Prop where
  rest : t = { s with sensors := t.sensors, segments := t.segments, pass := t.pass }
  sensors : ∀ m, rowAt t.sensors m = (rowAt s.sensors m).map (liveSensor fun r => if m ∈ l then sensedRecord s number m r else r)
  segments : ∀ m, rowAt t.segments m = (rowAt s.segments m).map (liveSegment fun g => if m < 40 then accountedSegment s l g else g)

theorem liveSensor_comp (g h : SensorRec → SensorRec) (p : SensorPlace) : liveSensor g (liveSensor h p) = liveSensor (fun r => g (h r)) p := by
  cases p <;> rfl

theorem Accounted.sensorAt {number : FrameNo} (h : Accounted s number l t) (m : Nat) :
    sensorAt t m = (sensorAt s m).map fun r => if m ∈ l then sensedRecord s number m r else r := sensorAt_rewritten (h.sensors m)

theorem Accounted.segmentAt {number : FrameNo} (h : Accounted s number l t) (m : Nat) :
    segmentAt t m = (segmentAt s m).map fun g => if m < 40 then accountedSegment s l g else g := segmentAt_rewritten (h.segments m)

theorem accounted_nil (number : FrameNo) (s : State) : Accounted s number [] s :=
  ⟨rfl, fun m => by simp [liveSensor_id], fun m => by simp [accountedSegment, liveSegment_id]⟩

theorem sensedRecord_err {number : FrameNo} : (sensedRecord s number d r).err = r.err := by
  unfold sensedRecord
  split
  · rfl
  · split <;> rfl

theorem Accounted.readsClean {number : FrameNo} (h : Accounted s number l t) (hclean : readsClean s) : readsClean t := by
  refine ⟨fun m r hr => ?_, fun m g hg => ?_⟩
  · rw [h.sensorAt] at hr
    obtain ⟨q, hq, rfl⟩ := Option.map_eq_some_iff.mp hr
    have hz := hclean.1 m q hq
    split
    · exact sensedRecord_err.trans hz
    · exact hz
  · rw [h.segmentAt] at hg
    obtain ⟨q, hq, rfl⟩ := Option.map_eq_some_iff.mp hg
    have hz := hclean.2 m q hq
    split
    · rw [accountedSegment_eq]
      exact hz
    · exact hz

theorem validReport_congr (h : t.ring = s.ring) (d : Nat) : validReport t d = validReport s d := by
  unfold validReport evaluated
  rw [h]

/-- Stage 1 on other slots leaves what stage 1 makes of this one. -/
theorem Accounted.sensedRecord {number : FrameNo} (h : Accounted s number l t) (d : Nat) :
    goesStale t d = goesStale s d ∧ isHeard t d = isHeard s d ∧ sensedRecord t number d = sensedRecord s number d := by
  have hvalid : validReport t d = validReport s d := validReport_congr (by rw [h.rest]) d
  have hparams : t.params = s.params := by rw [h.rest]
  have hstale : goesStale t d = goesStale s d := by
    funext r
    rw [goesStale, goesStale, hvalid, hparams]
  have hpickup : surgePickup t d = surgePickup s d := by
    refine surgePickup_congr fun n => ?_
    rw [h.segmentAt, Option.map_map]
    congr 1
    funext g
    rw [Function.comp_apply]
    split
    · rw [accountedSegment_eq]
    · rfl
  refine ⟨hstale, funext fun r => by rw [isHeard, isHeard, hvalid], funext fun r => ?_⟩
  rw [Machine.sensedRecord, Machine.sensedRecord, hvalid, hpickup, hstale]

theorem Accounted.sensorAt_ahead {number : FrameNo} (h : Accounted s number l t) (hd : d ∉ l) :
    Machine.sensorAt t d = Machine.sensorAt s d := by
  simp [h.sensorAt, hd]

theorem Accounted.staleNow {number : FrameNo} (h : Accounted s number l t) (hd : d ∉ l) : staleNow t d = staleNow s d := by
  rw [Machine.staleNow, Machine.staleNow, h.sensorAt_ahead hd, (h.sensedRecord d).1]

/-- One slot more. -/
theorem Accounted.step {number : FrameNo} (h : Accounted s number l t) (hd : d ∉ l) (hstep : Sensed t number d u) :
    Accounted s number (l ++ [d]) u := by
  obtain ⟨hrest, hsensors, hsegments, -⟩ := hstep
  refine ⟨by rw [hrest, h.rest], fun m => ?_, fun m => ?_⟩
  · rw [hsensors, h.sensors, Option.map_map]
    congr 1
    funext p
    rw [Function.comp_apply, liveSensor_comp]
    by_cases hm : m = d
    · subst hm
      simp [hd, (h.sensedRecord m).2.2]
    · simp [hm]
  · rw [hsegments, h.segments, Option.map_map, h.staleNow hd]
    congr 1
    funext p
    rw [Function.comp_apply, liveSegment_comp]
    simp only [accountedSegment_append]
    by_cases hm : m < 40 <;> simp [hm]

/-- The state before stage 1 works on slot d. -/
def sensingBefore (f : Frame) (d : Nat) (s : State) : State := forEach (f.expected.takeWhile (· != d)) (stage1Sensor f) s

theorem sensingBefore_eq {before after : List Nat} (hnd : f.expected.Nodup) (hsplit : f.expected = before ++ d :: after) :
    sensingBefore f d s = forEach before (stage1Sensor f) s := by
  have hd : d ∉ before := by
    rw [hsplit] at hnd
    exact fun h => List.disjoint_of_nodup_append hnd h (List.mem_cons_self ..)
  have htake : f.expected.takeWhile (· != d) = before := by
    rw [hsplit, List.takeWhile_append_of_pos fun e he => by simpa using fun h : e = d => hd (h ▸ he)]
    simp
  rw [sensingBefore, htake]

theorem forEach_snoc {ns : List Nat} {step : Nat → State → State} : forEach (ns ++ [d]) step s = step d (forEach ns step s) := by
  simp [forEach]

/-- Stage 1 on the first slots of the expected set: the account of them, and their notices queued. -/
theorem stage1_accounts (hclean : readsClean s) (hnd : f.expected.Nodup) {before after : List Nat} (hsplit : f.expected = before ++ after) :
    Accounted s f.number before (forEach before (stage1Sensor f) s) ∧
    (forEach before (stage1Sensor f) s).pass = s.pass.map (withNotices (before.flatMap fun d => slotNotices (sensingBefore f d s) d)) := by
  induction before using List.reverseRecOn generalizing after with
  | nil => exact ⟨accounted_nil _ _, by simp [show withNotices [] = id from funext withNotices_nil]⟩
  | append_singleton l d ih =>
    rw [List.append_assoc, List.singleton_append] at hsplit
    obtain ⟨hacc, hpass⟩ := ih hsplit
    have hd : d ∉ l := by
      rw [hsplit] at hnd
      exact fun h => List.disjoint_of_nodup_append hnd h (List.mem_cons_self ..)
    have hsensed : Sensed (forEach l (stage1Sensor f) s) f.number d _ := stage1Sensor_sensed (f := f) (hacc.readsClean hclean)
    rw [forEach_snoc]
    refine ⟨hacc.step hd hsensed, ?_⟩
    rw [hsensed.pass, hpass, Option.map_map, List.flatMap_append, List.flatMap_singleton, sensingBefore_eq hnd hsplit]
    congr 1
    funext p
    exact withNotices_append _ _ p

end
end Sys2Proof.Machine
end

section
namespace Sys2Proof.Machine

/-! ### The account of stage 1 (R51, R58, R61, R111 to R114) -/

section
variable {s t : State} {f : Frame} {d n : Nat} {r : SensorRec} {g : SegRec} {l : List Nat} {number : FrameNo}

theorem goesStale_iff : goesStale s d r = true ↔
    validReport s d = none ∧ r.status = .active ∧ s.params.staleLimit ≤ (missingStep false r).missingRun := by
  simp [goesStale, and_assoc]

theorem staleNow_iff : staleNow s d = true ↔ ∃ r, sensorAt s d = some r ∧ goesStale s d r = true := by
  unfold staleNow
  cases sensorAt s d <;> simp

theorem sensedRecord_missed (hv : validReport s d = none) (h : r.status = .stale ∨ (missingStep false r).missingRun < s.params.staleLimit) :
    sensedRecord s number d r = missingStep false r := by
  have hstale : ¬ goesStale s d r = true := by
    rw [goesStale_iff]
    rintro ⟨-, hactive, hlimit⟩
    rcases h with h | h
    · rw [hactive] at h
      cases h
    · omega
  rw [sensedRecord, hv]
  exact if_neg hstale

theorem sensedRecord_stale (h : goesStale s d r = true) :
    sensedRecord s number d r = unseed { missingStep false r with status := .stale } := by
  rw [sensedRecord, (goesStale_iff.mp h).1]
  exact if_pos h

theorem sensedRecord_heard {v : ReportValues} (hv : validReport s d = some v) : sensedRecord s number d r = { r with
    missingRun := 0, status := .active, last := some (lastOf v number), surge := surgeMarks (surgePickup s d) v number r.surge } := by
  rw [sensedRecord, hv]

theorem isHeard_iff : isHeard s d r = true ↔ r.status = .stale ∧ validReport s d ≠ none := by
  simp [isHeard, Option.isSome_iff_ne_none, and_comm]

theorem perPhase_surgeMarks (pickup : Option Nat) (v : ReportValues) (old : PerPhase (Option FrameNo)) (k : Phase) :
    perPhase (surgeMarks pickup v number old) k = match perPhase v.phases k with
      | some x => if x.surge || pickup.any (fun limit => decide (limit ≤ x.i)) then some number else perPhase old k
      | none => perPhase old k := by
  rw [surgeMarks, perPhase_mapPhases]
  cases perPhase v.phases k <;> cases pickup <;> rfl

/-- The segments that a sensor joins once other slots are accounted for are those of the state before (R112). -/
theorem Accounted.joins_iff (h : Accounted s number l t) (hd : d ∉ l) : n ∈ allSegments.filter (inTreeWith t (joins d)) ↔
    n < 40 ∧ ∃ g, Machine.segmentAt s n = some g ∧ d ∈ g.up :: g.down ∧ d ∉ g.excluded := by
  rw [List.mem_filter, mem_allSegments, inTreeWith_iff]
  refine and_congr_right fun hn => ?_
  simp only [h.segmentAt, Option.map_eq_some_iff, hn, if_true]
  constructor
  · rintro ⟨_, ⟨g, hg, rfl⟩, hj⟩
    simp only [joins, Bool.and_eq_true, names_iff, accountedSegment_names, Bool.not_eq_true', List.contains_eq_mem,
      decide_eq_false_iff_not, mem_accountedSegment, not_or] at hj
    exact ⟨g, hg, hj.1, hj.2.1⟩
  · rintro ⟨g, hg, hnames, hout⟩
    refine ⟨_, ⟨g, hg, rfl⟩, ?_⟩
    simp only [joins, Bool.and_eq_true, names_iff, accountedSegment_names, Bool.not_eq_true', List.contains_eq_mem,
      decide_eq_false_iff_not, mem_accountedSegment, not_or]
    exact ⟨hnames, hout, fun h => hd h.1⟩

/-- The notice of a segment that a sensor joins once other slots are accounted for (R112). -/
theorem Accounted.joinNotice (h : Accounted s number l t) (hn : n < 40) (hg : Machine.segmentAt s n = some g) :
    let out (e : Nat) : Prop := e = d ∨ e ∈ g.excluded ∨ (e ∈ l ∧ Machine.staleNow s e = true)
    ∃ blind degraded, (blind = true ↔ out g.up) ∧ (degraded = true ↔ ∃ e ∈ g.down, out e) ∧
      joinNotice t d n = if g.up = d then .segmentBlind n d g.state blind degraded else .segmentDegraded n d g.state blind degraded := by
  intro out
  have hout {e : Nat} (he : e ∈ g.up :: g.down) : e ∈ insertAsc d (accountedSegment s l g).excluded ↔ out e := by
    simp only [mem_insertAsc, mem_accountedSegment, he, and_true, out]
  have hnow : Machine.segmentAt t n = some (accountedSegment s l g) := by
    simp [h.segmentAt, hg, hn]
  refine ⟨isBlind (withExcluded d (accountedSegment s l g)), isDegraded (withExcluded d (accountedSegment s l g)), ?_, ?_, ?_⟩
  · rw [accountedSegment_eq]
    simp only [isBlind, withExcluded, List.contains_eq_mem, decide_eq_true_eq]
    exact hout (List.mem_cons_self ..)
  · rw [accountedSegment_eq]
    simp only [isDegraded, withExcluded, List.contains_eq_mem, List.any_eq_true, decide_eq_true_eq]
    exact exists_congr fun e => and_congr_right fun he => hout (List.mem_cons_of_mem _ he)
  · rw [joinNotice_some hnow]
    rw [accountedSegment_eq]
    rfl

theorem Accounted.segmentsExcluding (h : Accounted s number l t) (hd : d ∉ l) : n ∈ segmentsExcluding t d ↔
    n < 40 ∧ ∃ g, Machine.segmentAt s n = some g ∧ d ∈ g.excluded := by
  rw [Machine.segmentsExcluding, List.mem_filter, mem_allSegments, inTreeWith_iff]
  refine and_congr_right fun hn => ?_
  simp [h.segmentAt, Option.map_eq_some_iff, hn, mem_accountedSegment, hd]

theorem pairwise_filter_allSegments (q : Nat → Bool) : (allSegments.filter q).Pairwise (· < ·) :=
  List.pairwise_lt_range.filter q

/-- The urgency source reads of the segments their states alone, which stage 1 keeps (R148). -/
theorem Accounted.urgencySource (h : Accounted s number l t) : urgencySource t = urgencySource s := by
  refine urgencySource_same (by rw [h.rest]) (fun n hn => ?_) fun x _ => ?_
  · rw [segmentUrgent, segmentUrgent, h.segmentAt]
    cases hg : Machine.segmentAt s n with
    | none => rfl
    | some g =>
      simp only [Option.map_some, hn, if_true]
      rw [accountedSegment_eq]
  · rw [isTripping, isTripping, interrupterAt_congr (s := s) (by rw [h.rest])]

end

/-- Settles O49: stage 1 on the first slots of the expected set is accounted for one by one (`stage1_accounts`), up to the whole set. -/
theorem passStage1AccountsForReports : Obligations.PassStage1AccountsForReports := by
  intro p f s hheld hclean hpass hstage hf hnd missed newlyStale resumes
  have hreads : readsClean s := ⟨fun d r => clean_sensor hclean, fun n r => clean_segment hclean⟩
  have hstale {d : Nat} {r : SensorRec} (hr : sensorAt s d = some r) (hd : d ∈ f.expected) : newlyStale d r ↔ goesStale s d r = true := by
    rw [goesStale_iff]
    exact ⟨fun h => h.2.2, fun h => ⟨hd, hr, h⟩⟩
  have hnow {d : Nat} (hd : d ∈ f.expected) : staleNow s d = true ↔ ∃ r, newlyStale d r := by
    rw [staleNow_iff]
    exact exists_congr fun r => ⟨fun ⟨hr, h⟩ => (hstale hr hd).mpr h, fun h => ⟨h.2.1, (hstale h.2.1 hd).mp h⟩⟩
  obtain ⟨hacc, hqueued⟩ := stage1_accounts hreads hnd (List.append_nil _).symm
  have hwork : stage1 s = forEach f.expected (stage1Sensor f) s := by simp [stage1, hf]
  rw [← hwork] at hacc hqueued
  have hat : atStage .one s = true := by simp [atStage, hpass, hstage]
  have hurgent : urgencySource (goTo .two (stage1 s)) = urgencySource s := hacc.urgencySource
  have hrun : settled (runStage .one .two stage1) s = goTo .two (stage1 s) := by
    rw [settled, runStage, if_pos hat, ← hurgent, settleUrgency_same rfl]
  have hexec : exec .passStage1 s = .next (goTo .two (stage1 s)) :=
    exec_event (f := settled (runStage .one .two stage1)) (fun _ => rfl) hrun
      (by rw [goTo, modifyPass_hl, hacc.rest]; exact noneHeld_iff.mp hheld)
  refine ⟨goTo .two (stage1 s), _, _, hexec, ?_, rfl, ?_, fun d hd => ?_, fun d r hd hr => ?_, fun n hn => ?_, fun n g hn hg => ?_,
    fun d => slotNotices (sensingBefore f d s) d, rfl, fun before d after hsplit => ?_⟩
  · rw [goTo, modifyPass, hqueued, hpass]
    rfl
  · rw [goTo, modifyPass, hacc.rest]
  · refine (hacc.sensors d).trans ?_
    rcases hd with hd | hd
    · simp [hd, liveSensor_id]
    · exact vacant_sensor hd _
  · have hrow : rowAt (stage1 s).sensors d = some (.live (sensedRecord s f.number d r)) := by
      rw [hacc.sensors, sensorAt_row.mp hr]
      simp [liveSensor, hd]
    exact ⟨fun hv hbelow => hrow.trans (by rw [sensedRecord_missed hv hbelow]; rfl),
      fun h => hrow.trans (by rw [sensedRecord_stale ((hstale hr hd).mp h)]; rfl),
      fun v hv => ⟨_, hrow.trans (by rw [sensedRecord_heard hv]; rfl), perPhase_surgeMarks _ v r.surge⟩⟩
  · refine (hacc.segments n).trans ?_
    rcases hn with hn | hn
    · simp [Nat.not_lt.mpr hn, liveSegment_id]
    · exact vacant_segment hn _
  · refine ⟨(accountedSegment s f.expected g).excluded, (hacc.segments n).trans ?_, fun d => ?_⟩
    · rw [segmentAt_row.mp hg, Option.map_some, liveSegment, if_pos hn, ← accountedSegment_eq]
    · rw [mem_accountedSegment]
      refine or_congr_right ⟨fun ⟨hd, hs, hnames⟩ => ⟨hnames, (hnow hd).mp hs⟩, ?_⟩
      rintro ⟨hnames, r, hs⟩
      exact ⟨hs.1, (hnow hs.1).mpr ⟨r, hs⟩, hnames⟩
  · have hd : d ∈ f.expected := by simp [hsplit]
    have hd' : d ∉ before := by
      rw [hsplit] at hnd
      exact fun h => List.disjoint_of_nodup_append hnd h (List.mem_cons_self ..)
    have hbefore := (stage1_accounts hreads hnd hsplit).1
    rw [← sensingBefore_eq hnd hsplit] at hbefore
    dsimp only
    generalize sensingBefore f d s = u at hbefore ⊢
    obtain ⟨hstaleu, hheardu, -⟩ := hbefore.sensedRecord d
    have hblock {r : SensorRec} (hr : sensorAt s d = some r) := slotNotices_some ((hbefore.sensorAt_ahead hd').trans hr)
    rw [hstaleu, hheardu] at hblock
    refine ⟨fun r hs => ?_, fun r hs => ?_, fun hneither => ?_⟩
    · refine ⟨_, joinNotice u d, ?_, pairwise_filter_allSegments _, fun n => hbefore.joins_iff hd', fun n g hn hg => ?_⟩
      · rw [hblock hs.2.1, if_pos ((hstale hs.2.1 hd).mp hs)]
        rfl
      · obtain ⟨blind, degraded, hblind, hdegraded, hnotice⟩ := hbefore.joinNotice (d := d) ((hbefore.joins_iff hd').mp hn).1 hg
        have hout (e : Nat) : (e = d ∨ e ∈ g.excluded ∨ (e ∈ before ∧ staleNow s e = true)) ↔
            (e = d ∨ e ∈ g.excluded ∨ (e ∈ before ∧ ∃ q, newlyStale e q)) :=
          or_congr_right (or_congr_right (and_congr_right fun he => hnow (by simp [hsplit, he])))
        exact ⟨blind, degraded, hblind.trans (hout _), hdegraded.trans (exists_congr fun e => and_congr_right fun _ => hout e), hnotice⟩
    · refine ⟨_, ?_, pairwise_filter_allSegments _, fun n => hbefore.segmentsExcluding hd'⟩
      obtain ⟨hr, hstatus, hv⟩ := hs
      have hnot : ¬ goesStale s d r = true := fun h => hv (goesStale_iff.mp h).1
      rw [hblock hr, if_neg hnot, if_pos (isHeard_iff.mpr ⟨hstatus, hv⟩)]
      rfl
    · cases hr : sensorAt s d with
      | none => rw [slotNotices, hbefore.sensorAt_ahead hd', hr]
      | some r =>
        obtain ⟨hs, hh⟩ := hneither r
        rw [hblock hr, if_neg fun h => hs ((hstale hr hd).mpr h), if_neg fun h => hh ⟨hr, isHeard_iff.mp h⟩]
end Sys2Proof.Machine
end

section
namespace Sys2Proof.Machine

/-! ### Notices raised together (R146) -/

/-- The notices of some bodies, numbered in their order from the sequence counter. -/
def numberedFrom (seq : BitVec 16) (frame : FrameNo) (bodies : List NoticeBody) : List Notice :=
  bodies.mapIdx fun i b => ⟨seq + BitVec.ofNat 16 i, frame, b⟩

/-- The queue with some notices added, each finding room (R146). -/
def queued (frame : FrameNo) (bodies : List NoticeBody) (nq : NoticeQueue) : NoticeQueue :=
  { nq with queue := nq.queue ++ numberedFrom nq.seq frame bodies, seq := nq.seq + BitVec.ofNat 16 bodies.length }

theorem numberedFrom_append (seq : BitVec 16) (frame : FrameNo) (l more : List NoticeBody) :
    numberedFrom seq frame (l ++ more) = numberedFrom seq frame l ++ numberedFrom (seq + BitVec.ofNat 16 l.length) frame more := by
  simp only [numberedFrom, List.mapIdx_append, BitVec.ofNat_add, BitVec.add_assoc]
  congr 2
  funext i b
  rw [BitVec.add_comm (BitVec.ofNat 16 i)]

theorem queued_nil (frame : FrameNo) (nq : NoticeQueue) : queued frame [] nq = nq := by simp [queued, numberedFrom]

theorem queued_append (frame : FrameNo) (l more : List NoticeBody) (nq : NoticeQueue) :
    queued frame more (queued frame l nq) = queued frame (l ++ more) nq := by
  simp [queued, numberedFrom_append, BitVec.ofNat_add, BitVec.add_assoc]

theorem queued_length (frame : FrameNo) (l : List NoticeBody) (nq : NoticeQueue) :
    (queued frame l nq).queue.length = nq.queue.length + l.length := by simp [queued, numberedFrom]

theorem raiseAt_queued {s : State} (frame : FrameNo) (b : NoticeBody) (h : s.nq.queue.length < 32) :
    raiseAt frame b s = { s with nq := queued frame [b] s.nq } := by
  rw [raiseAt_free frame b s h]
  simp [queued, numberedFrom]

/-- Notices that all find room (R146). -/
theorem raiseAll_queued {s : State} (frame : FrameNo) {bodies : List NoticeBody} (h : s.nq.queue.length + bodies.length ≤ 32) :
    raiseAll frame bodies s = { s with nq := queued frame bodies s.nq } := by
  induction bodies generalizing s with
  | nil => rw [queued_nil]; rfl
  | cons b rest ih =>
    rw [List.length_cons] at h
    rw [raiseAll_cons, raiseAt_queued frame b (by omega), ih]
    · rw [show b :: rest = [b] ++ rest from rfl, ← queued_append]
    · rw [queued_length, List.length_singleton]
      omega

/-! ### The end of the completion (R50) -/

section
variable {s u : State} {p : Pass} {g : Frame} {rest : List Frame}

/-- What the ring's last steps leave of the ring and the pass, as O53 states it. -/
def ringMoves (rest : List Frame) (t : State) : Prop :=
  ((∀ h, rest.head? = some h → h.cond ≠ .closable) → t.ring = rest ∧ t.pass = none) ∧
    ∀ h more, rest = h :: more → h.cond = .closable → t.ring = { h with cond := .evaluating } :: more ∧
      ∃ n, t.pass = some n ∧ n.frame = h.number ∧ n.stage = .one

theorem closeOldest_moves {t : State} (hring : t.ring = rest) (hpass : t.pass = none) : ringMoves rest (closeOldest t) := by
  refine ⟨fun h => ?_, fun h more hrest hc => ?_⟩
  · cases hrest : rest with
    | nil => simp [closeOldest, hring, hpass, hrest]
    | cons f more =>
      rw [closeOldest_open (hring.trans hrest) (h f (by simp [hrest]))]
      exact ⟨hring.trans hrest, hpass⟩
  · rw [closeOldest_closable hpass (hring.trans hrest) hc]
    exact ⟨rfl, _, rfl, rfl, rfl⟩

/-- With the steps of the completion done, the frame leaves the ring, a CLOSABLE next one closes, and the tail count follows an
urgency source that ends (R50, R148). -/
theorem exec_passCompletion {tail : State → Nat} (k : Fin 3) (hheld : noneHeld s = true) (hpass : s.pass = some p)
    (hstage : p.stage = .completion) (hring : s.ring = g :: rest) (hg : g.cond = .evaluating) (hsteps : completionSteps p s = u)
    (huring : u.ring = s.ring) (huhl : u.hl = s.hl) (hno : urgencySource u = true → urgencySource s = true)
    (htail : ∀ t : State, urgencySource t = urgencySource u → tail t = if urgencySource s && !urgencySource t then u.params.maintTail else u.nq.tail) :
    ∃ t, exec (.passCompletion k) s = .next t ∧ ringMoves rest t ∧
      t = { u with ring := t.ring, pass := t.pass, nq := { u.nq with tail := tail t } } := by
  have hleave : completePass s = { u with pass := none, ring := rest } := by
    simp [completePass, hpass, hsteps, leaveFrame, huring, hring, hg]
  have hreq : u.hl.requests = [] := by rw [huhl, noneHeld_iff.mp hheld]
  have hurgent : urgencySource { u with pass := none, ring := rest } = urgencySource u := urgencySource_congr rfl rfl rfl
  have hsettled : settled completePass s = { u with
      pass := none, ring := rest, nq := { u.nq with tail := if urgencySource s && !urgencySource u then u.params.maintTail else u.nq.tail } } := by
    rw [settled, hleave, settleUrgency_eq, settledTail, hurgent]
    have hbegin : (!urgencySource s && urgencySource u) = false := by
      cases hu : urgencySource u
      · simp
      · simp [hno hu]
    rw [hbegin]
    rfl
  have hrun : passCompletes k.val s = closeOldest (settled completePass s) := by
    rw [passCompletes, if_pos (by simp [atStage, hpass, hstage]), serveUpTo_none]
    rw [hsettled]
    exact hreq
  have hmoves := closeOldest_moves (t := settled completePass s) (rest := rest) (by rw [hsettled]) (by rw [hsettled])
  have hkeep := closeOldest_eq (settled completePass s)
  refine ⟨closeOldest (settled completePass s), exec_event (f := passCompletes k.val) (fun _ => rfl) hrun ?_, hmoves, ?_⟩
  · rw [hkeep, hsettled]
    exact hreq
  · have hsame : urgencySource (closeOldest (settled completePass s)) = urgencySource u := by
      rw [hkeep, hsettled]
      exact urgencySource_congr rfl rfl rfl
    rw [htail _ hsame, hsame]
    rw [hkeep, hsettled]

end
end Sys2Proof.Machine
end

section
namespace Sys2Proof.Machine

/-! ### The steps of the completion where they do nothing (R96) -/

/-- No record found by number holds an inverted bit. -/
def errorFree (s : State) : Prop := readsClean s ∧ ∀ x r, interrupterAt s x = some r → r.err = 0

theorem errorFree_of_clean {s : State} (h : clean s = true) : errorFree s :=
  ⟨⟨fun _ _ => clean_sensor h, fun _ _ => clean_segment h⟩, fun _ _ => clean_interrupter h⟩

section
variable {s u : State} {p : Pass} {n x : Nat} {expired : List Nat}

theorem isSuspect_iff : isSuspect s n = true ↔ ∃ r, segmentAt s n = some r ∧ r.state = .suspect := by
  simp [isSuspect, stateOfSegment]

/-- A segment that is not SUSPECT, is confirmed, or has no first open evidence starts no deadline (R72). -/
theorem deadlineStart_idle (hs : errorFree s)
    (hidle : ∀ r, segmentAt s n = some r → r.state = .suspect → rowAt p.confirmed n = none → False) : deadlineStart p n s = (s, []) := by
  unfold deadlineStart
  rw [readSegment_noError (hs.1.2 n)]
  dsimp only
  cases hr : segmentAt s n with
  | none => rfl
  | some r =>
    dsimp only
    refine if_neg fun h => ?_
    simp only [Bool.and_eq_true, decide_eq_true_eq, Option.isNone_iff_eq_none] at h
    exact hidle r hr h.1.1.1 h.1.1.2

theorem deadlineStarts_idle {l : List Nat} (hidle : ∀ n ∈ l, deadlineStart p n s = (s, [])) : deadlineStarts p l s = (s, []) := by
  induction l with
  | nil => rfl
  | cons n l ih =>
    rw [deadlineStarts, hidle n (by simp)]
    dsimp only
    rw [ih fun m hm => hidle m (by simp [hm])]
    rfl

/-- Where one segment alone starts a deadline, the step is its start. -/
theorem deadlineStarts_single {l : List Nat} (hnd : l.Nodup) (hn : n ∈ l) (hstart : deadlineStart p n s = (u, expired))
    (hbefore : ∀ m ∈ l, m ≠ n → deadlineStart p m s = (s, [])) (hafter : ∀ m ∈ l, m ≠ n → deadlineStart p m u = (u, [])) :
    deadlineStarts p l s = (u, expired) := by
  induction l with
  | nil => simp at hn
  | cons m l ih =>
    obtain ⟨hm, hl⟩ := List.nodup_cons.mp hnd
    rw [deadlineStarts]
    by_cases hmn : m = n
    · subst hmn
      rw [hstart]
      dsimp only
      rw [deadlineStarts_idle fun j hj => hafter j (by simp [hj]) fun h => hm (h ▸ hj)]
      simp
    · rw [hbefore m (by simp) hmn]
      dsimp only
      rw [ih hl ((List.mem_cons.mp hn).resolve_left fun h => hmn h.symm) (fun j hj => hbefore j (by simp [hj]))
        fun j hj => hafter j (by simp [hj])]
      rfl

/-- Where one number alone acts, the whole turn is its act. -/
theorem forEach_single {l : List Nat} {f : Nat → State → State} (hnd : l.Nodup) (hn : n ∈ l) (hbefore : ∀ m ∈ l, m ≠ n → f m s = s)
    (hafter : ∀ m ∈ l, m ≠ n → f m (f n s) = f n s) : forEach l f s = f n s := by
  induction l with
  | nil => simp at hn
  | cons m l ih =>
    obtain ⟨hm, hl⟩ := List.nodup_cons.mp hnd
    rw [forEach_cons]
    by_cases hmn : m = n
    · subst hmn
      exact forEach_id fun j hj => hafter j (by simp [hj]) fun h => hm (h ▸ hj)
    · rw [hbefore m (by simp) hmn]
      exact ih hl ((List.mem_cons.mp hn).resolve_left fun h => hmn h.symm) (fun j hj => hbefore j (by simp [hj]))
        fun j hj => hafter j (by simp [hj])

theorem stopConfirmed_idle (hidle : ∀ n < 40, rowAt p.confirmed n = none ∨ isSuspect s n = false) : stopConfirmed p s = s := by
  refine forEach_id fun n hn => if_neg fun h => ?_
  obtain ⟨hc, hsus⟩ := Bool.and_eq_true_iff.mp h
  rcases hidle n (mem_allSegments.mp hn) with hnone | hnot
  · simp [hnone] at hc
  · simp [hnot] at hsus

theorem stepThreeWalk_idle (hidle : isSuspect s n = false ∨ (n ∉ expired ∧ rowAt p.confirmed n = none)) :
    stepThreeWalk p expired n s = s := by
  unfold stepThreeWalk
  rcases hidle with hnot | ⟨he, hc⟩
  · simp [hnot]
  · simp [he, hc]

/-- An interrupter that is not TRIPPING, or has no measurement proof, is left (R95). -/
theorem proofStep_idle (hs : errorFree s)
    (hidle : ∀ r, interrupterAt s x = some r → r.state = .tripping → hasProof p r s = false) : proofStep p x s = s := by
  unfold proofStep
  rw [readInterrupter_noError (hs.2 x)]
  dsimp only
  cases hr : interrupterAt s x with
  | none => rfl
  | some r =>
    dsimp only
    split
    · rename_i htrip
      rw [readSensor_noError (hs.1.1 r.boundary)]
      simp [hidle r hr htrip]
    · rfl

/-- The proof of R95: the boundary sensor's report, made after the pulse, shows every phase COLLAPSED and dead. -/
theorem hasProof_iff {r : IntRec} {g : Frame} (hg : evaluated s = some g) : hasProof p r s = true ↔
    ∃ c b v, r.pulseFrame = some c ∧ 1 ≤ frameDiff p.frame c ∧ sensorAt s r.boundary = some b ∧ validReport s r.boundary = some v ∧
      r.boundary ∈ g.expected ∧ (∀ j, perPhase b.phases j = true → collapsedAt s r.boundary j = true) ∧
      ∀ j y, perPhase v.phases j = some y → y.i ≤ (selectedProfile s).iDead := by
  have hphases (b : SensorRec) : (phasesIn b.phases).all (collapsedAt s r.boundary) = true ↔
      ∀ j, perPhase b.phases j = true → collapsedAt s r.boundary j = true := by
    simp only [phasesIn, List.all_eq_true, List.mem_filter]
    exact forall_congr' fun j => ⟨fun h hj => h ⟨by cases j <;> simp [allPhases], hj⟩, fun h hj => h hj.2⟩
  have hdead (v : ReportValues) : (allPhases.all fun q => match perPhase v.phases q with
        | some x => decide (x.i ≤ (selectedProfile s).iDead)
        | none => true) = true ↔ ∀ j y, perPhase v.phases j = some y → y.i ≤ (selectedProfile s).iDead := by
    simp only [List.all_eq_true]
    refine forall_congr' fun j => ?_
    have hj : j ∈ allPhases := by cases j <;> simp [allPhases]
    cases perPhase v.phases j <;> simp [hj]
  unfold hasProof
  rw [hg]
  cases hc : r.pulseFrame with
  | none => simp
  | some c => cases hb : sensorAt s r.boundary with
    | none => simp
    | some b => cases hv : validReport s r.boundary with
      | none => simp
      | some v =>
        simp only [Bool.and_eq_true, decide_eq_true_eq, List.contains_eq_mem, hphases, Option.some.injEq]
        constructor
        · rintro ⟨⟨⟨hd, he⟩, hp⟩, hi⟩
          exact ⟨c, b, v, rfl, hd, rfl, rfl, he, hp, (hdead v).mp hi⟩
        · rintro ⟨c', b', v', rfl, hd, rfl, rfl, he, hp, hi⟩
          exact ⟨⟨⟨hd, he⟩, hp⟩, (hdead _).mpr hi⟩

/-- The five steps in their order, the notices of steps 1 and 5 none (R96). -/
theorem completionSteps_silent {s2 s3 s4 s5 : State} (hsensor : p.sensorNotices = [])
    (hsegment : (allSegments.flatMap fun n => (rowAt p.segmentNotices n).getD []) = []) (hseeded : p.seeded = [])
    (h2 : deadlineStarts p allSegments s = (s2, expired)) (h3 : stopConfirmed p s2 = s3)
    (h4 : forEach allSegments (stepThreeWalk p expired) s3 = s4) (h5 : forEach allInterrupters (proofStep p) s4 = s5)
    (hcorrections : s5.tm.pendingCorrections = 0) : completionSteps p s = s5 := by
  have h1 : raiseStageNotices p s = s := by
    rw [raiseStageNotices, hsensor, hsegment]
    rfl
  unfold completionSteps
  rw [h1]
  dsimp only
  rw [h2]
  dsimp only
  rw [h3, h4, h5, hseeded]
  simp [noteCorrections, raiseAll, hcorrections]

end
end Sys2Proof.Machine
end

section
namespace Sys2Proof.Machine

/-! ### A completion that only raises its notices (R96, R162) -/

section
variable {s u : State} {p : Pass} {n : Nat}

/-- The ECC_CORRECTED notice of a completion, if any (R162). -/
def correctionBodies (s : State) : List NoticeBody :=
  if s.tm.pendingCorrections = 0 then [] else [.eccCorrected s.tm.pendingCorrections (s.tm.firstBank.getD 0)]

/-- The notices of a completion in their order (R96). -/
def completionBodies (p : Pass) (s : State) : List NoticeBody :=
  p.sensorNotices ++ (allSegments.flatMap fun n => (rowAt p.segmentNotices n).getD [])
    ++ (p.seeded.map fun x => .baselineReady x.1 x.2) ++ correctionBodies s

/-- The corrections counted are reported once (R162). -/
def correctionsTold (s : State) : TableMemory :=
  if s.tm.pendingCorrections = 0 then s.tm else { s.tm with pendingCorrections := 0, firstBank := none }

theorem noteCorrections_queued {frame : FrameNo} (h : s.nq.queue.length + (correctionBodies s).length ≤ 32) :
    noteCorrections frame s = { s with nq := queued frame (correctionBodies s) s.nq, tm := correctionsTold s } := by
  unfold noteCorrections correctionsTold
  unfold correctionBodies at *
  split
  · rw [queued_nil]
  · rename_i hne
    rw [if_neg hne, List.length_singleton] at h
    exact raiseAt_queued _ _ (by simpa using Nat.lt_of_succ_le h)

theorem raiseStageNotices_queued (h : s.nq.queue.length + (p.sensorNotices ++ allSegments.flatMap fun n => (rowAt p.segmentNotices n).getD []).length ≤ 32) :
    raiseStageNotices p s = { s with
      nq := queued p.frame (p.sensorNotices ++ allSegments.flatMap fun n => (rowAt p.segmentNotices n).getD []) s.nq } := by
  rw [← raiseAll_queued p.frame h, raiseStageNotices, raiseAll, raiseAll, raiseAll, List.foldl_append]

/-- Where no segment is SUSPECT, no deadline starts and nothing is walked. -/
theorem steps_idle (hs : errorFree s) (hnone : ∀ n r, n < 40 → segmentAt s n = some r → r.state ≠ .suspect) :
    deadlineStarts p allSegments s = (s, []) ∧ stopConfirmed p s = s ∧ forEach allSegments (stepThreeWalk p []) s = s := by
  have hnot {n : Nat} (hn : n ∈ allSegments) : isSuspect s n = false := by
    rw [← Bool.not_eq_true, isSuspect_iff]
    rintro ⟨r, hr, hst⟩
    exact hnone n r (mem_allSegments.mp hn) hr hst
  exact ⟨deadlineStarts_idle fun n hn => deadlineStart_idle hs fun r hr hst _ => hnone n r (mem_allSegments.mp hn) hr hst,
    stopConfirmed_idle fun n hn => .inr (hnot (mem_allSegments.mpr hn)), forEach_id fun n hn => stepThreeWalk_idle (.inl (hnot hn))⟩

/-- Where no TRIPPING interrupter has a measurement proof, step 4 opens none. -/
theorem proofs_idle (hs : errorFree s) (hnone : ∀ x r, x < 16 → interrupterAt s x = some r → ¬ (r.state = .tripping ∧ hasProof p r s = true)) :
    forEach allInterrupters (proofStep p) s = s :=
  forEach_id fun x hx => proofStep_idle hs fun r hr htrip =>
    Bool.not_eq_true _ ▸ fun h => hnone x r (mem_allInterrupters.mp hx) hr ⟨htrip, h⟩

/-- The completion with no segment SUSPECT and no measurement proof raises its notices and does nothing else. -/
theorem completionSteps_quiet (hs : errorFree s) (hsuspect : ∀ n r, n < 40 → segmentAt s n = some r → r.state ≠ .suspect)
    (hproof : ∀ x r, x < 16 → interrupterAt s x = some r → ¬ (r.state = .tripping ∧ hasProof p r s = true))
    (hroom : s.nq.queue.length + (completionBodies p s).length ≤ 32) :
    completionSteps p s = { s with nq := queued p.frame (completionBodies p s) s.nq, tm := correctionsTold s } := by
  unfold completionBodies at *
  simp only [List.length_append] at hroom
  have h1 := raiseStageNotices_queued (s := s) (p := p) (by simp only [List.length_append]; omega)
  have hs1 : errorFree (raiseStageNotices p s) := by rw [h1]; exact hs
  have hsuspect1 : ∀ n r, n < 40 → segmentAt (raiseStageNotices p s) n = some r → r.state ≠ .suspect := by rw [h1]; exact hsuspect
  have hproof1 : ∀ x r, x < 16 → interrupterAt (raiseStageNotices p s) x = some r →
      ¬ (r.state = .tripping ∧ hasProof p r (raiseStageNotices p s) = true) := by rw [h1]; exact hproof
  obtain ⟨h2, h3, h4⟩ := steps_idle (p := p) hs1 hsuspect1
  have h5 := proofs_idle hs1 hproof1
  unfold completionSteps
  dsimp only
  rw [h2]
  dsimp only
  rw [h3, h4, h5, h1, raiseAll_queued, noteCorrections_queued]
  · dsimp only
    rw [queued_append, queued_append, ← List.append_assoc]
    rfl
  · change _ + (correctionBodies s).length ≤ 32
    simp only [queued_length, List.length_append]
    omega
  · simp only [queued_length, List.length_append]
    omega

end
end Sys2Proof.Machine
end

section
namespace Sys2Proof.Machine

/-! ### A confirmed segment's walk (R89, R123 to R126) -/

section
variable {s t u : State} {n x b : Nat} {k : Confirmation} {r : SegRec} {d : SuspectDetails} {q : IntRec}

theorem parentOf_congr (h : ∀ m, (segmentAt t m).map (fun g => (g.up, g.down)) = (segmentAt s m).map fun g => (g.up, g.down))
    {g g' : SegRec} (hup : g'.up = g.up) : parentOf t g' = parentOf s g := by
  have htree : inTreeWith t (fun r => r.down.contains g.up) = inTreeWith s fun r => r.down.contains g.up := by
    funext m
    have hm := h m
    unfold inTreeWith
    cases ht : segmentAt t m <;> cases hs : segmentAt s m <;> simp_all
  rw [parentOf, parentOf, segmentAbove, segmentAbove, hup, htree]

/-- The candidate boundaries depend on the tree alone (R8). -/
theorem candidateBoundaries_congr (h : ∀ m, (segmentAt t m).map (fun g => (g.up, g.down)) = (segmentAt s m).map fun g => (g.up, g.down))
    (n : Nat) : candidateBoundaries t n = candidateBoundaries s n := by
  have hfuel (fuel : Nat) : ∀ m, boundariesUp t fuel m = boundariesUp s fuel m := by
    induction fuel with
    | zero => exact fun _ => rfl
    | succ fuel ih =>
      intro m
      have hm := h m
      unfold boundariesUp
      cases ht : segmentAt t m with
      | none =>
        cases hs : segmentAt s m with
        | none => rfl
        | some g => simp [ht, hs] at hm
      | some g' =>
        cases hs : segmentAt s m with
        | none => simp [ht, hs] at hm
        | some g =>
          simp only [ht, hs, Option.map_some, Option.some.injEq, Prod.mk.injEq] at hm
          dsimp only
          rw [hm.1, parentOf_congr h hm.1]
          cases parentOf s g with
          | none => rfl
          | some f => exact congrArg (g.up :: ·) (ih f)
  exact hfuel 40 n

/-- A table of segments with one record replaced. -/
def replacesSegment (s : State) (tab : Table SegPlace) (n : Nat) (r : SegRec) : Prop :=
  ∀ m, rowAt tab m = if m = n then some (.live r) else rowAt s.segments m

theorem modifySegment_replaces {f : SegRec → SegRec} (hr : segmentAt s n = some r) (herr : (f r).err = 0) :
    replacesSegment s (modifySegment n f s).segments n (f r) := by
  intro m
  rw [row_modifySegment, segmentAt_row.mp hr, Option.map_some, rewrittenSegment, ← herr]

theorem segmentAt_replaced (h : replacesSegment s t.segments n r) : segmentAt t n = some r := segmentAt_row.mpr (by rw [h, if_pos rfl])

theorem replacesSegment_trans {r' : SegRec} {tab : Table SegPlace} (h : replacesSegment s t.segments n r)
    (h' : replacesSegment t tab n r') : replacesSegment s tab n r' := by
  intro m
  rw [h' m, h m]
  split <;> rfl

/-- A segment's record once its confirmation is walked to its end (R89). -/
def decidedRecord (k : Confirmation) (r : SegRec) (d : SuspectDetails) (st : SegState) (chain : List ChainEntry) : SegRec :=
  { r with state := st, suspect := none, verdict := some { verdictOf r d k with chain } }

/-- Its VERDICT notice (R89, R125). -/
def verdictBody (n : Nat) (k : Confirmation) (r : SegRec) (d : SuspectDetails) (st : SegState) : NoticeBody :=
  .verdict n st k.verdictClass (verdictOf r d k).phases d.first k.confirm (verdictOf r d k).marks r.openCount r.contactCount
    (k.arc.map (min · 65535))

/-- The verdict part placed, the walk not yet begun (R89). -/
def verdictPlaced (n : Nat) (k : Confirmation) (r : SegRec) (d : SuspectDetails) (s : State) : State :=
  writeSegment n { r with verdict := some (verdictOf r d k), suspect := none } s

theorem verdictPlaced_replaces (herr : r.err = 0) : replacesSegment s (verdictPlaced n k r d s).segments n
    (decidedRecord k r d r.state []) := by
  intro m
  rw [verdictPlaced, writeSegment, rowAt_setRow]
  simp only [← herr]
  rfl

theorem errorFree_replaced {tab : Table SegPlace} (hs : errorFree s) (h : replacesSegment s tab n r) (herr : r.err = 0) :
    errorFree { s with segments := tab } := by
  refine ⟨⟨hs.1.1, fun m g hg => ?_⟩, hs.2⟩
  rw [segmentAt_row] at hg
  have hm := (h m).symm.trans hg
  split at hm
  · cases hm
    exact herr
  · exact hs.1.2 m g (segmentAt_row.mpr hm)

theorem candidateBoundaries_placed (hr : segmentAt s n = some r) (herr : r.err = 0) (m : Nat) :
    candidateBoundaries (verdictPlaced n k r d s) m = candidateBoundaries s m := by
  refine candidateBoundaries_congr (fun j => ?_) m
  have hrow := verdictPlaced_replaces (s := s) (n := n) (k := k) (d := d) herr j
  by_cases hj : j = n
  · subst hj
    rw [segmentAt_row.mpr (by rw [hrow, if_pos rfl]), hr]
    rfl
  · rw [if_neg hj] at hrow
    rw [segmentAt, segmentAt, hrow]

/-- The walk of a confirmed segment, its verdict part placed (R89). -/
theorem confirmWalk_eq (hs : errorFree s) (hr : segmentAt s n = some r) (hd : r.suspect = some d) : confirmWalk n k s =
    noteIsolationFailed n (noteVerdict n k.arc (if tripsAllowed s then
      walk n .verdict (candidateBoundaries s n) (verdictPlaced n k r d s) else setSegState n .withheld (verdictPlaced n k r d s))) := by
  have hpath : candidateBoundaries (verdictPlaced n k r d s) n = candidateBoundaries s n := candidateBoundaries_placed hr (hs.1.2 n r hr) n
  rw [← hpath]
  unfold confirmWalk
  rw [readSegments_readsClean hs.1]
  simp only [hr, hd]
  have hallowed : tripsAllowed (verdictPlaced n k r d s) = tripsAllowed s := rfl
  rw [← hallowed]
  generalize hplaced : verdictPlaced n k r d s = u
  rw [verdictPlaced] at hplaced
  rw [hplaced]

theorem noteIsolationFailed_other (hr : segmentAt s n = some r) (hst : r.state ≠ .isolationFailed) : noteIsolationFailed n s = s := by
  unfold noteIsolationFailed
  rw [hr]
  dsimp only
  split
  · rename_i hfailed _
    exact absurd hfailed hst
  · rfl

/-- The notice of a confirmed segment whose walk did not fail (R125). -/
theorem noteVerdict_decided {st : SegState} {chain : List ChainEntry} (hu : segmentAt u n = some (decidedRecord k r d st chain))
    (hst : st ≠ .isolationFailed) (hroom : u.nq.queue.length < 32) :
    noteIsolationFailed n (noteVerdict n k.arc u) = { u with nq := queued u.ft.frame [verdictBody n k r d st] u.nq } := by
  have hnote : noteVerdict n k.arc u = { u with nq := queued u.ft.frame [verdictBody n k r d st] u.nq } := by
    rw [← raiseAt_queued _ _ hroom, noteVerdict, hu]
    rfl
  have hat : segmentAt (noteVerdict n k.arc u) n = some (decidedRecord k r d st chain) := by
    rw [hnote]
    exact hu
  rw [← hnote]
  exact noteIsolationFailed_other hat hst

/-- With no trip allowed the segment is WITHHELD (R125). -/
theorem confirmWalk_withheld (hs : errorFree s) (hr : segmentAt s n = some r) (hd : r.suspect = some d) (hallowed : tripsAllowed s = false)
    (hroom : s.nq.queue.length < 32) : ∃ tab, replacesSegment s tab n (decidedRecord k r d .withheld []) ∧
      confirmWalk n k s = { s with segments := tab, nq := queued s.ft.frame [verdictBody n k r d .withheld] s.nq } := by
  have herr := hs.1.2 n r hr
  have hplaced := verdictPlaced_replaces (s := s) (n := n) (k := k) (d := d) herr
  have hset : replacesSegment (verdictPlaced n k r d s) (setSegState n .withheld (verdictPlaced n k r d s)).segments n
      (decidedRecord k r d .withheld []) := modifySegment_replaces (segmentAt_replaced hplaced) herr
  refine ⟨_, replacesSegment_trans hplaced hset, ?_⟩
  have hrest : setSegState n .withheld (verdictPlaced n k r d s) =
      { s with segments := (setSegState n .withheld (verdictPlaced n k r d s)).segments } := modifySegment_eq n _ _
  rw [confirmWalk_eq hs hr hd, hallowed]
  simp only [Bool.false_eq_true, if_false]
  rw [noteVerdict_decided (segmentAt_replaced hset) (by decide)]
  · rw [hrest]
  · rw [hrest]
    exact hroom

/-- A visit that leaves the segment ISOLATING on interrupter x, its chain empty before (R122, R126). -/
theorem recordVisit_isolating {o : ChainOutcome} (hr : segmentAt s n = some (decidedRecord k r d r.state [])) (herr : r.err = 0) :
    ∃ tab, replacesSegment s tab n (decidedRecord k r d .isolating [⟨x, o⟩]) ∧
      recordVisit n x o (setSegState n .isolating s) = { s with segments := tab } := by
  have hset : replacesSegment s (setSegState n .isolating s).segments n (decidedRecord k r d .isolating []) := modifySegment_replaces hr herr
  have hvisit : replacesSegment (setSegState n .isolating s) (recordVisit n x o (setSegState n .isolating s)).segments n
      (decidedRecord k r d .isolating [⟨x, o⟩]) := modifySegment_replaces (segmentAt_replaced hset) herr
  have hrest : setSegState n .isolating s = { s with segments := (setSegState n .isolating s).segments } := modifySegment_eq n _ _
  have hrest' : recordVisit n x o (setSegState n .isolating s) =
      { setSegState n .isolating s with segments := (recordVisit n x o (setSegState n .isolating s)).segments } := modifySegment_eq n _ _
  exact ⟨_, replacesSegment_trans hset hvisit, by rw [hrest', hrest]⟩

/-- Boundaries without an interrupter are passed (R123). -/
theorem walkWith_skip {e : Escalation} {cause : TripCause} {below above : List Nat} (h : ∀ b ∈ below, interrupterOn s b = none) :
    walkWith e n cause (below ++ above) s = walkWith e n cause above s := by
  induction below with
  | nil => rfl
  | cons b below ih =>
    rw [List.cons_append, walkWith, h b (by simp)]
    exact ih fun c hc => h c (by simp [hc])

/-- An armed REMOTE interrupter, UNKNOWN or CLOSED, first on the path, trips for the segment (R124, R126). -/
theorem walk_trips {above : List Nat} (hs : errorFree s) (hon : interrupterOn s b = some x) (hq : interrupterAt s x = some q)
    (harmed : q.armed = true) (hstate : q.state = .unknown ∨ q.state = .closed) :
    walk n .verdict (b :: above) s = startTrip x q n .verdict s := by
  rw [walk, walkWith, hon]
  dsimp only
  rw [readInterrupterWith_noError _ (hs.2 x), hq]
  rcases hstate with hstate | hstate <;> simp [hstate, harmed]

/-- A TRIPPING interrupter first on the path is joined (R124). -/
theorem walk_joins {above : List Nat} (hs : errorFree s) (hon : interrupterOn s b = some x) (hq : interrupterAt s x = some q)
    (hstate : q.state = .tripping) : walk n .verdict (b :: above) s =
      recordVisit n x .joined (setSegState n .isolating (writeInterrupter x { q with waiters := q.waiters ++ [n] } s)) := by
  rw [walk, walkWith, hon]
  dsimp only
  rw [readInterrupterWith_noError _ (hs.2 x), hq]
  simp [hstate]

/-- Interrupter x is the first on the path of segment n: no boundary below its own holds one (R123). -/
def firstOnPath (s : State) (n x b : Nat) : Prop :=
  interrupterOn s b = some x ∧ ∃ below above, candidateBoundaries s n = below ++ b :: above ∧ ∀ c ∈ below, interrupterOn s c = none

theorem confirmWalk_walked (hs : errorFree s) (hr : segmentAt s n = some r) (hd : r.suspect = some d) (hallowed : tripsAllowed s = true)
    (hpath : firstOnPath s n x b) : ∃ above, confirmWalk n k s =
      noteIsolationFailed n (noteVerdict n k.arc (walk n .verdict (b :: above) (verdictPlaced n k r d s))) := by
  obtain ⟨-, below, above, hcandidates, hbelow⟩ := hpath
  refine ⟨above, ?_⟩
  rw [confirmWalk_eq hs hr hd, hallowed, hcandidates]
  simp only [if_true]
  rw [walk, walkWith_skip]
  exact hbelow

theorem errorFree_placed (hs : errorFree s) (hr : segmentAt s n = some r) : errorFree (verdictPlaced n k r d s) :=
  errorFree_replaced hs (verdictPlaced_replaces (hs.1.2 n r hr)) (hs.1.2 n r hr)

/-- The first segment confirmed trips the interrupter first on its path (R96, R125, R126). -/
theorem confirmWalk_trips (hs : errorFree s) (hr : segmentAt s n = some r) (hd : r.suspect = some d) (hallowed : tripsAllowed s = true)
    (hpath : firstOnPath s n x b) (hq : interrupterAt s x = some q) (hkind : q.kind = .remote) (harmed : q.armed = true)
    (hstate : q.state = .unknown ∨ q.state = .closed) (hroom : s.nq.queue.length + 2 ≤ 32) :
    ∃ tab, replacesSegment s tab n (decidedRecord k r d .isolating [⟨x, .tripped⟩]) ∧ confirmWalk n k s = { s with
      segments := tab, interrupters := setRow s.interrupters x (.live (tripped n s q))
      nq := queued s.ft.frame [.tripStarted x .remote q.boundary q.confirmTime n .verdict, verdictBody n k r d .isolating] s.nq } := by
  obtain ⟨above, hwalk⟩ := confirmWalk_walked (k := k) hs hr hd hallowed hpath
  have herr := hs.1.2 n r hr
  have hplaced := verdictPlaced_replaces (s := s) (n := n) (k := k) (d := d) herr
  have htrip := walk_trips (n := n) (above := above) (errorFree_placed (k := k) (d := d) hs hr) hpath.1 hq harmed hstate
  have hwritten : writeInterrupter x (tripped n s q) (verdictPlaced n k r d s) =
      { verdictPlaced n k r d s with interrupters := setRow s.interrupters x (.live (tripped n s q)) } := by
    have hz : (tripped n s q).err = 0 := hs.2 x q hq
    rw [writeInterrupter, ← hz]
    rfl
  obtain ⟨tab, hvisit, hvisited⟩ := recordVisit_isolating (s := writeInterrupter x (tripped n s q) (verdictPlaced n k r d s))
    (n := n) (x := x) (o := .tripped) (segmentAt_replaced hplaced) herr
  have hstarted : startTrip x q n .verdict (verdictPlaced n k r d s) = { s with
      segments := tab, interrupters := setRow s.interrupters x (.live (tripped n s q))
      nq := queued s.ft.frame [.tripStarted x .remote q.boundary q.confirmTime n .verdict] s.nq } := by
    unfold startTrip
    rw [show tripped n (verdictPlaced n k r d s) q = tripped n s q from rfl, hvisited, hwritten, hkind]
    exact raiseAt_queued _ _ (show s.nq.queue.length < 32 by omega)
  refine ⟨tab, replacesSegment_trans hplaced hvisit, ?_⟩
  rw [hwalk, htrip, hstarted, noteVerdict_decided (st := .isolating) (chain := [⟨x, .tripped⟩])]
  · dsimp only
    rw [queued_append]
    rfl
  · exact segmentAt_replaced (replacesSegment_trans hplaced hvisit)
  · decide
  · rw [queued_length, List.length_singleton]
    omega

/-- A later one joins it (R96, R124, R125). -/
theorem confirmWalk_joins (hs : errorFree s) (hr : segmentAt s n = some r) (hd : r.suspect = some d) (hallowed : tripsAllowed s = true)
    (hpath : firstOnPath s n x b) (hq : interrupterAt s x = some q) (hstate : q.state = .tripping) (hroom : s.nq.queue.length < 32) :
    ∃ tab, replacesSegment s tab n (decidedRecord k r d .isolating [⟨x, .joined⟩]) ∧ confirmWalk n k s = { s with
      segments := tab, interrupters := setRow s.interrupters x (.live { q with waiters := q.waiters ++ [n] })
      nq := queued s.ft.frame [verdictBody n k r d .isolating] s.nq } := by
  obtain ⟨above, hwalk⟩ := confirmWalk_walked (k := k) hs hr hd hallowed hpath
  have herr := hs.1.2 n r hr
  have hplaced := verdictPlaced_replaces (s := s) (n := n) (k := k) (d := d) herr
  have hjoin := walk_joins (n := n) (above := above) (errorFree_placed (k := k) (d := d) hs hr) hpath.1 hq hstate
  have hwritten : writeInterrupter x { q with waiters := q.waiters ++ [n] } (verdictPlaced n k r d s) =
      { verdictPlaced n k r d s with interrupters := setRow s.interrupters x (.live { q with waiters := q.waiters ++ [n] }) } := by
    simp only [writeInterrupter, ← hs.2 x q hq]
    rfl
  obtain ⟨tab, hvisit, hvisited⟩ := recordVisit_isolating (s := writeInterrupter x { q with waiters := q.waiters ++ [n] } (verdictPlaced n k r d s))
    (n := n) (x := x) (o := .joined) (segmentAt_replaced hplaced) herr
  refine ⟨tab, replacesSegment_trans hplaced hvisit, ?_⟩
  rw [hwalk, hjoin, hvisited, hwritten, noteVerdict_decided (st := .isolating) (chain := [⟨x, .joined⟩])]
  · rfl
  · exact segmentAt_replaced (replacesSegment_trans hplaced hvisit)
  · decide
  · exact hroom

end
end Sys2Proof.Machine
end

section
namespace Sys2Proof.Machine

/-! ### Step 3 over the confirmed segments (R96) -/

section
variable {s t : State} {p : Pass} {ns : List Nat}

/-- A turn over a list in which only some numbers act: what holds after each of these holds at the end. -/
theorem forEach_filtered {Inv : List Nat → State → Prop} {l : List Nat} {a : Nat → Bool} {f : Nat → State → State} (h0 : Inv [] s)
    (hskip : ∀ d ∈ l, a d = false → ∀ done t, d ∉ done → Inv done t → f d t = t)
    (hstep : ∀ done d after t, l.filter a = done ++ d :: after → Inv done t → Inv (done ++ [d]) (f d t)) :
    Inv (l.filter a) (forEach l f s) := by
  have hfront : ∀ before after, l = before ++ after → Inv (before.filter a) (forEach before f s) := by
    intro before
    induction before using List.reverseRecOn with
    | nil => exact fun _ _ => h0
    | append_singleton before d ih =>
      intro after hsplit
      rw [List.append_assoc, List.singleton_append] at hsplit
      have hbefore := ih _ hsplit
      rw [forEach_snoc, List.filter_append]
      cases ha : a d with
      | false =>
        rw [hskip d (by simp [hsplit]) ha _ _ (fun h => by simp [ha] at h) hbefore]
        simpa [ha] using hbefore
      | true =>
        have hfilter : l.filter a = before.filter a ++ d :: after.filter a := by
          rw [hsplit, List.filter_append, List.filter_cons_of_pos ha]
        simpa [ha] using hstep _ d _ _ hfilter hbefore
  exact hfront l [] (List.append_nil l).symm

/-- Ascending numbers below 40 are those of all segments that they hold. -/
theorem filter_allSegments (hlt : ns.Pairwise (· < ·)) (hns : ∀ n ∈ ns, n < 40) : allSegments.filter (fun n => decide (n ∈ ns)) = ns := by
  refine List.Pairwise.eq_of_mem_iff (pairwise_filter_allSegments _) hlt fun n => ?_
  simp only [List.mem_filter, mem_allSegments, decide_eq_true_eq]
  exact ⟨fun h => h.2, fun h => ⟨hns n h, h⟩⟩

/-- The record with its deadline timer stopped (R96 step 3). -/
def timerStopped (r : SegRec) : SegRec := { r with deadline := none }

theorem segmentAt_of_row {m : Nat} (h : rowAt t.segments m = rowAt s.segments m) : segmentAt t m = segmentAt s m := by
  rw [segmentAt, segmentAt, h]

theorem isSuspect_of_row {m : Nat} (h : rowAt t.segments m = rowAt s.segments m) : isSuspect t m = isSuspect s m := by
  rw [isSuspect, isSuspect, stateOfSegment, stateOfSegment, segmentAt_of_row h]

theorem not_mem_of_ascending {done after : List Nat} {d : Nat} (hlt : ns.Pairwise (· < ·)) (hsplit : ns = done ++ d :: after) : d ∉ done := by
  rw [hsplit, List.pairwise_append] at hlt
  exact fun hd => (hlt.2.2 d hd d (by simp)).false

/-- Step 3 first stops the timers of the confirmed segments (R96). -/
theorem stopConfirmed_rows (hns : ∀ n ∈ ns, n < 40) (hlt : ns.Pairwise (· < ·))
    (hact : ∀ n < 40, n ∈ ns ↔ ((rowAt p.confirmed n).isSome && isSuspect s n) = true) :
    ∃ tab, stopConfirmed p s = { s with segments := tab } ∧
      ∀ m, rowAt tab m = if m ∈ ns then (rowAt s.segments m).map (rewrittenSegment timerStopped) else rowAt s.segments m := by
  have hfilter := filter_allSegments hlt hns
  have hinv := forEach_filtered (s := s) (l := allSegments) (a := fun n => decide (n ∈ ns))
    (f := fun n t => if (rowAt p.confirmed n).isSome && isSuspect t n then modifySegment n timerStopped t else t)
    (Inv := fun done t => t = { s with segments := t.segments } ∧
      ∀ m, rowAt t.segments m = if m ∈ done then (rowAt s.segments m).map (rewrittenSegment timerStopped) else rowAt s.segments m)
    ⟨rfl, fun m => by simp⟩ ?_ ?_
  · rw [hfilter] at hinv
    exact ⟨_, hinv⟩
  · rintro d hd ha done t hdone ⟨-, hrows⟩
    refine if_neg fun h => ?_
    rw [isSuspect_of_row ((hrows d).trans (if_neg hdone)), ← hact d (mem_allSegments.mp hd)] at h
    simp [h] at ha
  · rintro done d after t hsplit ⟨hrest, hrows⟩
    rw [hfilter] at hsplit
    have hd : d ∈ ns := by simp [hsplit]
    have hdone := not_mem_of_ascending hlt hsplit
    have hrow := (hrows d).trans (if_neg hdone)
    have hact' := (hact d (hns d hd)).mp hd
    rw [← isSuspect_of_row hrow] at hact'
    simp only [hact', if_true]
    refine ⟨by rw [modifySegment_eq, hrest], fun m => ?_⟩
    rw [row_modifySegment, hrow, hrows m]
    by_cases hm : m = d
    · simp [hm]
    · simp [hm]

end
end Sys2Proof.Machine
end

section
namespace Sys2Proof.Machine

/-! ### The confirmed segments walked in their order (R96, R125, R126) -/

/-- What the confirmation of a pass fixes for a segment (R89, R96). -/
def passConfirmation (p : Pass) (kind : VerdictClass) (n : Nat) : Confirmation :=
  { verdictClass := kind, allPhases := kind == .downedConductor, confirm := p.frame, deadline := false, arc := (workOf p n).arc }

/-- The segments that a pass has confirmed, their timers stopped: exactly those SUSPECT. -/
structure Confirmed (p : Pass) (ns : List Nat) (rec : Nat → SegRec) (det : Nat → SuspectDetails) (kind : Nat → VerdictClass)
    (s : State) : Prop where
  clean : errorFree s
  bound : ∀ n ∈ ns, n < 40
  ascending : ns.Pairwise (· < ·)
  record : ∀ n ∈ ns, segmentAt s n = some (rec n)
  state : ∀ n ∈ ns, (rec n).state = .suspect
  suspect : ∀ n ∈ ns, (rec n).suspect = some (det n)
  kinds : ∀ n ∈ ns, rowAt p.confirmed n = some (kind n)
  others : ∀ n < 40, n ∉ ns → isSuspect s n = false

section
variable {s t : State} {p : Pass} {ns done after : List Nat} {rec : Nat → SegRec} {det : Nat → SuspectDetails} {kind : Nat → VerdictClass}
  {d x b : Nat} {q : IntRec}

theorem errorFree_of (hs : errorFree s) (hsensors : t.sensors = s.sensors)
    (hsegments : ∀ m g, segmentAt t m = some g → segmentAt s m = some g ∨ g.err = 0)
    (hinterrupters : ∀ y q, interrupterAt t y = some q → interrupterAt s y = some q ∨ q.err = 0) : errorFree t :=
  ⟨⟨fun m r hr => hs.1.1 m r (sensorAt_congr hsensors m ▸ hr), fun m g hg => (hsegments m g hg).elim (hs.1.2 m g) id⟩,
    fun y q hq => (hinterrupters y q hq).elim (hs.2 y q) id⟩

/-- A confirmed segment's record once walked. -/
def walkedRecord (p : Pass) (rec : Nat → SegRec) (det : Nat → SuspectDetails) (kind : Nat → VerdictClass) (st : SegState)
    (chain : List ChainEntry) (n : Nat) : SegRec := decidedRecord (passConfirmation p (kind n) n) (rec n) (det n) st chain

def walkedBody (p : Pass) (rec : Nat → SegRec) (det : Nat → SuspectDetails) (kind : Nat → VerdictClass) (st : SegState) (n : Nat) :
    NoticeBody := verdictBody n (passConfirmation p (kind n) n) (rec n) (det n) st

/-- The segments done so far hold their new records, the others stand as before. -/
def walkedRows (s t : State) (done : List Nat) (row : Nat → SegRec) : Prop :=
  ∀ m, rowAt t.segments m = if m ∈ done then some (.live (row m)) else rowAt s.segments m

theorem walkedRows_step {tab : Table SegPlace} {row : Nat → SegRec} (h : walkedRows s t done row)
    (hstep : replacesSegment t tab d (row d)) : ∀ m, rowAt tab m = if m ∈ done ++ [d] then some (.live (row m)) else rowAt s.segments m := by
  intro m
  rw [hstep m, h m]
  by_cases hm : m = d
  · simp [hm]
  · simp [hm]

theorem Confirmed.segment_err (h : Confirmed p ns rec det kind s) (hdone : ∀ m ∈ done, m ∈ ns) {st : SegState}
    {chain : Nat → List ChainEntry} (hrows : walkedRows s t done fun m => walkedRecord p rec det kind st (chain m) m) (m : Nat) (g : SegRec) (hg : segmentAt t m = some g) :
    segmentAt s m = some g ∨ g.err = 0 := by
  rw [segmentAt_row, hrows m] at hg
  split at hg
  · rename_i hm
    cases hg
    exact .inr (show (rec m).err = 0 from h.clean.1.2 m _ (h.record m (hdone m hm)))
  · exact .inl (segmentAt_row.mpr hg)

theorem Confirmed.record_ahead (h : Confirmed p ns rec det kind s) (hsplit : ns = done ++ d :: after) {row : Nat → SegRec}
    (hrows : walkedRows s t done row) : segmentAt t d = some (rec d) := by
  rw [segmentAt_of_row ((hrows d).trans (if_neg (not_mem_of_ascending h.ascending hsplit)))]
  exact h.record d (by simp [hsplit])

/-- The step walks a confirmed segment that is still SUSPECT. -/
theorem Confirmed.step_walks (h : Confirmed p ns rec det kind s) (hd : d ∈ ns) (hat : segmentAt t d = some (rec d)) :
    stepThreeWalk p [] d t = confirmWalk d (passConfirmation p (kind d) d) t := by
  have hsus : isSuspect t d = true := isSuspect_iff.mpr ⟨_, hat, h.state d hd⟩
  simp [stepThreeWalk, hsus, h.kinds d hd, passConfirmation]

theorem Confirmed.step_skips (h : Confirmed p ns rec det kind s) (hd : d ∈ allSegments) (ha : decide (d ∈ ns) = false)
    (hdone : d ∉ done) {row : Nat → SegRec} (hrows : walkedRows s t done row) : stepThreeWalk p [] d t = t := by
  refine stepThreeWalk_idle (.inl ?_)
  rw [isSuspect_of_row ((hrows d).trans (if_neg hdone))]
  exact h.others d (mem_allSegments.mp hd) (of_decide_eq_false ha)

/-- With no trip allowed each confirmed segment is WITHHELD, in ascending number (R96, R125). -/
theorem Confirmed.walks_withheld (h : Confirmed p ns rec det kind s) (hallowed : tripsAllowed s = false)
    (hroom : s.nq.queue.length + ns.length ≤ 32) :
    ∃ tab, forEach allSegments (stepThreeWalk p []) s = { s with
      segments := tab, nq := queued s.ft.frame (ns.map (walkedBody p rec det kind .withheld)) s.nq } ∧
      ∀ m, rowAt tab m = if m ∈ ns then some (.live (walkedRecord p rec det kind .withheld [] m)) else rowAt s.segments m := by
  have hfilter := filter_allSegments h.ascending h.bound
  have hinv := forEach_filtered (s := s) (l := allSegments) (a := fun n => decide (n ∈ ns)) (f := stepThreeWalk p [])
    (Inv := fun done t => t = { s with
        segments := t.segments, nq := queued s.ft.frame (done.map (walkedBody p rec det kind .withheld)) s.nq } ∧
      walkedRows s t done (walkedRecord p rec det kind .withheld []))
    ⟨by rw [List.map_nil, queued_nil], fun m => by simp⟩ (fun d hd ha done t hdone hinv => h.step_skips hd ha hdone hinv.2) ?_
  · rw [hfilter] at hinv
    exact ⟨_, hinv⟩
  · rintro done d after t hsplit ⟨hrest, hrows⟩
    rw [hfilter] at hsplit
    have hd : d ∈ ns := by simp [hsplit]
    have hat := h.record_ahead hsplit hrows
    have hclean : errorFree t := errorFree_of h.clean (by rw [hrest])
      (h.segment_err (done := done) (fun m hm => by simp [hsplit, hm]) (chain := fun _ => []) hrows) fun y q hq => .inl (by rw [hrest] at hq; exact hq)
    have hlength : t.nq.queue.length < 32 := by
      rw [hrest, queued_length, List.length_map]
      rw [hsplit, List.length_append, List.length_cons] at hroom
      omega
    obtain ⟨tab, hreplaced, hwalk⟩ := confirmWalk_withheld (k := passConfirmation p (kind d) d) hclean hat (h.suspect d hd)
      (by rw [hrest]; exact hallowed) hlength
    rw [h.step_walks hd hat, hwalk]
    refine ⟨?_, walkedRows_step hrows hreplaced⟩
    rw [List.map_append, ← queued_append, hrest]
    rfl

/-- The boundaries' interrupters depend on the interrupters' boundary sensors alone (R8). -/
theorem interrupterOn_congr (h : ∀ y, (interrupterAt t y).map (·.boundary) = (interrupterAt s y).map (·.boundary)) (c : Nat) :
    interrupterOn t c = interrupterOn s c := by
  rw [interrupterOn_eq, interrupterOn_eq]
  congr 1
  funext y
  have hy := h y
  cases ht : interrupterAt t y <;> cases hs : interrupterAt s y <;> simp_all

theorem firstOnPath_congr (htree : ∀ m, (segmentAt t m).map (fun g => (g.up, g.down)) = (segmentAt s m).map fun g => (g.up, g.down))
    (hint : ∀ y, (interrupterAt t y).map (·.boundary) = (interrupterAt s y).map (·.boundary)) (h : firstOnPath s d x b) :
    firstOnPath t d x b := by
  unfold firstOnPath
  simp only [candidateBoundaries_congr htree, interrupterOn_congr hint]
  exact h

/-- The chain entry of a confirmed segment: the first trips the interrupter, the others join it (R122, R126). -/
def entryOn (x first m : Nat) : List ChainEntry := [⟨x, if m = first then .tripped else .joined⟩]

/-- The notices of the walks done so far: TRIP_STARTED before the first VERDICT (R125). -/
def trippedBodies (trip : NoticeBody) (verdict : Nat → NoticeBody) (done : List Nat) : List NoticeBody :=
  if done = [] then [] else trip :: done.map verdict

theorem trippedBodies_length {trip : NoticeBody} {verdict : Nat → NoticeBody} :
    (trippedBodies trip verdict done).length ≤ 1 + done.length := by
  unfold trippedBodies
  split
  · simp
  · simp [Nat.add_comm]

/-- The interrupters after the walks done so far: x is TRIPPING with those walked as its waiters. -/
def trippedRows (s t : State) (x first : Nat) (q : IntRec) (done : List Nat) : Prop :=
  ∀ y, rowAt t.interrupters y = if y = x ∧ done ≠ [] then some (.live { tripped first s q with waiters := done }) else rowAt s.interrupters y

theorem walkedRows_tree {st : SegState} {chain : Nat → List ChainEntry} (hrec : ∀ m ∈ done, segmentAt s m = some (rec m))
    (hrows : walkedRows s t done fun m => walkedRecord p rec det kind st (chain m) m) (m : Nat) :
    (segmentAt t m).map (fun g => (g.up, g.down)) = (segmentAt s m).map fun g => (g.up, g.down) := by
  by_cases hm : m ∈ done
  · rw [segmentAt_row.mpr ((hrows m).trans (if_pos hm)), hrec m hm]
    rfl
  · rw [segmentAt_of_row ((hrows m).trans (if_neg hm))]

theorem interrupterAt_of_row (h : rowAt t.interrupters x = rowAt s.interrupters x) : interrupterAt t x = interrupterAt s x := by
  rw [interrupterAt, interrupterAt, h]

theorem trippedRows_boundary {first : Nat} (hq : interrupterAt s x = some q) (hrows : trippedRows s t x first q done) (y : Nat) :
    (interrupterAt t y).map (·.boundary) = (interrupterAt s y).map (·.boundary) := by
  by_cases hy : y = x ∧ done ≠ []
  · rw [interrupterAt_row.mpr ((hrows y).trans (if_pos hy)), hy.1, hq]
    rfl
  · rw [interrupterAt_of_row ((hrows y).trans (if_neg hy))]

theorem trippedRows_err {first : Nat} (hq : q.err = 0) (hrows : trippedRows s t x first q done) (y : Nat) (z : IntRec)
    (hz : interrupterAt t y = some z) : interrupterAt s y = some z ∨ z.err = 0 := by
  rw [interrupterAt_row, hrows y] at hz
  split at hz
  · cases hz
    exact .inr hq
  · exact .inl (interrupterAt_row.mpr hz)

/-- With one armed REMOTE interrupter the first on every path, the first confirmed segment trips it and the others join it. -/
theorem Confirmed.walks_trip (h : Confirmed p ns rec det kind s) {first : Nat} {others : List Nat} (hns : ns = first :: others)
    (hallowed : tripsAllowed s = true) (hpath : ∀ n ∈ ns, firstOnPath s n x b) (hq : interrupterAt s x = some q)
    (hkind : q.kind = .remote) (harmed : q.armed = true) (hstate : q.state = .unknown ∨ q.state = .closed)
    (hroom : s.nq.queue.length + 1 + ns.length ≤ 32) :
    ∃ tab itab, forEach allSegments (stepThreeWalk p []) s = { s with
      segments := tab, interrupters := itab
      nq := queued s.ft.frame (.tripStarted x .remote q.boundary q.confirmTime first .verdict
        :: ns.map (walkedBody p rec det kind .isolating)) s.nq } ∧
      (∀ m, rowAt tab m = if m ∈ ns then some (.live (walkedRecord p rec det kind .isolating (entryOn x first m) m))
        else rowAt s.segments m) ∧
      ∀ y, rowAt itab y = if y = x then some (.live { tripped first s q with waiters := ns }) else rowAt s.interrupters y := by
  have hfilter := filter_allSegments h.ascending h.bound
  have herr := h.clean.2 x q hq
  have hinv := forEach_filtered (s := s) (l := allSegments) (a := fun n => decide (n ∈ ns)) (f := stepThreeWalk p [])
    (Inv := fun done t => t = { s with
        segments := t.segments, interrupters := t.interrupters
        nq := queued s.ft.frame (trippedBodies (.tripStarted x .remote q.boundary q.confirmTime first .verdict)
          (walkedBody p rec det kind .isolating) done) s.nq } ∧
      walkedRows s t done (fun m => walkedRecord p rec det kind .isolating (entryOn x first m) m) ∧
      trippedRows s t x first q done)
    ⟨by simp [trippedBodies, queued_nil], fun m => by simp, fun y => by simp⟩
    (fun d hd ha done t hdone hinv => h.step_skips hd ha hdone hinv.2.1) ?_
  · rw [hfilter] at hinv
    obtain ⟨hrest, hsegments, hinterrupters⟩ := hinv
    have hne : ns ≠ [] := by simp [hns]
    rw [trippedBodies, if_neg hne] at hrest
    refine ⟨_, _, hrest, hsegments, fun y => ?_⟩
    rw [hinterrupters y]
    simp [hne]
  · rintro done d after t hsplit ⟨hrest, hrows, hirows⟩
    rw [hfilter] at hsplit
    have hd : d ∈ ns := by simp [hsplit]
    have hdone : ∀ m ∈ done, m ∈ ns := fun m hm => by simp [hsplit, hm]
    have hat := h.record_ahead hsplit hrows
    have hclean : errorFree t := errorFree_of h.clean (by rw [hrest]) (h.segment_err hdone hrows)
      (trippedRows_err herr hirows)
    have hpath' : firstOnPath t d x b := firstOnPath_congr
      (walkedRows_tree (fun m hm => h.record m (hdone m hm)) hrows) (trippedRows_boundary hq hirows) (hpath d hd)
    have hallowed' : tripsAllowed t = true := by rw [hrest]; exact hallowed
    have hlength : t.nq.queue.length ≤ s.nq.queue.length + (trippedBodies (.tripStarted x .remote q.boundary q.confirmTime first .verdict)
        (walkedBody p rec det kind .isolating) done).length := by
      rw [hrest]
      exact (queued_length ..).le
    rw [h.step_walks hd hat]
    have hcount := congrArg List.length hsplit
    rw [List.length_append, List.length_cons] at hcount
    cases done with
    | nil =>
      obtain rfl : first = d := (List.cons.inj (hns.symm.trans hsplit)).1
      have hq' : interrupterAt t x = some q := (interrupterAt_of_row ((hirows x).trans (if_neg fun hne => hne.2 rfl))).trans hq
      have htripped : tripped first t q = tripped first s q := by
        rw [hrest]
        rfl
      obtain ⟨tab, hreplaced, hwalk⟩ := confirmWalk_trips (k := passConfirmation p (kind first) first) hclean hat (h.suspect first hd)
        hallowed' hpath' hq' hkind harmed hstate (by simp only [trippedBodies, if_true, List.length_nil] at hlength hcount; omega)
      rw [hwalk]
      refine ⟨?_, walkedRows_step hrows (by simpa [walkedRecord, entryOn] using hreplaced), fun y => ?_⟩
      · rw [hrest]
        simp [trippedBodies, queued_nil, walkedBody]
      · rw [rowAt_setRow, htripped]
        by_cases hy : y = x
        · simp [hy, tripped]
        · simp [hy, hirows y]
    | cons m more =>
      obtain rfl : first = m := (List.cons.inj (hns.symm.trans hsplit)).1
      have hne : d ≠ first := fun he => not_mem_of_ascending h.ascending hsplit (by simp [he])
      have hq' : interrupterAt t x = some { tripped first s q with waiters := first :: more } :=
        interrupterAt_row.mpr ((hirows x).trans (if_pos ⟨rfl, by simp⟩))
      obtain ⟨tab, hreplaced, hwalk⟩ := confirmWalk_joins (k := passConfirmation p (kind d) d) hclean hat (h.suspect d hd)
        hallowed' hpath' hq' rfl (by
          have := trippedBodies_length (trip := .tripStarted x .remote q.boundary q.confirmTime first .verdict)
            (verdict := walkedBody p rec det kind .isolating) (done := first :: more)
          omega)
      rw [hwalk]
      refine ⟨?_, walkedRows_step hrows (by simpa [walkedRecord, entryOn, hne] using hreplaced), fun y => ?_⟩
      · rw [hrest]
        simp only [trippedBodies, List.cons_append, reduceCtorEq, if_false, queued_append, List.map_cons, List.map_append, List.map_nil]
        rfl
      · rw [rowAt_setRow]
        by_cases hy : y = x
        · simp [hy]
        · simp [hy, hirows y]

end
end Sys2Proof.Machine
end

section
namespace Sys2Proof.Machine

/-! ### Step 2 for one segment, step 4 for one interrupter (R72, R95, R128) -/

section
variable {s t u : State} {p : Pass} {n x : Nat} {r : SegRec} {d : SuspectDetails} {q : IntRec} {frame : FrameNo}

/-- The segment is SUSPECT on first open evidence, not confirmed, its timer not running (R72). -/
structure StartsDeadline (p : Pass) (n : Nat) (r : SegRec) (s : State) : Prop where
  clean : errorFree s
  record : segmentAt s n = some r
  state : r.state = .suspect
  confirmed : rowAt p.confirmed n = none
  first : (workOf p n).firstOpen = true
  deadline : r.deadline = none

/-- The deadline starts with what is left of the budget (R72). -/
theorem StartsDeadline.begins (h : StartsDeadline p n r s) (hleft : 0 < deadlineRemaining s p.frame r) :
    deadlineStart p n s = (writeSegment n { r with deadline := some (dueIn (deadlineRemaining s p.frame r).toNat s) } s, []) := by
  unfold deadlineStart
  rw [readSegment_noError (h.clean.1.2 n)]
  simp only [h.record, h.state, h.confirmed, h.first, h.deadline, Option.isNone_none, decide_true, Bool.and_self, if_true, hleft]

/-- With nothing left, under TRIP, it expires at once (R100). -/
theorem StartsDeadline.expires (h : StartsDeadline p n r s) (hleft : deadlineRemaining s p.frame r ≤ 0) (hpolicy : policyInForce s r = .trip) :
    deadlineStart p n s = (s, [n]) := by
  unfold deadlineStart
  rw [readSegment_noError (h.clean.1.2 n)]
  simp only [h.record, h.state, h.confirmed, h.first, h.deadline, Option.isNone_none, decide_true, Bool.and_self, if_true,
    not_lt.mpr hleft, if_false, hpolicy]

/-- With nothing left, under HOLD, it passes at once (R101). -/
theorem StartsDeadline.passes (h : StartsDeadline p n r s) (hleft : deadlineRemaining s p.frame r ≤ 0) (hpolicy : policyInForce s r = .hold) :
    deadlineStart p n s = (passDeadline n r s, []) := by
  unfold deadlineStart
  rw [readSegment_noError (h.clean.1.2 n)]
  simp only [h.record, h.state, h.confirmed, h.first, h.deadline, Option.isNone_none, decide_true, Bool.and_self, if_true,
    not_lt.mpr hleft, if_false, hpolicy]

theorem writeSegment_replaces {g : SegRec} (herr : g.err = 0) : replacesSegment s (writeSegment n g s).segments n g := by
  intro m
  simp only [writeSegment, rowAt_setRow, ← herr]

theorem passDeadline_eq (herr : r.err = 0) (hd : r.suspect = some d) (hroom : s.nq.queue.length < 32) :
    ∃ tab, replacesSegment s tab n { r with deadline := none, deadlinePassed := true } ∧
      passDeadline n r s = { s with
        segments := tab, nq := queued s.ft.frame [.deadlinePassed n r.openCount r.contactCount d.first] s.nq } := by
  refine ⟨_, writeSegment_replaces herr, ?_⟩
  unfold passDeadline
  rw [hd]
  exact raiseAt_queued _ _ hroom

/-- A pass in which one segment alone is SUSPECT, not confirmed: what step 2 makes of the state stands (R96). -/
theorem start_stands (hu : errorFree u) (hconfirmed : rowAt p.confirmed n = none) (hothers : ∀ m < 40, m ≠ n → isSuspect u m = false)
    (hproof : ∀ x r, x < 16 → interrupterAt u x = some r → ¬ (r.state = .tripping ∧ hasProof p r u = true)) :
    stopConfirmed p u = u ∧ forEach allSegments (stepThreeWalk p []) u = u ∧ forEach allInterrupters (proofStep p) u = u := by
  refine ⟨stopConfirmed_idle fun m hm => ?_, forEach_id fun m hm => stepThreeWalk_idle ?_, proofs_idle hu hproof⟩
  · by_cases hmn : m = n
    · exact .inl (hmn ▸ hconfirmed)
    · exact .inr (hothers m hm hmn)
  · by_cases hmn : m = n
    · exact .inr ⟨List.not_mem_nil, hmn ▸ hconfirmed⟩
    · exact .inl (hothers m (mem_allSegments.mp hm) hmn)

/-- The newest chain entry takes the outcome (R122). -/
theorem setNewest_append (o : ChainOutcome) (init : List ChainEntry) (e : ChainEntry) :
    setNewest o (init ++ [e]) = init ++ [{ e with outcome := o }] := by
  induction init with
  | nil => rfl
  | cons c init ih =>
    cases init with
    | nil => rfl
    | cons c' init => exact congrArg (c :: ·) ih

/-- A waiter's record when its interrupter is proved open (R128). -/
def openedFor (g : SegRec) : SegRec :=
  { g with state := .isolated, verdict := g.verdict.map fun v => { v with chain := setNewest .opened v.chain } }

def openWaiter (n : Nat) (t : State) : State := modifyChain n (setNewest .opened) (setSegState n .isolated t)

theorem openWaiter_rows (m : Nat) : rowAt (openWaiter n s).segments m =
    if m = n then (rowAt s.segments n).map (rewrittenSegment openedFor) else rowAt s.segments m := by
  rw [openWaiter, modifyChain, row_modifySegment, setSegState, row_modifySegment, row_modifySegment]
  by_cases hm : m = n
  · subst hm
    simp only [if_true]
    rcases rowAt s.segments m with _ | _ | _ <;> rfl
  · simp [hm]

theorem openWaiter_eq : openWaiter n s = { s with segments := (openWaiter n s).segments } := by
  have h1 : setSegState n .isolated s = { s with segments := (setSegState n .isolated s).segments } := modifySegment_eq n _ _
  have h2 : openWaiter n s = { setSegState n .isolated s with segments := (openWaiter n s).segments } := modifySegment_eq n _ _
  rw [h2, h1]

theorem openWaiters_rows {l : List Nat} (hnd : l.Nodup) : ∃ tab, forEach l openWaiter s = { s with segments := tab } ∧
    ∀ m, rowAt tab m = if m ∈ l then (rowAt s.segments m).map (rewrittenSegment openedFor) else rowAt s.segments m := by
  induction l generalizing s with
  | nil => exact ⟨s.segments, rfl, fun m => by simp⟩
  | cons n l ih =>
    obtain ⟨hn, hl⟩ := List.nodup_cons.mp hnd
    obtain ⟨tab, htab, hrows⟩ := ih hl (s := openWaiter n s)
    refine ⟨tab, by rw [forEach_cons, htab, openWaiter_eq], fun m => ?_⟩
    rw [hrows m, openWaiter_rows]
    by_cases hm : m = n
    · subst hm
      simp [hn]
    · simp [hm]

def openedInterrupter (q : IntRec) : IntRec := { q with state := .opened, confirm := none, waiters := [] }

/-- An interrupter proved open: it is OPEN, its waiters ISOLATED, INTERRUPTER_OPENED raised (R128, R129). -/
theorem openInterrupter_rows {source : OpenSource} (hq : interrupterAt s x = some q) (herr : q.err = 0) (hnd : q.waiters.Nodup)
    (hroom : s.nq.queue.length < 32) : ∃ tab itab, openInterrupter x source frame s = { s with
      segments := tab, interrupters := itab, nq := queued frame [.interrupterOpened x source q.waiters.length false] s.nq } ∧
      (∀ y, rowAt itab y = if y = x then some (.live (openedInterrupter q)) else rowAt s.interrupters y) ∧
      ∀ m, rowAt tab m = if m ∈ q.waiters then (rowAt s.segments m).map (rewrittenSegment openedFor) else rowAt s.segments m := by
  obtain ⟨tab, htab, hrows⟩ := openWaiters_rows hnd (s := writeInterrupter x (openedInterrupter q) s)
  refine ⟨tab, (writeInterrupter x (openedInterrupter q) s).interrupters, ?_, fun y => ?_, hrows⟩
  · unfold openInterrupter
    rw [hq]
    dsimp only
    change raiseAt frame _ (forEach q.waiters openWaiter (writeInterrupter x (openedInterrupter q) s)) = _
    rw [htab]
    exact raiseAt_queued _ _ hroom
  · have hz : (openedInterrupter q).err = 0 := herr
    rw [writeInterrupter, rowAt_setRow, ← hz]

end
end Sys2Proof.Machine
end

section
namespace Sys2Proof.Machine

/-! ### The completion without notices of the stages (R96) -/

section
variable {s t u : State} {p : Pass} {g : Frame} {rest : List Frame} {n x : Nat} {r : SegRec} {d : SuspectDetails} {q : IntRec}

/-- Nothing was queued for the completion, no correction is pending, no record holds an inverted bit. -/
structure Silent (p : Pass) (s : State) : Prop where
  clean : errorFree s
  sensor : p.sensorNotices = []
  segment : (allSegments.flatMap fun n => (rowAt p.segmentNotices n).getD []) = []
  seeded : p.seeded = []
  corrections : s.tm.pendingCorrections = 0

theorem silent_of_bodies (hclean : errorFree s) (h : completionBodies p s = []) : Silent p s := by
  simp only [completionBodies, List.append_eq_nil_iff, List.map_eq_nil_iff] at h
  obtain ⟨⟨⟨hsensor, hsegment⟩, hseeded⟩, hcorrections⟩ := h
  refine ⟨hclean, hsensor, hsegment, hseeded, ?_⟩
  by_contra hne
  simp [correctionBodies, hne] at hcorrections

/-- No TRIPPING interrupter has a measurement proof. -/
def proofless (p : Pass) (s : State) : Prop :=
  ∀ x r, x < 16 → interrupterAt s x = some r → ¬ (r.state = .tripping ∧ hasProof p r s = true)

theorem isSuspect_replaced {m : Nat} {tab : Table SegPlace} {nq : NoticeQueue} (h : replacesSegment s tab n r) (hm : m ≠ n) :
    isSuspect { s with segments := tab, nq := nq } m = isSuspect s m :=
  isSuspect_of_row (t := { s with segments := tab, nq := nq }) ((h m).trans (if_neg hm))

/-- One segment alone SUSPECT and not confirmed: the completion is its deadline start (R72, R101). -/
theorem completionSteps_starts {tab : Table SegPlace} {nq : NoticeQueue} (h : Silent p s) (hproof : proofless p s) (hn : n < 40)
    (hothers : ∀ m < 40, m ≠ n → isSuspect s m = false) (hconfirmed : rowAt p.confirmed n = none)
    (hstart : deadlineStart p n s = ({ s with segments := tab, nq := nq }, [])) (hreplaced : replacesSegment s tab n r) (herr : r.err = 0) :
    completionSteps p s = { s with segments := tab, nq := nq } := by
  have hclean : errorFree { s with segments := tab, nq := nq } := errorFree_replaced h.clean hreplaced herr
  have hothers' : ∀ m < 40, m ≠ n → isSuspect { s with segments := tab, nq := nq } m = false := fun m hm hmn =>
    (isSuspect_replaced hreplaced hmn).trans (hothers m hm hmn)
  have hidle {v : State} (hv : errorFree v) (hsus : ∀ m < 40, m ≠ n → isSuspect v m = false) (m : Nat) (hm : m ∈ allSegments) (hmn : m ≠ n) :
      deadlineStart p m v = (v, []) := deadlineStart_idle hv fun g hg hst _ => by
    have := hsus m (mem_allSegments.mp hm) hmn
    rw [isSuspect_iff.mpr ⟨g, hg, hst⟩] at this
    exact absurd this (by decide)
  obtain ⟨hstop, hwalk, hproofs⟩ := start_stands hclean hconfirmed hothers' hproof
  exact completionSteps_silent h.sensor h.segment h.seeded (deadlineStarts_single nodup_allSegments (mem_allSegments.mpr hn) hstart
    (hidle h.clean hothers) (hidle hclean hothers')) hstop hwalk hproofs h.corrections

/-- One segment alone SUSPECT, its budget spent under TRIP, no trip allowed: it is WITHHELD at once (R100, R125). -/
theorem completionSteps_expires (h : Silent p s) (hproof : proofless p s) (hn : n < 40) (hr : segmentAt s n = some r)
    (hstate : r.state = .suspect) (hd : r.suspect = some d) (hothers : ∀ m < 40, m ≠ n → isSuspect s m = false)
    (hconfirmed : rowAt p.confirmed n = none) (hstart : deadlineStart p n s = (s, [n])) (hallowed : tripsAllowed s = false)
    (hroom : s.nq.queue.length < 32) : ∃ tab, replacesSegment s tab n (decidedRecord (expiryConfirmation s) r d .withheld []) ∧
      completionSteps p s = { s with
        segments := tab, nq := queued s.ft.frame [verdictBody n (expiryConfirmation s) r d .withheld] s.nq } := by
  obtain ⟨tab, hreplaced, hwalk⟩ := confirmWalk_withheld (k := expiryConfirmation s) h.clean hr hd hallowed hroom
  have hclean : errorFree (confirmWalk n (expiryConfirmation s) s) := by
    rw [hwalk]
    exact errorFree_replaced h.clean hreplaced (h.clean.1.2 n r hr)
  have hidle (m : Nat) (hm : m ∈ allSegments) (hmn : m ≠ n) : deadlineStart p m s = (s, []) :=
    deadlineStart_idle h.clean fun g hg hst _ => by
      have := hothers m (mem_allSegments.mp hm) hmn
      rw [isSuspect_iff.mpr ⟨g, hg, hst⟩] at this
      exact absurd this (by decide)
  have hsus : isSuspect s n = true := isSuspect_iff.mpr ⟨r, hr, hstate⟩
  have hstep : stepThreeWalk p [n] n s = confirmWalk n (expiryConfirmation s) s := by simp [stepThreeWalk, hsus]
  have hstop : stopConfirmed p s = s := stopConfirmed_idle fun m hm => by
    by_cases hmn : m = n
    · exact .inl (hmn ▸ hconfirmed)
    · exact .inr (hothers m hm hmn)
  have hwalks : forEach allSegments (stepThreeWalk p [n]) s = confirmWalk n (expiryConfirmation s) s := by
    rw [← hstep]
    refine forEach_single nodup_allSegments (mem_allSegments.mpr hn) (fun m hm hmn => stepThreeWalk_idle (.inl (hothers m (mem_allSegments.mp hm) hmn)))
      fun m hm hmn => stepThreeWalk_idle (.inl ?_)
    rw [hstep, hwalk]
    exact (isSuspect_replaced hreplaced hmn).trans (hothers m (mem_allSegments.mp hm) hmn)
  have hproofs : forEach allInterrupters (proofStep p) (confirmWalk n (expiryConfirmation s) s) = confirmWalk n (expiryConfirmation s) s := by
    refine proofs_idle hclean ?_
    rw [hwalk]
    exact hproof
  refine ⟨tab, hreplaced, ?_⟩
  rw [← hwalk]
  refine completionSteps_silent h.sensor h.segment h.seeded (deadlineStarts_single nodup_allSegments (mem_allSegments.mpr hn) hstart hidle hidle)
    hstop hwalks hproofs ?_
  rw [hwalk]
  exact h.corrections

/-- One TRIPPING interrupter alone with a measurement proof, no segment SUSPECT: the completion is its opening (R95, R128). -/
theorem completionSteps_opens (h : Silent p s) (hsuspect : ∀ n r, n < 40 → segmentAt s n = some r → r.state ≠ .suspect) (hx : x < 16)
    (hq : interrupterAt s x = some q) (htrip : q.state = .tripping) (hproof : hasProof p q s = true)
    (hothers : ∀ y z, y < 16 → y ≠ x → interrupterAt s y = some z → ¬ (z.state = .tripping ∧ hasProof p z s = true))
    (hnd : q.waiters.Nodup) (hroom : s.nq.queue.length < 32) :
    ∃ tab itab, completionSteps p s = { s with
      segments := tab, interrupters := itab, nq := queued p.frame [.interrupterOpened x .measurement q.waiters.length false] s.nq } ∧
      (∀ y, rowAt itab y = if y = x then some (.live (openedInterrupter q)) else rowAt s.interrupters y) ∧
      ∀ m, rowAt tab m = if m ∈ q.waiters then (rowAt s.segments m).map (rewrittenSegment openedFor) else rowAt s.segments m := by
  obtain ⟨tab, itab, hopen, hirows, hrows⟩ := openInterrupter_rows (source := .measurement) (frame := p.frame) hq (h.clean.2 x q hq) hnd hroom
  refine ⟨tab, itab, ?_, hirows, hrows⟩
  have hstep : proofStep p x s = openInterrupter x .measurement p.frame s := by
    simp [proofStep, readInterrupter_noError (h.clean.2 x), hq, htrip, readSensor_noError (h.clean.1.1 q.boundary), hproof]
  have hclean : errorFree (proofStep p x s) := by
    rw [hstep, hopen]
    refine errorFree_of h.clean rfl (fun m g hg => ?_) fun y z hz => ?_
    · rw [segmentAt_row] at hg
      have hm := (hrows m).symm.trans hg
      split at hm
      · cases hrow : rowAt s.segments m with
        | none => simp [hrow] at hm
        | some place =>
          cases place with
          | quarantined => simp [hrow, rewrittenSegment] at hm
          | live g' =>
            simp only [hrow, Option.map_some, rewrittenSegment, Option.some.injEq, SegPlace.live.injEq] at hm
            exact .inr (hm ▸ rfl)
      · exact .inl (segmentAt_row.mpr hm)
    · rw [interrupterAt_row] at hz
      have hy := (hirows y).symm.trans hz
      split at hy
      · cases hy
        exact .inr (h.clean.2 x q hq)
      · exact .inl (interrupterAt_row.mpr hy)
  have hproofs : forEach allInterrupters (proofStep p) s = proofStep p x s := by
    refine forEach_single nodup_allInterrupters (mem_allInterrupters.mpr hx) (fun y hy hyx => ?_) fun y hy hyx => ?_
    · exact proofStep_idle h.clean fun z hz ht =>
        Bool.not_eq_true _ ▸ fun hp => hothers y z (mem_allInterrupters.mp hy) hyx hz ⟨ht, hp⟩
    · refine proofStep_idle hclean fun z hz ht => ?_
      rw [hstep, hopen] at hz ⊢
      rw [interrupterAt_row] at hz
      have hz' := (hirows y).symm.trans hz
      rw [if_neg hyx] at hz'
      exact Bool.not_eq_true _ ▸ fun hp => hothers y z (mem_allInterrupters.mp hy) hyx (interrupterAt_row.mpr hz') ⟨ht, hp⟩
  obtain ⟨h2, h3, h4⟩ := steps_idle (p := p) h.clean hsuspect
  rw [← hopen, ← hstep]
  refine completionSteps_silent h.sensor h.segment h.seeded h2 h3 h4 hproofs ?_
  rw [hstep, hopen]
  exact h.corrections

end
end Sys2Proof.Machine
end

section
namespace Sys2Proof.Machine

/-! ### The completion of a pass that confirms segments (R96, R125, R126) -/

section
variable {s : State} {p : Pass} {ns : List Nat} {rec : Nat → SegRec} {det : Nat → SuspectDetails} {kind : Nat → VerdictClass}
  {x b : Nat} {q : IntRec}

/-- The segments SUSPECT are exactly those that the pass has confirmed. -/
structure ConfirmedInPass (p : Pass) (ns : List Nat) (rec : Nat → SegRec) (det : Nat → SuspectDetails) (kind : Nat → VerdictClass)
    (s : State) : Prop where
  ascending : ns.Pairwise (· < ·)
  suspects : ∀ n, n ∈ ns ↔ n < 40 ∧ ∃ r, segmentAt s n = some r ∧ r.state = .suspect
  records : ∀ n ∈ ns, segmentAt s n = some (rec n) ∧ (rec n).suspect = some (det n) ∧ rowAt p.confirmed n = some (kind n)

theorem ConfirmedInPass.isSuspect_iff (h : ConfirmedInPass p ns rec det kind s) {n : Nat} (hn : n < 40) : n ∈ ns ↔ isSuspect s n = true := by
  rw [h.suspects n, Machine.isSuspect_iff]
  simp [hn]

/-- Step 2 finds nothing to start, and step 3 stops their timers first (R72, R96). -/
theorem ConfirmedInPass.stopped (h : ConfirmedInPass p ns rec det kind s) (hs : errorFree s) :
    deadlineStarts p allSegments s = (s, []) ∧ ∃ tab, stopConfirmed p s = { s with segments := tab } ∧
      (∀ m, m ∉ ns → rowAt tab m = rowAt s.segments m) ∧
      Confirmed p ns (fun n => timerStopped (rec n)) det kind { s with segments := tab } := by
  have hbound : ∀ n ∈ ns, n < 40 := fun n hn => ((h.suspects n).mp hn).1
  have hstate : ∀ n ∈ ns, (rec n).state = .suspect := by
    intro n hn
    obtain ⟨-, r, hr, hst⟩ := (h.suspects n).mp hn
    rw [(h.records n hn).1] at hr
    exact Option.some.inj hr ▸ hst
  refine ⟨deadlineStarts_idle fun n hn => deadlineStart_idle hs fun r hr hst hnone => ?_, ?_⟩
  · have hconfirmed := (h.records n ((h.suspects n).mpr ⟨mem_allSegments.mp hn, r, hr, hst⟩)).2.2
    rw [hnone] at hconfirmed
    cases hconfirmed
  obtain ⟨tab, hstop, hrows⟩ := stopConfirmed_rows (s := s) (p := p) hbound h.ascending fun n hn => by
    rw [h.isSuspect_iff hn, Bool.and_eq_true]
    exact ⟨fun hsus => ⟨by rw [(h.records n ((h.isSuspect_iff hn).mpr hsus)).2.2]; rfl, hsus⟩, fun hboth => hboth.2⟩
  have hrecord : ∀ n ∈ ns, segmentAt { s with segments := tab } n = some (timerStopped (rec n)) := by
    intro n hn
    have herr : (timerStopped (rec n)).err = 0 := show (rec n).err = 0 from hs.1.2 n _ (h.records n hn).1
    rw [segmentAt_row, hrows n, if_pos hn, segmentAt_row.mp (h.records n hn).1, Option.map_some, rewrittenSegment, ← herr]
  have hother : ∀ m, m ∉ ns → rowAt tab m = rowAt s.segments m := fun m hm => (hrows m).trans (if_neg hm)
  refine ⟨tab, hstop, hother, ?_, hbound, h.ascending, hrecord, hstate, fun n hn => (h.records n hn).2.1,
    fun n hn => (h.records n hn).2.2, fun n hn hnot => ?_⟩
  · refine errorFree_of hs rfl (fun m g hg => ?_) fun y z hz => .inl hz
    by_cases hm : m ∈ ns
    · rw [hrecord m hm] at hg
      cases hg
      exact .inr (show (rec m).err = 0 from hs.1.2 m _ (h.records m hm).1)
    · exact .inl (segmentAt_of_row (t := { s with segments := tab }) (hother m hm) ▸ hg)
  · rw [isSuspect_of_row (t := { s with segments := tab }) (hother n hnot), ← Bool.not_eq_true, ← h.isSuspect_iff hn]
    exact hnot

/-- The confirmed segment's record and notice as O53 writes them. -/
theorem walkedRecord_stopped (n : Nat) (st : SegState) (chain : List ChainEntry) :
    walkedRecord p (fun n => timerStopped (rec n)) det kind st chain n = { rec n with
      state := st, suspect := none, deadline := none
      verdict := some ⟨kind n, if kind n = .downedConductor then (rec n).phases else (det n).openPhases, (det n).first, p.frame,
        ⟨false, (det n).coarse, (det n).backfed, (det n).loadLoss⟩, chain⟩ } := by
  simp [walkedRecord, decidedRecord, passConfirmation, verdictOf, timerStopped]

theorem walkedBody_stopped (n : Nat) (st : SegState) :
    walkedBody p (fun n => timerStopped (rec n)) det kind st n = .verdict n st (kind n)
      (if kind n = .downedConductor then (rec n).phases else (det n).openPhases) (det n).first p.frame
      ⟨false, (det n).coarse, (det n).backfed, (det n).loadLoss⟩ (rec n).openCount (rec n).contactCount
      ((workOf p n).arc.map (min · 65535)) := by
  simp [walkedBody, verdictBody, passConfirmation, verdictOf, timerStopped]

/-- With no trip allowed the segments confirmed in the pass are WITHHELD (R125). -/
theorem completionSteps_withholds (h : Silent p s) (hproof : proofless p s) (hc : ConfirmedInPass p ns rec det kind s)
    (hallowed : tripsAllowed s = false) (hroom : s.nq.queue.length + ns.length ≤ 32) :
    ∃ tab, completionSteps p s = { s with
      segments := tab, nq := queued s.ft.frame (ns.map (walkedBody p (fun n => timerStopped (rec n)) det kind .withheld)) s.nq } ∧
      ∀ m, rowAt tab m = if m ∈ ns then some (.live (walkedRecord p (fun n => timerStopped (rec n)) det kind .withheld [] m))
        else rowAt s.segments m := by
  obtain ⟨hstart, tab0, hstop, hrows0, hconfirmed⟩ := hc.stopped h.clean
  obtain ⟨tab, hwalks, hrows⟩ := hconfirmed.walks_withheld hallowed hroom
  have hclean : errorFree (forEach allSegments (stepThreeWalk p []) { s with segments := tab0 }) := by
    rw [hwalks]
    exact errorFree_of hconfirmed.clean rfl (hconfirmed.segment_err (done := ns) (fun _ hm => hm) (chain := fun _ => []) hrows)
      fun y z hz => .inl hz
  refine ⟨tab, ?_, fun m => (hrows m).trans ?_⟩
  · refine (completionSteps_silent h.sensor h.segment h.seeded hstart hstop rfl (proofs_idle hclean ?_) ?_).trans hwalks
    · rw [hwalks]
      exact hproof
    · rw [hwalks]
      exact h.corrections
  · split
    · rfl
    · exact hrows0 m ‹_›

/-- A frame no later than the pulse proves nothing (R95). -/
theorem hasProof_recent {c : FrameNo} (hpulse : q.pulseFrame = some c) (hframe : frameDiff p.frame c ≤ 0) : ¬ hasProof p q s = true := by
  unfold hasProof
  rw [hpulse]
  split
  · rename_i heq _ _ _
    cases heq
    simp [show ¬ (1 ≤ frameDiff p.frame c) by omega]
  · exact Bool.false_ne_true

/-- With one armed REMOTE interrupter the first on every path, the first trips it and the others join it (R125, R126). -/
theorem completionSteps_trips (h : Silent p s) (hproof : proofless p s) (hc : ConfirmedInPass p ns rec det kind s)
    {first : Nat} {others : List Nat} (hns : ns = first :: others) (hallowed : tripsAllowed s = true)
    (hpath : ∀ n ∈ ns, firstOnPath s n x b) (hq : interrupterAt s x = some q) (hkind : q.kind = .remote) (harmed : q.armed = true)
    (hstate : q.state = .unknown ∨ q.state = .closed) (hframe : frameDiff p.frame s.ft.frame ≤ 0)
    (hroom : s.nq.queue.length + 1 + ns.length ≤ 32) :
    ∃ tab itab, completionSteps p s = { s with
      segments := tab, interrupters := itab
      nq := queued s.ft.frame (.tripStarted x .remote q.boundary q.confirmTime first .verdict
        :: ns.map (walkedBody p (fun n => timerStopped (rec n)) det kind .isolating)) s.nq } ∧
      (∀ m, rowAt tab m = if m ∈ ns then
          some (.live (walkedRecord p (fun n => timerStopped (rec n)) det kind .isolating (entryOn x first m) m))
        else rowAt s.segments m) ∧
      ∀ y, rowAt itab y = if y = x then some (.live { tripped first s q with waiters := ns }) else rowAt s.interrupters y := by
  obtain ⟨hstart, tab0, hstop, hrows0, hconfirmed⟩ := hc.stopped h.clean
  have htree (m : Nat) : (segmentAt { s with segments := tab0 } m).map (fun g => (g.up, g.down)) =
      (segmentAt s m).map fun g => (g.up, g.down) := by
    by_cases hm : m ∈ ns
    · rw [hconfirmed.record m hm, (hc.records m hm).1]
      rfl
    · rw [segmentAt_of_row (t := { s with segments := tab0 }) (hrows0 m hm)]
  obtain ⟨tab, itab, hwalks, hrows, hirows⟩ := hconfirmed.walks_trip hns hallowed
    (fun n hn => firstOnPath_congr (t := { s with segments := tab0 }) htree (fun _ => rfl) (hpath n hn)) hq hkind harmed hstate hroom
  have hclean : errorFree (forEach allSegments (stepThreeWalk p []) { s with segments := tab0 }) := by
    rw [hwalks]
    refine errorFree_of hconfirmed.clean rfl (hconfirmed.segment_err (done := ns) (fun _ hm => hm) hrows) fun y z hz => ?_
    rw [interrupterAt_row] at hz
    have hy := (hirows y).symm.trans hz
    split at hy
    · cases hy
      exact .inr (h.clean.2 x q hq)
    · exact .inl (interrupterAt_row.mpr hy)
  refine ⟨tab, itab, ?_, fun m => (hrows m).trans ?_, hirows⟩
  · refine (completionSteps_silent h.sensor h.segment h.seeded hstart hstop rfl (proofs_idle hclean ?_) ?_).trans hwalks
    · rw [hwalks]
      intro y z hy hz hboth
      rw [interrupterAt_row] at hz
      have hz' := (hirows y).symm.trans hz
      split at hz'
      · cases hz'
        exact absurd hboth.2 (hasProof_recent rfl hframe)
      · exact hproof y z hy (interrupterAt_row.mpr hz') hboth
    · rw [hwalks]
      exact h.corrections
  · split
    · rfl
    · exact hrows0 m ‹_›

end
end Sys2Proof.Machine
end

section
namespace Sys2Proof.Machine

/-! ### PASS_COMPLETION (R50, R96) -/

section
variable {s u : State} {p : Pass} {n x : Nat}

/-- An urgency source stands before the completion where one may stand after it (R148). -/
theorem urgent_before (hmode : u.mc.mode = s.mc.mode) (hsource : s.mc.mode ≠ .start → urgencySource s = true)
    (hu : urgencySource u = true) : urgencySource s = true := by
  refine hsource fun hstart => ?_
  rw [urgencySource_start (hmode.trans hstart)] at hu
  cases hu

theorem urgencySource_suspect (hn : n < 40) (hsus : isSuspect s n = true) (hmode : s.mc.mode ≠ .start) : urgencySource s = true := by
  obtain ⟨r, hr, hst⟩ := isSuspect_iff.mp hsus
  have hurgent : segmentUrgent s n = true := by simp [segmentUrgent, hr, hst]
  have hany : allSegments.any (segmentUrgent s) = true := List.any_eq_true.mpr ⟨n, mem_allSegments.mpr hn, hurgent⟩
  simp [urgencySource, hmode, hany]

theorem urgencySource_tripping {q : IntRec} (hx : x < 16) (hq : interrupterAt s x = some q) (htrip : q.state = .tripping)
    (hmode : s.mc.mode ≠ .start) : urgencySource s = true := by
  have htripping : isTripping s x = true := by simp [isTripping, hq, htrip]
  have hany : allInterrupters.any (isTripping s) = true := List.any_eq_true.mpr ⟨x, mem_allInterrupters.mpr hx, htripping⟩
  simp [urgencySource, hmode, hany]

theorem tripsAllowed_iff : tripsAllowed s = true ↔ s.mc.mode = .run ∧ effectiveInhibit s = false := by
  simp [tripsAllowed]

theorem policyInForce_hold {r : SegRec} (hprofile : s.mc.profile = .normal) (hpolicy : r.policy = .hold) : policyInForce s r = .hold := by
  simp [policyInForce, hprofile, hpolicy]

theorem policyInForce_trip {r : SegRec} (h : s.mc.profile = .elevated ∨ r.policy = .trip) : policyInForce s r = .trip := by
  unfold policyInForce
  cases hprofile : s.mc.profile with
  | elevated => rfl
  | normal => exact h.resolve_left (by simp [hprofile])

end

/-- Settles O53: in each case the five steps are known (`completionSteps_…`), and `exec_passCompletion` ends the completion. -/
theorem passCompletionTakesItsSteps : Obligations.PassCompletionTakesItsSteps := by
  intro k p g rest s hheld hclean hpass hstage hring hg moves bodies numbered tail raising proof noProof noSuspect allowed marksOf
  have hfree := errorFree_of_clean hclean
  have hevaluated : evaluated s = some g := by simp [evaluated, hring, hg]
  have hproofless (h : noProof) : proofless p s := fun x r hx hr hp => h x r hx hr ⟨hp.1, (hasProof_iff hevaluated).mp hp.2⟩
  have hsilent (h : bodies = []) : Silent p s := silent_of_bodies hfree h
  have hforbidden (h : ¬ allowed) : tripsAllowed s = false := by rw [← Bool.not_eq_true, tripsAllowed_iff]; exact h
  have hend {u : State} (hsteps : completionSteps p s = u) (hu : u = { s with
      segments := u.segments, interrupters := u.interrupters, nq := { u.nq with tail := s.nq.tail } })
      (hsource : s.mc.mode ≠ .start → urgencySource s = true) :
      ∃ t, exec (.passCompletion k) s = .next t ∧ moves t ∧ t = { u with ring := t.ring, pass := t.pass, nq := { u.nq with tail := tail t } } :=
    exec_passCompletion (tail := tail) k hheld hpass hstage hring hg hsteps (by rw [hu]) (by rw [hu])
      (urgent_before (by rw [hu]) hsource) fun t _ => by rw [hu]
  refine ⟨?_, ?_, ?_, ?_⟩
  · intro hsuspect hproof hroom
    have hsteps := completionSteps_quiet (p := p) hfree hsuspect (hproofless hproof) hroom
    exact exec_passCompletion (tail := fun _ => s.nq.tail) k hheld hpass hstage hring hg hsteps rfl rfl id fun t ht => by
      have hsame : urgencySource t = urgencySource s := ht
      rw [hsame]
      exact (if_neg (by simp)).symm
  · intro hbodies hproof n r d hn hr hstate hd hdeadline hconfirmed hfirst hothers left rows
    have hothers' : ∀ m < 40, m ≠ n → isSuspect s m = false := fun m hm hmn => by
      rw [← Bool.not_eq_true, isSuspect_iff]
      rintro ⟨q, hq, hst⟩
      exact hothers m q hm hmn hq hst
    have herr := hfree.1.2 n r hr
    have hstarts : StartsDeadline p n r s := ⟨hfree, hr, hstate, hconfirmed, hfirst, hdeadline⟩
    have hsource := urgencySource_suspect (s := s) hn (isSuspect_iff.mpr ⟨r, hr, hstate⟩)
    refine ⟨fun hleft => ?_, fun hleft hroom => ⟨fun hprofile hpolicy => ?_, fun hpolicy hallowed => ?_⟩⟩
    · have hstart := hstarts.begins hleft
      have hrows := writeSegment_replaces (s := s) (n := n)
        (g := { r with deadline := some (dueIn (deadlineRemaining s p.frame r).toNat s) }) herr
      have hsteps := completionSteps_starts (hsilent hbodies) (hproofless hproof) hn hothers' hconfirmed hstart hrows herr
      obtain ⟨t, hexec, hmoves, ht⟩ := hend hsteps rfl hsource
      have hrowt : rows t { r with deadline := some (dueIn (deadlineRemaining s p.frame r).toNat s) } := fun m => by
        rw [← hrows m, ht]
        rfl
      have hmode : t.mc.mode = s.mc.mode := by rw [ht]
      have hurgent : urgencySource s = true → urgencySource t = true := fun hs =>
        urgencySource_suspect hn (isSuspect_iff.mpr ⟨_, segmentAt_replaced hrowt, hstate⟩) fun hstart => by
          rw [urgencySource_start (hmode.symm.trans hstart)] at hs
          cases hs
      have htail : tail t = s.nq.tail := if_neg fun h => by
        obtain ⟨hs, ht⟩ := Bool.and_eq_true_iff.mp h
        rw [hurgent hs] at ht
        cases ht
      rw [htail] at ht
      refine ⟨t, hexec, hmoves, ?_, hrowt⟩
      rw [show t.segments = _ from congrArg State.segments ht]
      exact ht
    · obtain ⟨tab, hrows, hpassed⟩ := passDeadline_eq (s := s) (n := n) herr hd hroom
      have hstart := hstarts.passes hleft (policyInForce_hold hprofile hpolicy)
      rw [hpassed] at hstart
      have hsteps := completionSteps_starts (hsilent hbodies) (hproofless hproof) hn hothers' hconfirmed hstart hrows herr
      obtain ⟨t, hexec, hmoves, ht⟩ := hend hsteps rfl hsource
      have htab : t.segments = tab := by rw [ht]
      refine ⟨t, hexec, hmoves, fun m => ?_, ?_⟩
      · rw [htab, hrows m, hdeadline]
      · rw [htab]
        exact ht
    · obtain ⟨tab, hrows, hsteps⟩ := completionSteps_expires (hsilent hbodies) (hproofless hproof) hn hr hstate hd hothers' hconfirmed
        (hstarts.expires hleft (policyInForce_trip hpolicy)) (hforbidden hallowed) hroom
      obtain ⟨t, hexec, hmoves, ht⟩ := hend hsteps rfl hsource
      have htab : t.segments = tab := by rw [ht]
      refine ⟨t, hexec, hmoves, fun m => ?_, ?_⟩
      · rw [htab, hrows m]
        rfl
      · rw [htab]
        exact ht
  · intro hbodies hproof ns rec det kind hne hlt hns hrec named decided verdict
    have hpassed : ConfirmedInPass p ns rec det kind s := ⟨hlt, hns, hrec⟩
    have hsource : s.mc.mode ≠ .start → urgencySource s = true := by
      obtain ⟨n, hn⟩ := List.exists_mem_of_ne_nil ns hne
      have hn40 := ((hns n).mp hn).1
      exact urgencySource_suspect hn40 ((hpassed.isSuspect_iff hn40).mp hn)
    have hbody (st : SegState) : walkedBody p (fun n => timerStopped (rec n)) det kind st = verdict st :=
      funext fun n => walkedBody_stopped n st
    refine ⟨fun hallowed hroom => ?_, fun x q first others hallowed hcons hx hq hkind harmed hqstate hframe honly hpath hroom => ?_⟩
    · obtain ⟨tab, hsteps, hrows⟩ := completionSteps_withholds (hsilent hbodies) (hproofless hproof) hpassed (hforbidden hallowed) hroom
      rw [hbody] at hsteps
      obtain ⟨t, hexec, hmoves, ht⟩ := hend hsteps rfl hsource
      have htab : t.segments = tab := by rw [ht]
      refine ⟨t, hexec, hmoves, fun m => ?_, ?_⟩
      · rw [htab, hrows m, walkedRecord_stopped]
      · rw [htab]
        exact ht
    · have hon : interrupterOn s q.boundary = some x := interrupterOn_some hx ⟨q, hq, rfl⟩ fun y hy hz => by
        obtain ⟨z, hz, hb⟩ := hz
        exact hy.ne (honly y z (hy.trans hx) hz hb)
      have hpath' : ∀ n ∈ ns, firstOnPath s n x q.boundary := fun n hn => by
        obtain ⟨below, above, hcandidates, hbelow⟩ := hpath n hn
        exact ⟨hon, below, above, hcandidates, fun b hb => interrupterOn_none.mpr fun y hy ⟨z, hz, he⟩ => hbelow b hb y z hy hz he⟩
      obtain ⟨tab, itab, hsteps, hrows, hirows⟩ := completionSteps_trips (hsilent hbodies) (hproofless hproof) hpassed hcons
        (tripsAllowed_iff.mpr hallowed) hpath' hq hkind harmed hqstate hframe hroom
      rw [hbody] at hsteps
      obtain ⟨t, hexec, hmoves, ht⟩ := hend hsteps rfl hsource
      have htab : t.segments = tab := by rw [ht]
      have hitab : t.interrupters = itab := by rw [ht]
      refine ⟨t, hexec, hmoves, fun m => ?_, fun y => ?_, ?_⟩
      · rw [htab, hrows m, walkedRecord_stopped, hcons]
        by_cases hm : m = first
        · simp [hm, entryOn, decided, named, marksOf]
        · simp [hm, entryOn, decided, named, marksOf]
      · rw [hitab, hirows y, tripped, harmed]
        rfl
      · rw [htab, hitab]
        exact ht
  · intro hbodies hsuspect x r hx hr hp hothers hnd hbound hroom
    have hproof := (hasProof_iff hevaluated).mpr hp.2
    have hothers' : ∀ y z, y < 16 → y ≠ x → interrupterAt s y = some z → ¬ (z.state = .tripping ∧ hasProof p z s = true) :=
      fun y z hy hyx hz h => hothers y z hy hyx hz ⟨h.1, (hasProof_iff hevaluated).mp h.2⟩
    obtain ⟨tab, itab, hsteps, hirows, hrows⟩ := completionSteps_opens (hsilent hbodies) hsuspect hx hr hp.1 hproof hothers' hnd hroom
    obtain ⟨t, hexec, hmoves, ht⟩ := hend hsteps rfl (urgencySource_tripping hx hr hp.1)
    have htab : t.segments = tab := by rw [ht]
    have hitab : t.interrupters = itab := by rw [ht]
    refine ⟨t, hexec, hmoves, ?_, fun y => ?_, fun n q hn hq => ?_, fun n hn => ?_⟩
    · rw [htab, hitab]
      exact ht
    · rw [hitab, hirows y]
      rfl
    · refine ⟨(openedFor q).verdict, ?_, fun hnone => ?_, fun w init e hw hchain => ?_⟩
      · have herr : (openedFor q).err = 0 := hfree.1.2 n q hq
        rw [htab, hrows n, if_pos hn, segmentAt_row.mp hq, Option.map_some, rewrittenSegment, ← herr]
        rfl
      · simp [openedFor, hnone]
      · simp [openedFor, hw, hchain, setNewest_append]
    · rw [htab, hrows n]
      rcases hn with hn | hn
      · exact if_neg hn
      · rw [rewrittenSegment_notLive (s := s) _ hn]
        exact ite_self _
end Sys2Proof.Machine
end

section
namespace Sys2Proof.Machine

/-! ### RELEASE_SEGMENT (R66, R103) -/

section
variable {s : State} {n : Nat} {r : SegRec}

theorem act_releaseSegment (b : Byte) (s : State) : act (.releaseSegment b) s = takeReleaseSegment b.toNat s := rfl

/-- Sensors unseeded one by one, a sensor named twice being unseeded as one named once (R66). -/
theorem forEach_unseedSensor (ds : List Nat) (h : ∀ d q, sensorAt s d = some q → q.err = 0) :
    ∃ tab, forEach ds unseedSensor s = { s with sensors := tab } ∧
      ∀ d, rowAt tab d = if d ∈ ds then (rowAt s.sensors d).map (rewrittenSensor unseed) else rowAt s.sensors d := by
  induction ds generalizing s with
  | nil => exact ⟨s.sensors, rfl, by simp⟩
  | cons d ds ih =>
    have hone : unseedSensor d s = modifySensor d unseed s := by rw [unseedSensor, readSensor_noError (h d)]
    obtain ⟨tab, htab, hrows⟩ := ih (s := modifySensor d unseed s) fun m q hq => by
      rw [sensorAt_modifySensor] at hq
      split at hq
      · obtain ⟨u, -, rfl⟩ := Option.map_eq_some_iff.mp hq
        rfl
      · exact h m q hq
    refine ⟨tab, by rw [forEach_cons, hone, htab, modifySensor_eq], fun m => ?_⟩
    rw [hrows, row_modifySensor]
    by_cases hm : m = d
    · subst hm
      have htwice : rewrittenSensor unseed ∘ rewrittenSensor unseed = rewrittenSensor unseed := by
        funext p
        cases p <;> rfl
      simp [htwice]
    · simp [hm]

theorem takeReleaseSegment_notFound (h : rowAt s.segments n = none) : takeReleaseSegment n s = (s, refuse .notFound) := by
  simp [takeReleaseSegment, h]

theorem takeReleaseSegment_quarantined (hc : clean s = true) (h : rowAt s.segments n = some .quarantined) :
    takeReleaseSegment n s = (s, refuse .stateConflict) := by
  simp [takeReleaseSegment, h, readSegment_clean hc, segmentAt_quarantined h]

theorem takeReleaseSegment_conflict (hc : clean s = true) (h : segmentAt s n = some r) (hst : mayRelease r.state = false) :
    takeReleaseSegment n s = (s, refuse .stateConflict) := by
  simp [takeReleaseSegment, segmentAt_row.mp h, readSegment_clean hc, h, hst]

theorem takeReleaseSegment_done (hc : clean s = true) (h : segmentAt s n = some r) (hst : mayRelease r.state = true) :
    takeReleaseSegment n s = (forEach (boundarySensors r) unseedSensor (writeSegment n (released r) s), okWith []) := by
  simp [takeReleaseSegment, segmentAt_row.mp h, readSegment_clean hc, h, hst]

theorem mayRelease_false {st : SegState} (h : st ∈ [.normal, .suspect, .deenergized, .settling, .isolating]) : mayRelease st = false := by
  revert h
  cases st <;> decide

theorem mayRelease_true {st : SegState} (h : st ∈ [.isolated, .withheld, .isolationFailed]) : mayRelease st = true := by
  revert h
  cases st <;> decide

/-- A segment that may be released is not urgent, nor is a released one (R148). -/
theorem segmentUrgent_releasable (h : segmentAt s n = some r) (hst : mayRelease r.state = true) : segmentUrgent s n = false := by
  simp only [segmentUrgent, h]
  revert hst
  cases r.state <;> decide

/-- The record written and the boundary sensors unseeded (R66, R103). -/
theorem exec_releaseSegment {b : Byte} (hready : ready s = true) (hpass : s.pass = none) (hs : inService s = true)
    (hc : clean s = true) (hf : fieldFault (.releaseSegment b) = none) (hr : segmentAt s b.toNat = some r)
    (hst : mayRelease r.state = true) : ∃ tab, exec (.releaseSegment b) s = .next (answered 16 (okWith [])
      { s with segments := setRow s.segments b.toNat (.live (released r)), sensors := tab }) ∧
      ∀ d, rowAt tab d = if d ∈ r.up :: r.down then (rowAt s.sensors d).map (rewrittenSensor unseed) else rowAt s.sensors d := by
  have herr : { released r with err := 0 } = released r := by rw [released, ← clean_segment hc hr]
  obtain ⟨tab, htab, hrows⟩ := forEach_unseedSensor (s := writeSegment b.toNat (released r) (acting (.releaseSegment b) s))
    (boundarySensors r) fun d q hq => clean_sensor hc hq
  refine ⟨tab, exec_taken (r := .releaseSegment b) rfl hready (not_delayed hpass) hs rfl hf ?_ (follow_okWith _) rfl ?_, hrows⟩
  · rw [act_releaseSegment, takeReleaseSegment_done (clean_acting hc _) hr hst, htab, writeSegment, herr]
    rfl
  · refine urgencySource_segment (n := b.toNat) rfl rfl (fun m hm => rowAt_setRow_ne _ _ hm) ?_ (segmentUrgent_releasable hr hst)
    simp [segmentUrgent, segmentAt, released]

end

/-- Settles O34: the place and the state of the clean record decide, and a released record leaves the urgency source alone. -/
theorem releaseSegmentEndsVerdict : Obligations.ReleaseSegmentEndsVerdict := by
  intro b s hready hpass hs hc hb
  have hf : fieldFault (.releaseSegment b) = none := firstBad_within ⟨Nat.zero_le _, by omega⟩ []
  have hrefuse {a : Answer} (ha : a.follow ≠ .restart) (ht : takeReleaseSegment b.toNat (acting (.releaseSegment b) s) =
      (acting (.releaseSegment b) s, a)) : exec (.releaseSegment b) s = .next (answered 16 a s) :=
    exec_unchanged (r := .releaseSegment b) rfl hready (not_delayed hpass) hs rfl hf ht ha
  have hca := clean_acting hc (.releaseSegment b)
  refine ⟨fun h => hrefuse (follow_refuse _) (takeReleaseSegment_notFound h),
    fun h => hrefuse (follow_refuse _) (takeReleaseSegment_quarantined hca h), fun r h => ?_⟩
  have hr : segmentAt s b.toNat = some r := segmentAt_row.mpr h
  refine ⟨fun hst => hrefuse (follow_refuse _) (takeReleaseSegment_conflict hca hr (mayRelease_false hst)), fun hst => ?_⟩
  obtain ⟨tab, hexec, hrows⟩ := exec_releaseSegment hready hpass hs hc hf hr (mayRelease_true hst)
  refine ⟨_, tab, hexec, fun k => rowAt_setRow .., fun d q hd hq => ?_, fun d hd => ?_⟩
  · have herr : q.err = 0 := clean_sensor hc hq
    rw [hrows, if_pos hd, sensorAt_row.mp hq, Option.map_some, rewrittenSensor, unseed, ← herr]
  · rw [hrows]
    rcases hd with hd | hd
    · exact if_neg hd
    · rw [rewrittenSensor_notLive _ hd]
      exact ite_self _

end Sys2Proof.Machine
end

section
namespace Sys2Proof.Machine

/-! ### A stage of the pass (R75) -/

/-- A stage whose work leaves the urgency source alone: the work is done, and the pass goes on. -/
theorem exec_stage {c : Instr} {g next : Stage} {work : State → State} {p : Pass} {s : State}
    (hc : ∀ u, exec c u = event (settled (runStage g next work)) u) (hheld : noneHeld s = true) (hpass : s.pass = some p)
    (hstage : p.stage = g) (hhl : (work s).hl = s.hl) (hurgent : urgencySource (work s) = urgencySource s) :
    exec c s = .next (goTo next (work s)) := by
  have hat : atStage g s = true := by simp [atStage, hpass, hstage]
  have hgo : urgencySource (goTo next (work s)) = urgencySource s := hurgent
  refine exec_event hc ?_ ?_
  · rw [settled, runStage, if_pos hat, ← hgo, settleUrgency_same rfl]
  · rw [goTo, modifyPass_hl, hhl]
    exact noneHeld_iff.mp hheld

/-! ### Stage 4 (R63 to R65) -/

section
variable {s t : State} {d : Nat} {r : SensorRec} {v : ReportValues} {l : List Nat}

/-- The sensor is ACTIVE and every segment that names it is NORMAL (R63). -/
def isQuiet (s : State) (d : Nat) (r : SensorRec) : Bool := decide (r.status = .active) && segmentsNormal s d

/-- The sensor's record and its valid report, where it learns (R63). -/
def learner (s : State) (d : Nat) : Option (SensorRec × ReportValues) :=
  match sensorAt s d, validReport s d with
  | some r, some v => if isQuiet s d r then some (r, v) else none
  | _, _ => none

/-- What slot d adds to the list of newly seeded sensors (R65). -/
def seedings (s : State) (d : Nat) : List (Nat × Nat) :=
  match learner s d with
  | some (r, v) => if !isSeeded s r && isSeeded s (learn s v r) then [(d, (learn s v r).residualBase)] else []
  | none => []

theorem segmentsNormal_iff : segmentsNormal s d = true ↔
    ∀ n g, n < 40 → segmentAt s n = some g → d ∈ g.up :: g.down → g.state = .normal := by
  simp only [segmentsNormal, segmentsNaming, List.all_eq_true, List.mem_filter, mem_allSegments, inTreeWith_iff, names_iff, beq_iff_eq,
    stateOfSegment]
  constructor
  · intro h n g hn hg hd
    simpa [hg] using h n ⟨hn, g, hg, hd⟩
  · rintro h n ⟨hn, g, hg, hd⟩
    simp [hg, h n g hn hg hd]

theorem learner_iff : learner s d = some (r, v) ↔ sensorAt s d = some r ∧ validReport s d = some v ∧ isQuiet s d r = true := by
  unfold learner
  cases sensorAt s d with
  | none => simp
  | some q => cases validReport s d with
    | none => simp
    | some w =>
      simp only [Option.some.injEq]
      grind

theorem learn_err : (learn s v r).err = r.err := rfl

/-- The learn count is 2^BASE_SHIFT after a report just where it stood one below, or above (R65). -/
theorem isSeeded_learn : (!isSeeded s r && isSeeded s (learn s v r)) = true ↔ r.learn ≠ seedCount s ∧ seedCount s ≤ r.learn + 1 := by
  simp only [isSeeded, learn, Bool.and_eq_true, Bool.not_eq_true', beq_eq_false_iff_ne, beq_iff_eq]
  refine and_congr_right fun hne => ?_
  split <;> omega

theorem seedings_some (h : learner s d = some (r, v)) : seedings s d =
    if !isSeeded s r && isSeeded s (learn s v r) then [(d, (learn s v r).residualBase)] else [] := by
  rw [seedings, h]

theorem seedings_none (h : learner s d = none) : seedings s d = [] := by
  rw [seedings, h]

theorem mem_seedings {e b : Nat} : (e, b) ∈ seedings s d ↔ e = d ∧ ∃ r v, learner s d = some (r, v) ∧
    r.learn ≠ seedCount s ∧ seedCount s ≤ r.learn + 1 ∧ b = (learn s v r).residualBase := by
  cases hl : learner s d with
  | none => simp [seedings_none hl]
  | some x =>
    obtain ⟨r, v⟩ := x
    rw [seedings_some hl]
    have hseeded := isSeeded_learn (s := s) (r := r) (v := v)
    constructor
    · intro h
      split at h
      · rename_i hs
        obtain ⟨rfl, rfl⟩ := Prod.mk.inj (List.mem_singleton.mp h)
        obtain ⟨hne, hle⟩ := hseeded.mp hs
        exact ⟨rfl, r, v, rfl, hne, hle, rfl⟩
      · cases h
    · rintro ⟨rfl, _, _, ⟨⟩, hne, hle, rfl⟩
      rw [if_pos (hseeded.mpr ⟨hne, hle⟩)]
      exact List.mem_singleton_self _

/-- Each slot stands in the list at most once. -/
theorem seedings_slots (s : State) (d : Nat) : ((seedings s d).map (·.1)).Sublist [d] := by
  cases hl : learner s d with
  | none => simp [seedings_none hl]
  | some x =>
    obtain ⟨r, v⟩ := x
    rw [seedings_some hl]
    split <;> simp

theorem seedings_sublist (s : State) (l : List Nat) : ((l.flatMap (seedings s)).map (·.1)).Sublist l := by
  induction l with
  | nil => simp
  | cons d l ih =>
    rw [List.flatMap_cons, List.map_append]
    exact (seedings_slots s d).append ih

/-- A pass with slots added to its list of newly seeded sensors. -/
def withSeeded (more : List (Nat × Nat)) (p : Pass) : Pass := { p with seeded := p.seeded ++ more }

theorem withSeeded_nil : withSeeded [] = id := by
  funext p
  simp [withSeeded]

theorem stage4Sensor_none (hclean : readsClean s) (h : learner s d = none) : stage4Sensor d s = s := by
  unfold stage4Sensor
  rw [readSensor_noError (hclean.1 d), readSegments_readsClean hclean]
  unfold learner at h
  dsimp only
  split
  · rename_i r v hr hv
    rw [hr, hv] at h
    refine if_neg fun hq => ?_
    dsimp only at h
    rw [isQuiet, if_pos hq] at h
    cases h
  · rfl

/-- A sensor that learns is rewritten, and joins the list where it becomes seeded (R64, R65). -/
theorem stage4Sensor_some (hclean : readsClean s) (h : learner s d = some (r, v)) : stage4Sensor d s =
    modifyPass (withSeeded (seedings s d)) (writeSensor d (learn s v r) s) := by
  rw [seedings_some h]
  obtain ⟨hr, hv, hq⟩ := learner_iff.mp h
  unfold stage4Sensor
  rw [readSensor_noError (hclean.1 d), readSegments_readsClean hclean]
  dsimp only
  rw [hr, hv]
  dsimp only
  rw [isQuiet] at hq
  rw [if_pos hq]
  split
  · rfl
  · rw [withSeeded_nil, modifyPass, Option.map_id]
    rfl

/-- What stage 4 makes of a state on a list of slots. -/
structure Learned (s : State) (l : List Nat) (t : State) : Prop where
  rest : t = { s with sensors := t.sensors, pass := t.pass }
  pass : t.pass = s.pass.map (withSeeded (l.flatMap (seedings s)))
  kept : ∀ d, d ∉ l ∨ learner s d = none → rowAt t.sensors d = rowAt s.sensors d
  learned : ∀ d r v, d ∈ l → learner s d = some (r, v) → rowAt t.sensors d = some (.live (learn s v r))

theorem learner_congr (hsensor : sensorAt t d = sensorAt s d) (hrest : t = { s with sensors := t.sensors, pass := t.pass }) :
    learner t d = learner s d := by
  have hquiet : isQuiet t d = isQuiet s d := by rw [hrest]; rfl
  have hvalid : validReport t d = validReport s d := validReport_congr (by rw [hrest]) d
  rw [learner, learner, hsensor, hvalid, hquiet]

theorem Learned.nil (s : State) : Learned s [] s :=
  ⟨rfl, by rw [List.flatMap_nil, withSeeded_nil, Option.map_id]; rfl, fun _ _ => rfl, fun _ _ _ h => nomatch h⟩

theorem Learned.readsClean (h : Learned s l t) (hclean : readsClean s) : readsClean t := by
  refine ⟨fun d q hq => ?_, fun n g hg => hclean.2 n g ?_⟩
  · rw [sensorAt_row] at hq
    by_cases hd : d ∉ l ∨ learner s d = none
    · exact hclean.1 d q (sensorAt_row.mpr ((h.kept d hd).symm.trans hq))
    · rw [not_or, not_not] at hd
      obtain ⟨⟨r, v⟩, hx⟩ := Option.ne_none_iff_exists'.mp hd.2
      rw [h.learned d r v hd.1 hx] at hq
      cases hq
      exact hclean.1 d r (learner_iff.mp hx).1
  · rw [h.rest] at hg
    exact hg

/-- One slot more. -/
theorem Learned.step (hclean : Machine.readsClean s) (hd : d ∉ l) (h : Learned s l t) : Learned s (l ++ [d]) (stage4Sensor d t) := by
  have hat : sensorAt t d = sensorAt s d := by
    unfold sensorAt
    rw [h.kept d (.inl hd)]
  have hlearner : learner t d = learner s d := learner_congr hat h.rest
  have hold {m : Nat} (hm : m ∈ l ++ [d]) : m ∈ l ∨ m = d := by simpa using hm
  cases hl : learner s d with
  | none =>
    rw [stage4Sensor_none (h.readsClean hclean) (hlearner.trans hl)]
    refine ⟨h.rest, ?_, fun m hm => h.kept m (hm.imp_left fun hm hml => hm (by simp [hml])), fun m r v hm hx => ?_⟩
    · rw [h.pass, List.flatMap_append, List.flatMap_singleton, seedings_none hl, List.append_nil]
    · rcases hold hm with hm | rfl
      · exact h.learned m r v hm hx
      · rw [hl] at hx
        cases hx
  | some x =>
    obtain ⟨r, v⟩ := x
    have hparams : t.params = s.params := by rw [h.rest]
    have hlearn : learn t v r = learn s v r := by rw [learn, learn, seedCount, seedCount, hparams]
    have hseedings : seedings t d = seedings s d := by
      rw [seedings_some (hlearner.trans hl), seedings_some hl, hlearn, isSeeded, isSeeded, isSeeded, isSeeded, seedCount, seedCount, hparams]
    have herr : (learn s v r).err = 0 := hclean.1 d r (learner_iff.mp hl).1
    rw [stage4Sensor_some (h.readsClean hclean) (hlearner.trans hl), hlearn, hseedings]
    have hrow (m : Nat) : rowAt (writeSensor d (learn s v r) t).sensors m = if m = d then some (.live (learn s v r)) else rowAt t.sensors m := by
      rw [writeSensor, rowAt_setRow, ← herr]
    refine ⟨by rw [h.rest]; rfl, ?_, fun m hm => (hrow m).trans ?_, fun m q w hm hx => (hrow m).trans ?_⟩
    · show t.pass.map _ = _
      rw [h.pass, Option.map_map, List.flatMap_append, List.flatMap_singleton]
      congr 1
      funext p
      simp [withSeeded]
    · have hmd : m ≠ d := by
        rintro rfl
        simp [hl] at hm
      rw [if_neg hmd]
      exact h.kept m (hm.imp_left fun hm hml => hm (by simp [hml]))
    · rcases hold hm with hm | rfl
      · rw [if_neg fun hmd : m = d => hd (hmd ▸ hm)]
        exact h.learned m q w hm hx
      · rw [hl] at hx
        cases hx
        exact if_pos rfl

theorem forEach_learned (hclean : readsClean s) (hnd : l.Nodup) : Learned s l (forEach l stage4Sensor s) := by
  induction l using List.reverseRecOn with
  | nil => exact Learned.nil s
  | append_singleton l d ih =>
    obtain ⟨hl, -, hd⟩ := List.nodup_append.mp hnd
    rw [forEach_snoc]
    exact (ih hl).step hclean fun h => hd d h d (by simp) rfl

/-- The urgency source reads no sensor (R148). -/
theorem Learned.urgencySource (h : Learned s l t) : urgencySource t = urgencySource s :=
  urgencySource_congr (by rw [h.rest]) (by rw [h.rest]) (by rw [h.rest])

/-- d / 2^k rounded to the nearest is at most d (R64). -/
theorem rounded_le {k d : Nat} (hk : 1 ≤ k) : (d + 2 ^ (k - 1)) / 2 ^ k ≤ d := by
  obtain ⟨j, rfl⟩ := Nat.exists_eq_add_of_le' hk
  have hpos : 0 < 2 ^ j := Nat.two_pow_pos j
  rw [Nat.add_sub_cancel, Nat.pow_succ, Nat.div_le_iff_le_mul_add_pred (by omega)]
  rcases d with _ | d
  · omega
  · have hleft : d + 1 ≤ 2 ^ j * (d + 1) := Nat.le_mul_of_pos_left _ hpos
    have hright : 2 ^ j ≤ 2 ^ j * (d + 1) := Nat.le_mul_of_pos_right _ (Nat.succ_pos d)
    have hproduct : 2 ^ j * 2 * (d + 1) = 2 * (2 ^ j * (d + 1)) := by ring
    omega

/-- A learning step never passes its input (R64). -/
theorem learnStep_between {k b x : Nat} (hk : 1 ≤ k) : min b x ≤ learnStep k b x ∧ learnStep k b x ≤ max b x := by
  have hup := rounded_le (d := x - b) hk
  have hdown := rounded_le (d := b - x) hk
  unfold learnStep
  generalize (x - b + 2 ^ (k - 1)) / 2 ^ k = up at hup ⊢
  generalize (b - x + 2 ^ (k - 1)) / 2 ^ k = down at hdown ⊢
  split <;> omega

end

/-- Settles O52: stage 4 on the first slots of the expected set is known one by one (`forEach_learned`), up to the whole set. -/
theorem passStage4LearnsBaselines : Obligations.PassStage4LearnsBaselines := by
  refine ⟨?_, fun k b x hk => learnStep_between hk⟩
  intro p f s hheld hclean hpass hstage hf hnd k quiet step
  have hlearned := forEach_learned (s := s) ⟨fun d r => clean_sensor hclean, fun n r => clean_segment hclean⟩ hnd
  have hwork : stage4 s = forEach f.expected stage4Sensor s := by simp [stage4, hf]
  rw [← hwork] at hlearned
  have hexec : exec .passStage4 s = .next (goTo .completion (stage4 s)) :=
    exec_stage (fun _ => rfl) hheld hpass hstage (by rw [hlearned.rest]) hlearned.urgencySource
  have hquiet {d : Nat} {r : SensorRec} {v : ReportValues} : d ∈ f.expected ∧ learner s d = some (r, v) ↔
      quiet d r ∧ validReport s d = some v := by
    rw [learner_iff, isQuiet, Bool.and_eq_true, decide_eq_true_eq, segmentsNormal_iff]
    exact ⟨fun ⟨hd, hr, hv, hq⟩ => ⟨⟨hd, hr, hq⟩, hv⟩, fun ⟨⟨hd, hr, hq⟩, hv⟩ => ⟨hd, hr, hv, hq⟩⟩
  refine ⟨goTo .completion (stage4 s), _, f.expected.flatMap (seedings s), hexec, ?_, rfl, seedings_sublist s _, fun d b => ?_, ?_,
    fun d hno => hlearned.kept d ?_, fun d r v hq hv => ?_⟩
  · rw [goTo, modifyPass, hlearned.pass, hpass]
    rfl
  · simp only [List.mem_flatMap, mem_seedings]
    constructor
    · rintro ⟨_, hd, rfl, r, v, hl, hne, hle, hb⟩
      obtain ⟨hq, hv⟩ := hquiet.mp ⟨hd, hl⟩
      exact ⟨r, v, hq, hv, hne, hle, hb⟩
    · rintro ⟨r, v, hq, hv, hne, hle, hb⟩
      obtain ⟨hd, hl⟩ := hquiet.mpr ⟨hq, hv⟩
      exact ⟨d, hd, rfl, r, v, hl, hne, hle, hb⟩
  · rw [goTo, modifyPass, hlearned.rest]
  · by_contra hd
    rw [not_or, not_not] at hd
    obtain ⟨⟨r, v⟩, hl⟩ := Option.ne_none_iff_exists'.mp hd.2
    obtain ⟨hq, hv⟩ := hquiet.mp ⟨hd.1, hl⟩
    rw [hno r hq] at hv
    cases hv
  · obtain ⟨hd, hl⟩ := hquiet.mpr ⟨hq, hv⟩
    refine ⟨_, hlearned.learned d r v hd hl, fun j => ?_⟩
    refine (perPhase_mapPhases ..).trans ?_
    rfl

end Sys2Proof.Machine
end

section
namespace Sys2Proof.Machine

/-! ### The parameters that SET_PARAMS writes (R106) -/

section
variable {pairs : List ParamPair} {x : Params} {p : Param}

/-- The ids of pairs whose fields are good name each parameter once. -/
theorem nodup_of_checks {offset : Nat} {seen : List Byte} (h : ∀ c ∈ pairChecks offset seen pairs, c.2 = true) :
    (pairs.map (·.id)).Nodup ∧ ∀ q ∈ pairs, q.id ∉ seen := by
  induction pairs generalizing offset seen with
  | nil => simp
  | cons q rest ih =>
    simp only [pairChecks, List.forall_mem_cons, Bool.not_eq_true', List.contains_eq_mem, decide_eq_false_iff_not] at h
    obtain ⟨-, hq, -, hrest⟩ := h
    obtain ⟨hnd, hnew⟩ := ih hrest
    simp only [List.mem_cons, not_or] at hnew
    rw [List.map_cons, List.nodup_cons, List.forall_mem_cons]
    refine ⟨⟨fun hid => ?_, hnd⟩, hq, fun u hu => (hnew u hu).2⟩
    obtain ⟨u, hu, he⟩ := List.mem_map.mp hid
    exact (hnew u hu).1 he

/-- The id of a profile parameter within its profile, and of a parameter (R173). -/
def profileIdOf : ProfileParam → Nat
  | .vLive => 1
  | .vOpen => 2
  | .unbalGap => 3
  | .nOpen => 4
  | .leakPickup => 5
  | .arcPickup => 6
  | .nContact => 7
  | .iDead => 8
  | .loadMin => 9

def idOf : Param → Nat
  | .profile .normal p => profileIdOf p
  | .profile .elevated p => 16 + profileIdOf p
  | .minHold => 32
  | .staleLimit => 33
  | .baseShift => 34
  | .settleFrames => 35
  | .maintTail => 36

theorem profileIdOf_profileParamOf {n : Nat} {q : ProfileParam} (h : profileParamOf n = some q) : n = profileIdOf q := by
  unfold profileParamOf at h
  split at h <;> cases h <;> rfl

theorem idOf_paramOf {id : Byte} (h : paramOf id = some p) : id.toNat = idOf p := by
  unfold paramOf at h
  split at h
  · obtain ⟨q, hq, rfl⟩ := Option.map_eq_some_iff.mp h
    exact profileIdOf_profileParamOf hq
  · split at h
    · obtain ⟨q, hq, rfl⟩ := Option.map_eq_some_iff.mp h
      have := profileIdOf_profileParamOf hq
      simp only [idOf]
      omega
    · split at h <;> cases h <;> assumption

theorem paramOf_inj {a b : Byte} (ha : paramOf a = some p) (hb : paramOf b = some p) : a = b :=
  BitVec.eq_of_toNat_eq ((idOf_paramOf ha).trans (idOf_paramOf hb).symm)

theorem withPairs_cons (q : ParamPair) (rest : List ParamPair) :
    withPairs (q :: rest) x = withPairs rest ((paramOf q.id).elim x fun p => setParam p q.value.toNat x) := by
  cases h : paramOf q.id <;> simp [withPairs, h]

/-- A parameter that no pair names is left (R106). -/
theorem getParam_withPairs_other (h : ∀ q ∈ pairs, paramOf q.id ≠ some p) : getParam (withPairs pairs x) p = getParam x p := by
  induction pairs generalizing x with
  | nil => rfl
  | cons q rest ih =>
    obtain ⟨hq, hrest⟩ := List.forall_mem_cons.mp h
    rw [withPairs_cons, ih hrest]
    cases hp : paramOf q.id with
    | none => rfl
    | some p' =>
      have hne : p ≠ p' := fun he => hq (he ▸ hp)
      rw [Option.elim_some, getParam_setParam, if_neg hne]

/-- A parameter that a pair names takes its value (R106). -/
theorem getParam_withPairs_named (hnd : (pairs.map (·.id)).Nodup) {q : ParamPair} (hq : q ∈ pairs) (hp : paramOf q.id = some p) :
    getParam (withPairs pairs x) p = writtenValue p q.value.toNat := by
  induction pairs generalizing x with
  | nil => cases hq
  | cons u rest ih =>
    obtain ⟨hu, hrest⟩ := List.nodup_cons.mp hnd
    rw [withPairs_cons]
    rcases List.mem_cons.mp hq with rfl | hq
    · have hother : ∀ w ∈ rest, paramOf w.id ≠ some p := fun w hw hwp => hu (List.mem_map.mpr ⟨w, hw, paramOf_inj hwp hp⟩)
      rw [getParam_withPairs_other hother, hp, Option.elim_some, getParam_setParam, if_pos rfl]
    · exact ih hrest hq

end
end Sys2Proof.Machine
end

section
namespace Sys2Proof.Machine

/-! ### A BASE_SHIFT change (R62) -/

section
variable {s : State} {k j d : Nat} {r : SensorRec} {l : List Nat}

/-- Notices raised change the queue and the counts alone, and read the queue and the counts alone (R146, R147). -/
theorem raiseAll_outside (f : FrameNo) (bs : List NoticeBody) (x : HostLink) (tab : Table SensorPlace) (y : Params) (s : State) :
    raiseAll f bs { s with hl := x, sensors := tab, params := y } =
      { raiseAll f bs s with hl := x, sensors := tab, params := y } := by
  induction bs generalizing s with
  | nil => rfl
  | cons b bs ih =>
    rw [raiseAll_cons, raiseAll_cons, ← ih]
    congr 1
    unfold raiseAt enqueue
    dsimp only
    split
    · rfl
    · cases makeRoom (noticeClass b) s.nq.queue <;> rfl

theorem raiseAt_eq (f : FrameNo) (b : NoticeBody) (s : State) :
    raiseAt f b s = { s with nq := (raiseAt f b s).nq, cb := (raiseAt f b s).cb } := by
  unfold raiseAt
  rcases enqueue_cases ⟨s.nq.seq, f, b⟩ { s with nq := { s.nq with seq := s.nq.seq + 1 } } with ⟨-, he⟩ | ⟨kept, -, he⟩ | he <;>
    rw [he] <;> rfl

theorem raiseAll_eq (f : FrameNo) (bs : List NoticeBody) (s : State) :
    raiseAll f bs s = { s with nq := (raiseAll f bs s).nq, cb := (raiseAll f bs s).cb } := by
  refine raiseAll_keeps (P := fun t => t = { s with nq := t.nq, cb := t.cb }) (fun b t ht => ?_) bs rfl
  rw [raiseAt_eq, ht]

theorem raiseAll_withSensors (f : FrameNo) (bs : List NoticeBody) (tab : Table SensorPlace) (s : State) :
    raiseAll f bs { s with sensors := tab } = { raiseAll f bs s with sensors := tab } := by
  refine (raiseAll_outside f bs s.hl tab s.params s).trans ?_
  rw [raiseAll_eq]

/-- The record with its learn count adjusted to the new BASE_SHIFT (R62). -/
def adjusted (k j : Nat) (r : SensorRec) : SensorRec := { r with learn := adjustedLearn k j r.learn }

/-- Slot d holds a sensor that becomes seeded (R62). -/
def becomesSeeded (k j : Nat) (s : State) (d : Nat) : Bool := (sensorAt s d).any fun r => decide (r.learn ≠ 2 ^ k ∧ 2 ^ j ≤ r.learn)

/-- BASELINE_READY of slot d (R62, R65). -/
def seededNotice (s : State) (d : Nat) : NoticeBody := .baselineReady d (((sensorAt s d).map (·.residualBase)).getD 0)

/-- The BASELINE_READY notices of a list of slots. -/
def seededNotices (k j : Nat) (s : State) (l : List Nat) : List NoticeBody := (l.filter (becomesSeeded k j s)).map (seededNotice s)

theorem adjustSensor_vacant (h : sensorAt s d = none) : adjustSensor k j d s = s := by
  have hread : readSensor d s = s := readSensor_noError fun r hr => by simp [h] at hr
  simp [adjustSensor, hread, h]

/-- The record is rewritten, and a sensor that becomes seeded raises its notice (R62). -/
theorem adjustSensor_live (h : sensorAt s d = some r) (herr : r.err = 0) : adjustSensor k j d s =
    raiseAll s.ft.frame (seededNotices k j s [d]) (writeSensor d (adjusted k j r) s) := by
  have hread : readSensor d s = s := readSensor_noError fun q hq => by
    rw [h] at hq
    cases hq
    exact herr
  unfold adjustSensor
  dsimp only
  rw [hread, h]
  dsimp only
  by_cases hs : r.learn ≠ 2 ^ k ∧ 2 ^ j ≤ r.learn
  · rw [if_pos hs]
    simp [seededNotices, becomesSeeded, seededNotice, h, hs, raiseAll, raiseNow, adjusted]
  · rw [if_neg hs]
    simp [seededNotices, becomesSeeded, h, hs, raiseAll, adjusted]

theorem raiseAll_append (f : FrameNo) (l more : List NoticeBody) (s : State) :
    raiseAll f (l ++ more) s = raiseAll f more (raiseAll f l s) := List.foldl_append ..

/-- Learn counts adjusted slot by slot: the records rewritten, and the notices raised in the order of the slots (R62). -/
theorem forEach_adjustSensor (hnd : l.Nodup) (hclean : ∀ d r, sensorAt s d = some r → r.err = 0) :
    ∃ tab, forEach l (adjustSensor k j) s = { raiseAll s.ft.frame (seededNotices k j s l) s with sensors := tab } ∧
      ∀ d, rowAt tab d = if d ∈ l then (rowAt s.sensors d).map (rewrittenSensor (adjusted k j)) else rowAt s.sensors d := by
  induction l using List.reverseRecOn with
  | nil => exact ⟨s.sensors, rfl, by simp⟩
  | append_singleton l d ih =>
    obtain ⟨hl, -, hd⟩ := List.nodup_append.mp hnd
    have hd : d ∉ l := fun h => hd d h d (by simp) rfl
    obtain ⟨tab, htab, hrows⟩ := ih hl
    generalize hu : raiseAll s.ft.frame (seededNotices k j s l) s = u at htab
    have hat : sensorAt { u with sensors := tab } d = sensorAt s d := by
      rw [sensorAt, sensorAt, show rowAt tab d = _ from (hrows d).trans (if_neg hd)]
    have hsplit : seededNotices k j s (l ++ [d]) = seededNotices k j s l ++ seededNotices k j s [d] := by simp [seededNotices]
    have hmem (m : Nat) (hm : m ≠ d) : (m ∈ l ++ [d]) = (m ∈ l) := by simp [hm]
    rw [forEach_snoc, htab, hsplit, raiseAll_append, hu]
    cases hr : sensorAt s d with
    | none =>
      have hnone : seededNotices k j s [d] = [] := by simp [seededNotices, becomesSeeded, hr]
      refine ⟨tab, by rw [adjustSensor_vacant (hat.trans hr), hnone]; rfl, fun m => (hrows m).trans ?_⟩
      by_cases hm : m = d
      · subst hm
        rw [if_neg hd, rewrittenSensor_notLive _ hr, ite_self]
      · simp only [hmem m hm]
    | some r =>
      have hframe : s.ft.frame = u.ft.frame := by rw [← hu, raiseAll_eq]
      have hnotices : seededNotices k j { u with sensors := tab } [d] = seededNotices k j s [d] := by
        simp [seededNotices, becomesSeeded, seededNotice, hat, List.filter_cons]
      refine ⟨setRow tab d (.live { adjusted k j r with err := 0 }), ?_, fun m => ?_⟩
      · rw [adjustSensor_live (hat.trans hr) (hclean d r hr), hnotices]
        rw [hframe]
        exact raiseAll_withSensors _ _ _ u
      · rw [rowAt_setRow]
        by_cases hm : m = d
        · subst hm
          simp [sensorAt_row.mp hr, rewrittenSensor]
        · rw [if_neg hm, hrows m]
          simp only [hmem m hm]

theorem mem_becomesSeeded : becomesSeeded k j s d = true ↔ ∃ r, sensorAt s d = some r ∧ (r.learn ≠ 2 ^ k ∧ 2 ^ j ≤ r.learn) := by
  simp [becomesSeeded, Option.any_eq_true]

theorem adjustedLearn_eq (k j n : Nat) : adjustedLearn k j n = if n = 2 ^ k ∨ 2 ^ j ≤ n then 2 ^ j else n := by
  unfold adjustedLearn
  split
  · rw [if_pos (.inl ‹_›)]
  · simp [*]

/-- The notices of numbers, one of each, are numbered as the numbers are. -/
theorem numberedFrom_map (q : BitVec 16) (f : FrameNo) (b : Nat → NoticeBody) (ds : List Nat) :
    numberedFrom q f (ds.map b) = ds.mapIdx fun i d => ⟨q + BitVec.ofNat 16 i, f, b d⟩ := by
  rw [numberedFrom, List.mapIdx_eq_ofFn, List.mapIdx_eq_ofFn]
  simp

theorem act_setParams (pairs : List ParamPair) (s : State) : act (.setParams pairs) s = takeSetParams pairs s := rfl

/-- SET_PARAMS with BASE_SHIFT changed: the parameters written, then the learn counts adjusted (R62, R106). -/
theorem exec_setParams_baseShift {pairs : List ParamPair} (hready : ready s = true) (hpass : s.pass = none) (hs : inService s = true)
    (hclean : clean s = true) (hf : fieldFault (.setParams pairs) = none) (hk : k = s.params.baseShift)
    (hj : (withPairs pairs s.params).baseShift = j) (hne : j ≠ k) :
    ∃ tab, exec (.setParams pairs) s = .next (answered 8 (okWith []) { s with
        params := withPairs pairs s.params, sensors := tab
        nq := (raiseAll s.ft.frame (seededNotices k j s allSlots) s).nq
        cb := (raiseAll s.ft.frame (seededNotices k j s allSlots) s).cb }) ∧
      ∀ d, rowAt tab d = if d ∈ allSlots then (rowAt s.sensors d).map (rewrittenSensor (adjusted k j)) else rowAt s.sensors d := by
  obtain ⟨tab, htab, hrows⟩ := forEach_adjustSensor (k := k) (j := j)
    (s := { acting (.setParams pairs) s with params := withPairs pairs s.params }) nodup_allSlots fun d r => clean_sensor hclean
  refine ⟨tab, exec_taken (r := .setParams pairs) rfl hready (not_delayed hpass) hs rfl hf ?_ (follow_okWith _) rfl
    (urgencySource_congr rfl rfl rfl), hrows⟩
  have hbase : (acting (.setParams pairs) s).params.baseShift = k := hk.symm
  have hnew : (withPairs pairs (acting (.setParams pairs) s).params).baseShift = j := hj
  rw [act_setParams, takeSetParams]
  dsimp only
  rw [hnew, hbase, if_neg hne]
  refine congrArg (·, okWith []) (htab.trans ?_)
  show { raiseAll s.ft.frame (seededNotices k j s allSlots) { s with
    hl := (acting (.setParams pairs) s).hl, sensors := s.sensors, params := withPairs pairs s.params } with sensors := tab } = _
  rw [raiseAll_outside, raiseAll_eq]

end

/-- Settles O11: each pair writes its parameter, and the slots are adjusted one by one (`forEach_adjustSensor`). -/
theorem baseShiftChangeAdjustsLearnCounts : Obligations.BaseShiftChangeAdjustsLearnCounts := by
  intro pairs x s hready hpass hs hclean hf hx hid hne k j seeds
  obtain ⟨hnd, -⟩ := nodup_of_checks fun c hc => firstBad_none.mp hf c (List.mem_cons_of_mem _ hc)
  have hj : (withPairs pairs s.params).baseShift = j :=
    getParam_withPairs_named (p := .baseShift) hnd hx (by rw [hid]; rfl)
  obtain ⟨tab, hexec, hrows⟩ := exec_setParams_baseShift hready hpass hs hclean hf rfl hj hne
  refine ⟨_, hexec, rfl, fun q hq p hp => getParam_withPairs_named hnd hq hp, fun p hp => getParam_withPairs_other hp,
    fun d r hd hr => ?_, fun d hd => (hrows d).trans ?_, fun hnone => ?_, fun ds base hlt hds hbase hroom => ?_⟩
  · have herr := clean_sensor hclean hr
    refine (hrows d).trans ?_
    rw [if_pos (mem_allSlots.mpr hd), sensorAt_row.mp hr, Option.map_some, rewrittenSensor, adjusted, adjustedLearn_eq, ← herr]
  · rcases hd with hd | hd
    · exact if_neg fun h => Nat.not_lt.mpr hd (mem_allSlots.mp h)
    · rw [rewrittenSensor_notLive _ hd, ite_self]
  · have hempty : allSlots.filter (becomesSeeded k j s) = [] := by
      refine List.filter_eq_nil_iff.mpr fun d hd h => ?_
      obtain ⟨r, hr, hseeds⟩ := mem_becomesSeeded.mp h
      exact hnone d r (mem_allSlots.mp hd) hr hseeds
    have hnotices : seededNotices k j s allSlots = [] := by rw [seededNotices, hempty, List.map_nil]
    dsimp only
    rw [hnotices]
    exact ⟨rfl, rfl⟩
  · have hfilter : allSlots.filter (becomesSeeded k j s) = ds := by
      refine List.Pairwise.eq_of_mem_iff (List.pairwise_lt_range.filter _) hlt fun d => ?_
      rw [List.mem_filter, mem_allSlots, mem_becomesSeeded, hds]
    have hnotices : seededNotices k j s allSlots = ds.map fun d => .baselineReady d (base d) := by
      rw [seededNotices, hfilter]
      refine List.map_congr_left fun d hd => ?_
      obtain ⟨-, r, hr, -⟩ := (hds d).mp hd
      rw [seededNotice, hr, hbase d r hd hr]
      rfl
    dsimp only
    rw [hnotices, raiseAll_queued _ (by rw [List.length_map]; exact hroom)]
    refine ⟨rfl, ?_⟩
    rw [queued, numberedFrom_map, List.length_map]

end Sys2Proof.Machine
end

section
namespace Sys2Proof.Machine

/-! ### Voltage classes and signatures at a sensor (R59, R60, R82) -/

section
variable {s : State} {r : SegRec} {d : Nat} {k : Phase} {phases : PhaseSet}

/-- Phase k is LIVE at sensor d in the evaluated frame (R59). -/
def phaseLive (s : State) (d : Nat) (k : Phase) : Prop := ∃ x, phaseReport s d k = some x ∧ (selectedProfile s).vLive ≤ x.v

/-- Phase k is COLLAPSED at sensor d (R59). -/
def phaseCollapsed (s : State) (d : Nat) (k : Phase) : Prop :=
  ∃ x, phaseReport s d k = some x ∧ x.v < (selectedProfile s).vLive ∧ x.v ≤ vOpenEffective (selectedProfile s)

/-- The voltage v keeps the distance UNBAL_GAP from every other phase of a segment at sensor d, all of them LIVE (R60). -/
def unbalanced (s : State) (phases : PhaseSet) (d : Nat) (k : Phase) (v : Nat) : Prop :=
  ∀ j, perPhase phases j = true → j ≠ k → phaseLive s d j ∧
    ∀ y, phaseReport s d j = some y → v ≤ y.v - (selectedProfile s).unbalGap

/-- Phase k shows the backfed signature at sensor d (R82). -/
def phaseBackfed (s : State) (phases : PhaseSet) (d : Nat) (k : Phase) : Prop :=
  (∃ x, phaseReport s d k = some x ∧ x.v < (selectedProfile s).vLive ∧ vOpenEffective (selectedProfile s) < x.v ∧
    unbalanced s phases d k x.v) ∧ ∃ j, perPhase phases j = true ∧ j ≠ k

theorem mem_allPhases (k : Phase) : k ∈ allPhases := by
  cases k <;> decide

theorem any_allPhases {f : Phase → Bool} : allPhases.any f = true ↔ ∃ k, f k = true := by
  simp [mem_allPhases]

theorem voltageClass_live {p : ProfileParams} {v : Nat} : voltageClass p v = .live ↔ p.vLive ≤ v := by
  unfold voltageClass
  split
  · simp [*]
  · split <;> simp [*]

theorem voltageClass_collapsed {p : ProfileParams} {v : Nat} : voltageClass p v = .collapsed ↔ v < p.vLive ∧ v ≤ vOpenEffective p := by
  unfold voltageClass
  split
  · simp [Nat.not_lt.mpr ‹_›]
  · split <;> simp [*, Nat.lt_of_not_le]

theorem voltageClass_sagged {p : ProfileParams} {v : Nat} : voltageClass p v = .sagged ↔ v < p.vLive ∧ vOpenEffective p < v := by
  unfold voltageClass
  split
  · simp [Nat.not_lt.mpr ‹_›]
  · split <;> simp_all

theorem classAt_iff {c : VoltageClass} : classAt s d k = some c ↔
    ∃ x, phaseReport s d k = some x ∧ voltageClass (selectedProfile s) x.v = c := by
  simp [classAt, Option.map_eq_some_iff]

theorem liveAt_iff : liveAt s d k = true ↔ phaseLive s d k := by
  simp [liveAt, phaseLive, classAt_iff, voltageClass_live]

theorem collapsedAt_iff : collapsedAt s d k = true ↔ phaseCollapsed s d k := by
  simp [collapsedAt, phaseCollapsed, classAt_iff, voltageClass_collapsed]

theorem mem_otherPhases {j : Phase} : j ∈ otherPhases phases k ↔ perPhase phases j = true ∧ j ≠ k := by
  simp [otherPhases, phasesIn, mem_allPhases, and_comm]

/-- The smallest of some numbers is one of them. -/
theorem minimum_of_ne_nil {l : List Nat} (h : l ≠ []) : ∃ m ∈ l, minimum l = some m ∧ ∀ n ∈ l, m ≤ n := by
  induction l with
  | nil => exact absurd rfl h
  | cons a rest ih =>
    cases rest with
    | nil => exact ⟨a, by simp, rfl, by simp⟩
    | cons b more =>
      obtain ⟨m, hm, he, hle⟩ := ih (by simp)
      refine ⟨min a m, ?_, by rw [minimum, he], fun n hn => ?_⟩
      · rcases Nat.le_total a m with h | h
        · simp [Nat.min_eq_left h]
        · rw [Nat.min_eq_right h]
          exact List.mem_cons_of_mem _ hm
      · rcases List.mem_cons.mp hn with rfl | hn
        · exact Nat.min_le_left ..
        · exact (Nat.min_le_right ..).trans (hle n hn)

/-- The stored voltages of the other phases at a sensor. -/
def otherVoltages (s : State) (phases : PhaseSet) (d : Nat) (k : Phase) : List Nat :=
  (otherPhases phases k).filterMap fun j => (phaseReport s d j).map (·.v)

theorem mem_otherVoltages {n : Nat} : n ∈ otherVoltages s phases d k ↔
    ∃ j, (perPhase phases j = true ∧ j ≠ k) ∧ ∃ y, phaseReport s d j = some y ∧ y.v = n := by
  simp only [otherVoltages, List.mem_filterMap, mem_otherPhases, Option.map_eq_some_iff]

/-- A voltage at or below the unbalance limit is one below every other phase by UNBAL_GAP (R60). -/
theorem unbalanceLimit_iff {v : Nat} : (∃ limit, unbalanceLimit s phases d k = some limit ∧ v ≤ limit) ↔
    unbalanced s phases d k v ∧ ∃ j, perPhase phases j = true ∧ j ≠ k := by
  have hdef : unbalanceLimit s phases d k = if (otherPhases phases k).all (liveAt s d) then
      (minimum (otherVoltages s phases d k)).map (· - (selectedProfile s).unbalGap) else none := rfl
  have hall : (otherPhases phases k).all (liveAt s d) = true ↔ ∀ j, perPhase phases j = true → j ≠ k → phaseLive s d j := by
    simp only [List.all_eq_true, mem_otherPhases, liveAt_iff, and_imp]
  rw [hdef]
  by_cases hlive : ∀ j, perPhase phases j = true → j ≠ k → phaseLive s d j
  · rw [if_pos (hall.mpr hlive)]
    constructor
    · rintro ⟨limit, hlimit, hv⟩
      obtain ⟨m, hm, rfl⟩ := Option.map_eq_some_iff.mp hlimit
      have hne : otherVoltages s phases d k ≠ [] := by
        intro h
        rw [h] at hm
        cases hm
      obtain ⟨m', hmem, hm', hle⟩ := minimum_of_ne_nil hne
      obtain rfl : m' = m := Option.some.inj (hm'.symm.trans hm)
      obtain ⟨j, hj, -⟩ := mem_otherVoltages.mp hmem
      refine ⟨fun i hi hik => ⟨hlive i hi hik, fun y hy => ?_⟩, j, hj⟩
      have := hle y.v (mem_otherVoltages.mpr ⟨i, ⟨hi, hik⟩, y, hy, rfl⟩)
      omega
    · rintro ⟨hgap, j, hj, hjk⟩
      obtain ⟨y, hy, -⟩ := hlive j hj hjk
      have hne := List.ne_nil_of_mem (mem_otherVoltages.mpr ⟨j, ⟨hj, hjk⟩, y, hy, rfl⟩)
      obtain ⟨m, hmem, hm, -⟩ := minimum_of_ne_nil hne
      obtain ⟨i, ⟨hi, hik⟩, z, hz, rfl⟩ := mem_otherVoltages.mp hmem
      exact ⟨_, by rw [hm]; rfl, (hgap i hi hik).2 z hz⟩
  · rw [if_neg (mt hall.mp hlive)]
    constructor
    · rintro ⟨_, h, -⟩
      cases h
    · exact fun h => absurd (fun j hj hjk => (h.1 j hj hjk).1) hlive

theorem backfedAt_iff : backfedAt s phases d k = true ↔ phaseBackfed s phases d k := by
  have hsplit : backfedAt s phases d k = true ↔ ∃ x, phaseReport s d k = some x ∧
      voltageClass (selectedProfile s) x.v = .sagged ∧ ∃ limit, unbalanceLimit s phases d k = some limit ∧ x.v ≤ limit := by
    unfold backfedAt
    cases hx : phaseReport s d k with
    | none => simp
    | some x => cases unbalanceLimit s phases d k <;> simp [classAt, hx]
  rw [hsplit, phaseBackfed]
  simp only [unbalanceLimit_iff, voltageClass_sagged]
  constructor
  · rintro ⟨x, hx, ⟨hlow, hhigh⟩, hgap, hother⟩
    exact ⟨⟨x, hx, hlow, hhigh, hgap⟩, hother⟩
  · rintro ⟨⟨x, hx, hlow, hhigh, hgap⟩, hother⟩
    exact ⟨x, hx, ⟨hlow, hhigh⟩, hgap, hother⟩

end
end Sys2Proof.Machine
end

section
namespace Sys2Proof.Machine

/-! ### The open and load-loss tests (R81 to R85) -/

section
variable {s : State} {sh : List Nat} {r : SegRec} {f : FrameNo} {k : Phase}

/-- Downstream sensor d participates on phase k (R81). -/
def takesPart (s : State) (sh : List Nat) (r : SegRec) (d : Nat) (k : Phase) : Prop :=
  d ∈ r.down ∧ (phaseReport s d k).isSome = true ∧ d ∉ r.excluded ∧ (sensorAt s d).isSome = true ∧ d ∉ sh

/-- The upstream sensor is seeded with a current baseline of LOAD_MIN or more on phase k (R83). -/
def isLoaded (s : State) (r : SegRec) (k : Phase) : Prop :=
  ∃ u, sensorAt s r.up = some u ∧ u.learn = 2 ^ s.params.baseShift ∧ (selectedProfile s).loadMin ≤ perPhase u.currentBase k

/-- Phase k is judged: tested, and with something to judge it by (R81 to R83). -/
def isJudged (s : State) (sh : List Nat) (r : SegRec) (k : Phase) : Prop :=
  (perPhase r.phases k = true ∧ phaseLive s r.up k ∧ perPhase r.operated k = false) ∧
    ((r.down = [] ∧ isLoaded s r k) ∨ (r.down ≠ [] ∧ ∃ d, takesPart s sh r d k))

/-- Phase k is found PRESENT, a protective operation not yet set apart (R82, R83). -/
def isFound (s : State) (sh : List Nat) (r : SegRec) (k : Phase) : Prop := isJudged s sh r k ∧
  ((r.down = [] ∧ ∃ x, phaseReport s r.up k = some x ∧ x.i ≤ (selectedProfile s).iDead) ∨
    ∃ d, takesPart s sh r d k ∧ (phaseCollapsed s d k ∨ phaseBackfed s r.phases d k))

/-- The last surge frame of phase k at the upstream sensor is g, 0 to 3 frames back (R84). -/
def surgedIn (s : State) (r : SegRec) (f : FrameNo) (k : Phase) (g : FrameNo) : Prop :=
  ∃ u, sensorAt s r.up = some u ∧ perPhase u.surge k = some g ∧ 0 ≤ frameDiff f g ∧ frameDiff f g ≤ 3

/-- Phase k is PRESENT after the protective-operation check (R84). -/
def isCounted (s : State) (sh : List Nat) (r : SegRec) (f : FrameNo) (k : Phase) : Prop :=
  isFound s sh r k ∧ ¬ ∃ g, surgedIn s r f k g

theorem mem_participants {d : Nat} : d ∈ participants s sh r k ↔ takesPart s sh r d k := by
  simp [participants, takesPart, and_assoc]

theorem exists_takesPart : (∃ d, takesPart s sh r d k) ↔ participants s sh r k ≠ [] := by
  simp only [← mem_participants]
  exact ⟨fun ⟨d, hd⟩ => List.ne_nil_of_mem hd, List.exists_mem_of_ne_nil _⟩

theorem isTested_iff : isTested s r k = true ↔ perPhase r.phases k = true ∧ phaseLive s r.up k ∧ perPhase r.operated k = false := by
  simp [isTested, liveAt_iff, and_assoc]

theorem isLeaf_iff : isLeaf r = true ↔ r.down = [] := List.isEmpty_iff

theorem not_takesPart_of_leaf (h : r.down = []) (d : Nat) : ¬ takesPart s sh r d k := by
  rintro ⟨hd, -⟩
  simp [h] at hd

theorem isSeeded_iff {u : SensorRec} : isSeeded s u = true ↔ u.learn = 2 ^ s.params.baseShift := by simp [isSeeded, seedCount]

/-- The outcome of a test on what it judges: PRESENT where P holds, ABSENT elsewhere (R80). -/
def tells (P : Prop) (o : TestResult) : Prop := (o = .present ∧ P) ∨ (o = .absent ∧ ¬ P)

theorem tells_ite {P c : Prop} [Decidable c] {o : TestResult} (h : c ↔ P) : (if c then TestResult.present else .absent) = o ↔ tells P o := by
  unfold tells
  by_cases hc : c
  · simp [hc, h.mp hc, eq_comm]
  · simp [hc, mt h.mpr hc, eq_comm]

theorem tells_congr {P Q : Prop} {o : TestResult} (h : P ↔ Q) : tells P o ↔ tells Q o := by rw [tells, tells, h]

/-- The load-loss test judges a loaded LIVE phase, and its current decides (R83). -/
theorem loadLossPhase_iff {o : TestResult} (hlive : phaseLive s r.up k) : loadLossPhase s r k = some o ↔
    isLoaded s r k ∧ tells (∃ x, phaseReport s r.up k = some x ∧ x.i ≤ (selectedProfile s).iDead) o := by
  obtain ⟨x, hx, -⟩ := hlive
  unfold loadLossPhase isLoaded
  rw [hx]
  cases sensorAt s r.up with
  | none => simp
  | some u =>
    have htells := tells_ite (c := x.i ≤ (selectedProfile s).iDead)
      (P := ∃ y, some x = some y ∧ y.i ≤ (selectedProfile s).iDead) (o := o) (by simp)
    rw [← htells]
    by_cases hu : (isSeeded s u && decide ((selectedProfile s).loadMin ≤ perPhase u.currentBase k)) = true
    · simp only [hu, if_true, Option.some.injEq]
      simp only [Bool.and_eq_true, isSeeded_iff, decide_eq_true_eq] at hu
      simp [hu]
    · simp only [hu]
      simp only [Bool.and_eq_true, isSeeded_iff, decide_eq_true_eq] at hu
      simp [hu]

/-- Sensor d shows the collapse signature of phase k (R82). -/
def showsCollapse (s : State) (sh : List Nat) (r : SegRec) (d : Nat) (k : Phase) : Prop :=
  takesPart s sh r d k ∧ (phaseCollapsed s d k ∨ phaseBackfed s r.phases d k)

/-- The open test judges a phase with participants, and their collapse signatures decide (R82). -/
theorem openPhase_iff {o : TestResult} : openPhase s sh r k = some o ↔
    (∃ d, takesPart s sh r d k) ∧ tells (∃ d, showsCollapse s sh r d k) o := by
  have hany : ((participants s sh r k).any fun d => collapseSignature s r.phases d k) = true ↔ ∃ d, showsCollapse s sh r d k := by
    simp only [List.any_eq_true, mem_participants, collapseSignature, Bool.or_eq_true, collapsedAt_iff, backfedAt_iff, showsCollapse]
  rw [← tells_ite hany, exists_takesPart]
  unfold openPhase
  cases participants s sh r k <;> simp

/-- A judged phase is PRESENT where it is found, ABSENT elsewhere (R81 to R83). -/
theorem phaseResult_iff {o : TestResult} : phaseResult s sh r k = some o ↔ isJudged s sh r k ∧ tells (isFound s sh r k) o := by
  unfold phaseResult
  by_cases ht : isTested s r k = true
  · have htested := isTested_iff.mp ht
    rw [if_pos ht]
    by_cases hleaf : r.down = []
    · have hjudged : isJudged s sh r k ↔ isLoaded s r k := by simp [isJudged, htested, hleaf]
      rw [if_pos (isLeaf_iff.mpr hleaf), loadLossPhase_iff htested.2.1, ← hjudged]
      refine and_congr_right fun hj => tells_congr ?_
      simp [isFound, hj, hleaf, not_takesPart_of_leaf hleaf]
    · have hjudged : isJudged s sh r k ↔ ∃ d, takesPart s sh r d k := by simp [isJudged, htested, hleaf]
      rw [if_neg (mt isLeaf_iff.mp hleaf), openPhase_iff, ← hjudged]
      refine and_congr_right fun hj => tells_congr ?_
      simp [isFound, hj, hleaf, showsCollapse]
  · rw [if_neg ht]
    have hno : ¬ isJudged s sh r k := fun h => ht (isTested_iff.mpr h.1)
    simp [hno]

theorem phaseResult_present : phaseResult s sh r k = some .present ↔ isFound s sh r k := by
  rw [phaseResult_iff, tells]
  simp only [true_and, reduceCtorEq, false_and, or_false]
  exact ⟨fun h => h.2, fun h => ⟨h.1, h⟩⟩

theorem phaseResult_absent : phaseResult s sh r k = some .absent ↔ isJudged s sh r k ∧ ¬ isFound s sh r k := by
  rw [phaseResult_iff, tells]
  simp

theorem recentSurge_iff {g : FrameNo} : recentSurge s r f k = some g ↔ surgedIn s r f k g := by
  unfold recentSurge surgedIn
  cases sensorAt s r.up with
  | none => simp
  | some u =>
    cases hg : perPhase u.surge k with
    | none => simp [hg]
    | some h =>
      simp only [Option.some.injEq, exists_eq_left', hg]
      split
      · simp only [Option.some.injEq]
        exact ⟨fun he => ⟨he, he ▸ ‹_›⟩, fun he => he.1⟩
      · simp only [reduceCtorEq, false_iff]
        rintro ⟨rfl, h⟩
        exact absurd h ‹_›

theorem isOperation_iff : isOperation s sh r f k = true ↔ isFound s sh r k ∧ ∃ g, surgedIn s r f k g := by
  simp only [isOperation, Bool.and_eq_true, beq_iff_eq, phaseResult_present, Option.isSome_iff_exists, recentSurge_iff]

theorem checkedPhase_present : checkedPhase s sh r f k = some .present ↔ isCounted s sh r f k := by
  unfold checkedPhase isCounted
  split
  · have := (isOperation_iff.mp ‹_›).2
    simp [this]
  · have hno := mt isOperation_iff.mpr ‹_›
    rw [phaseResult_present]
    exact ⟨fun h => ⟨h, fun hs => hno ⟨h, hs⟩⟩, fun h => h.1⟩

theorem checkedPhase_absent : checkedPhase s sh r f k = some .absent ↔ isJudged s sh r k ∧ ¬ isFound s sh r k := by
  unfold checkedPhase
  split
  · have := (isOperation_iff.mp ‹_›).1
    simp [this]
  · exact phaseResult_absent

theorem any_counted : (allPhases.any fun k => checkedPhase s sh r f k == some .present) = true ↔ ∃ k, isCounted s sh r f k := by
  simp only [any_allPhases, beq_iff_eq, checkedPhase_present]

theorem any_notFound : (allPhases.any fun k => checkedPhase s sh r f k == some .absent) = true ↔
    ∃ k, isJudged s sh r k ∧ ¬ isFound s sh r k := by
  simp only [any_allPhases, beq_iff_eq, checkedPhase_absent]

theorem openResult_present : openResult s sh r f = .present ↔ ∃ k, isCounted s sh r f k := by
  unfold openResult
  rw [← any_counted]
  split
  · simp [*]
  · split <;> simp [*]

theorem openResult_absent : openResult s sh r f = .absent ↔
    (¬ ∃ k, isCounted s sh r f k) ∧ ∃ k, isJudged s sh r k ∧ ¬ isFound s sh r k := by
  unfold openResult
  rw [← any_counted, ← any_notFound (f := f)]
  split
  · simp [*]
  · split <;> simp [*]

/-- An operated phase leaves the operated set (R85). -/
def leavesOperated (s : State) (sh : List Nat) (r : SegRec) (k : Phase) : Prop := phaseLive s r.up k ∧
  ((r.down = [] ∧ ∃ x, phaseReport s r.up k = some x ∧ (selectedProfile s).iDead < x.i) ∨
    ((∃ d, takesPart s sh r d k) ∧ ∀ d, takesPart s sh r d k → phaseLive s d k))

theorem isReleased_iff (hblind : r.up ∉ r.excluded) : isReleased s sh r k = true ↔ leavesOperated s sh r k := by
  unfold isReleased leavesOperated
  rw [Bool.and_eq_true, liveAt_iff]
  refine and_congr_right fun _ => ?_
  by_cases hleaf : r.down = []
  · rw [if_pos (isLeaf_iff.mpr hleaf)]
    cases phaseReport s r.up k <;> simp [hleaf, hblind, not_takesPart_of_leaf hleaf]
  · rw [if_neg (mt isLeaf_iff.mp hleaf), exists_takesPart]
    simp [hleaf, mem_participants, liveAt_iff]

end
end Sys2Proof.Machine
end

section
namespace Sys2Proof.Machine

/-! ### The contact test (R69 to R71, R86) -/

section
variable {s : State} {sh : List Nat} {r : SegRec} {d : Nat}

/-- What downstream sensor d takes off the leak (R69). -/
def leakShare (s : State) (sh : List Nat) (r : SegRec) (d : Nat) : Nat :=
  if d ∈ sh ∨ d ∈ r.excluded then 0 else (increment s d).getD 0

/-- A downstream sensor that is not shadowed gives no increment (R69). -/
def isCoarse (s : State) (sh : List Nat) (r : SegRec) : Prop := ∃ d ∈ r.down, d ∉ sh ∧ (d ∈ r.excluded ∨ increment s d = none)

theorem contribution_share : (contribution s sh r d).1 = leakShare s sh r d := by
  by_cases hs : d ∈ sh
  · simp [contribution, leakShare, hs]
  · by_cases he : d ∈ r.excluded
    · simp [contribution, leakShare, hs, he]
    · cases hi : increment s d <;> simp [contribution, leakShare, hs, he, hi]

theorem contribution_coarse : (contribution s sh r d).2 = true ↔ d ∉ sh ∧ (d ∈ r.excluded ∨ increment s d = none) := by
  by_cases hs : d ∈ sh
  · simp [contribution, hs]
  · by_cases he : d ∈ r.excluded
    · simp [contribution, hs, he]
    · cases hi : increment s d <;> simp [contribution, hs, he, hi]

theorem foldl_sum_or {c : Nat → Nat × Bool} (l : List Nat) (acc : Nat × Bool) :
    l.foldl (fun acc d => (acc.1 + (c d).1, acc.2 || (c d).2)) acc =
      (acc.1 + (l.map fun d => (c d).1).sum, acc.2 || l.any fun d => (c d).2) := by
  induction l generalizing acc with
  | nil => simp
  | cons d l ih => simp [ih, Nat.add_assoc, Bool.or_assoc]

theorem leakSum_eq : leakSum s sh r = ((r.down.map (leakShare s sh r)).sum, r.down.any fun d => (contribution s sh r d).2) := by
  refine (foldl_sum_or r.down (0, false)).trans ?_
  simp only [contribution_share, Nat.zero_add, Bool.false_or]

theorem leakSum_coarse : (leakSum s sh r).2 = true ↔ isCoarse s sh r := by
  rw [leakSum_eq]
  simp only [List.any_eq_true, contribution_coarse, isCoarse]

/-- The ring holds the last eight leaks (R70). -/
theorem appendLeak_eq (ring : List Nat) (leak : Nat) : appendLeak ring leak = (ring ++ [leak]).drop (ring.length + 1 - 8) := by
  unfold appendLeak
  split
  · rw [Nat.sub_eq_zero_of_le (by omega), List.drop_zero]
  · rw [List.drop_append_of_le_length (by omega)]
    congr 1

theorem contactInput_seeing (hblind : r.up ∉ r.excluded) : contactInput s r = increment s r.up := by
  simp [contactInput, isBlind, hblind]

theorem contactTest_none (hblind : r.up ∉ r.excluded) (h : increment s r.up = none) :
    contactTest s sh r = (r.leakRing, .notPerformed, false, none) := by
  rw [contactTest, contactInput_seeing hblind, h]

/-- The leak of a segment whose upstream sensor has the increment x (R69). -/
def leakOf (s : State) (sh : List Nat) (r : SegRec) (x : Nat) : Nat := x - (r.down.map (leakShare s sh r)).sum

theorem contactTest_some {x : Nat} (hblind : r.up ∉ r.excluded) (h : increment s r.up = some x) : contactTest s sh r =
    (appendLeak r.leakRing (leakOf s sh r x), if (selectedProfile s).leakPickup ≤ leakOf s sh r x then .present else .absent,
      (leakSum s sh r).2, some (arcScore (appendLeak r.leakRing (leakOf s sh r x)))) := by
  rw [contactTest, contactInput_seeing hblind, h, leakOf, leakSum_eq]

end
end Sys2Proof.Machine
end

section
namespace Sys2Proof.Machine

/-! ### A segment after stage 2 (R80, R84, R85, R87) -/

section
variable {s : State} {sh : List Nat} {r : SegRec} {f : FrameNo}

theorem testedRecord_eq (s : State) (sh : List Nat) (f : FrameNo) (r : SegRec) : testedRecord s sh f r = { r with
    openCount := (testedRecord s sh f r).openCount, contactCount := (testedRecord s sh f r).contactCount
    leakRing := (testedRecord s sh f r).leakRing, operated := (testedRecord s sh f r).operated
    suspect := (testedRecord s sh f r).suspect, deadline := (testedRecord s sh f r).deadline
    deadlinePassed := (testedRecord s sh f r).deadlinePassed } := by
  unfold testedRecord
  dsimp only
  split <;> rfl

theorem testedRecord_openCount : (testedRecord s sh f r).openCount = countAfter 15 r.openCount (openResult s sh r f) := by
  unfold testedRecord
  dsimp only
  split <;> rfl

theorem testedRecord_contactCount : (testedRecord s sh f r).contactCount = countAfter 63 r.contactCount (contactTest s sh r).2.1 := by
  unfold testedRecord
  dsimp only
  split <;> rfl

theorem testedRecord_leakRing : (testedRecord s sh f r).leakRing = (contactTest s sh r).1 := by
  unfold testedRecord
  dsimp only
  split <;> rfl

theorem perPhase_operated (hblind : r.up ∉ r.excluded) (k : Phase) : perPhase (testedRecord s sh f r).operated k = true ↔
    (perPhase r.operated k = true ∨ (isFound s sh r k ∧ ∃ g, surgedIn s r f k g)) ∧ ¬ leavesOperated s sh r k := by
  have hset : (testedRecord s sh f r).operated =
      ofPhases fun p => perPhase (ofPhases fun q => perPhase r.operated q || isOperation s sh r f q) p && !isReleased s sh r p := by
    unfold testedRecord
    dsimp only
    split <;> rfl
  rw [hset, ← isOperation_iff, ← isReleased_iff hblind]
  simp

theorem testedRecord_normal (h : r.state ≠ .suspect) : (testedRecord s sh f r).suspect = r.suspect ∧
    (testedRecord s sh f r).deadline = r.deadline ∧ (testedRecord s sh f r).deadlinePassed = r.deadlinePassed := by
  unfold testedRecord
  dsimp only
  rw [if_neg h]
  exact ⟨rfl, rfl, rfl⟩

/-- In SUSPECT the details follow the outcomes; with no open count the timer and its mark are cleared (R87, R97, R98). -/
theorem testedRecord_suspect (h : r.state = .suspect) :
    (testedRecord s sh f r).suspect = r.suspect.map (updateDetails (isLeaf r) (segmentWork s sh f r) (testedRecord s sh f r).openCount
      (testedRecord s sh f r).contactCount) ∧
    (testedRecord s sh f r).deadline = (if (testedRecord s sh f r).openCount = 0 then none else r.deadline) ∧
    (testedRecord s sh f r).deadlinePassed = if (testedRecord s sh f r).openCount = 0 then false else r.deadlinePassed := by
  rw [testedRecord_openCount, testedRecord_contactCount]
  unfold testedRecord
  dsimp only
  rw [if_pos h]
  exact ⟨rfl, rfl, rfl⟩

theorem segmentWork_openResult : (segmentWork s sh f r).openResult = openResult s sh r f := rfl

theorem segmentWork_contact : (segmentWork s sh f r).contactResult = (contactTest s sh r).2.1 ∧
    (segmentWork s sh f r).coarse = (contactTest s sh r).2.2.1 ∧ (segmentWork s sh f r).arc = (contactTest s sh r).2.2.2 := ⟨rfl, rfl, rfl⟩

theorem segmentWork_openPhases (k : Phase) : perPhase (segmentWork s sh f r).openPhases k = true ↔ isCounted s sh r f k := by
  rw [segmentWork]
  simp [checkedPhase_present]

theorem segmentWork_backfed : (segmentWork s sh f r).backfed = true ↔
    ∃ k d, isCounted s sh r f k ∧ takesPart s sh r d k ∧ phaseBackfed s r.phases d k := by
  have hdef : (segmentWork s sh f r).backfed = (phasesIn (segmentWork s sh f r).openPhases).any fun k =>
      (participants s sh r k).any fun d => backfedAt s r.phases d k := rfl
  rw [hdef]
  simp only [List.any_eq_true, phasesIn, List.mem_filter, mem_allPhases, true_and, segmentWork_openPhases, mem_participants, backfedAt_iff]
  exact exists_congr fun k => ⟨fun ⟨hk, d, h⟩ => ⟨d, hk, h⟩, fun ⟨d, hk, h⟩ => ⟨hk, d, h⟩⟩

theorem segmentWork_firstOpen : (segmentWork s sh f r).firstOpen = true ↔ r.openCount = 0 ∧ 0 < (testedRecord s sh f r).openCount := by
  rw [testedRecord_openCount, segmentWork]
  simp [Nat.one_le_iff_ne_zero, Nat.pos_iff_ne_zero]

/-- One notice for each protective operation (R84). -/
theorem mem_operationNotices {n : Nat} {b : NoticeBody} : b ∈ operationNotices s sh f n r ↔
    ∃ k g, (isFound s sh r k ∧ ∃ h, surgedIn s r f k h) ∧ surgedIn s r f k g ∧ b = .protectiveOperation n k g := by
  unfold operationNotices
  simp only [List.mem_filterMap, mem_allPhases, true_and]
  refine exists_congr fun k => ?_
  by_cases ho : isOperation s sh r f k = true
  · obtain ⟨hfound, hsurge⟩ := isOperation_iff.mp ho
    simp only [ho, if_true, Option.map_eq_some_iff, recentSurge_iff, hfound, hsurge, true_and]
    exact exists_congr fun g => and_congr_right fun _ => eq_comm
  · have hno := mt isOperation_iff.mpr ho
    simp only [if_neg ho, hno, false_and, exists_false, reduceCtorEq]

/-- With no open count the open details are cleared (R87). -/
theorem updateDetails_closed {leaf : Bool} {w : SegWork} {c : Nat} {d : SuspectDetails} :
    (updateDetails leaf w 0 c d).openPhases = noPhases ∧ (updateDetails leaf w 0 c d).backfed = false ∧
    (updateDetails leaf w 0 c d).loadLoss = false := by
  unfold updateDetails
  rw [if_pos rfl]
  split <;> exact ⟨rfl, rfl, rfl⟩

theorem updateDetails_first {leaf : Bool} {w : SegWork} {o c : Nat} {d : SuspectDetails} : (updateDetails leaf w o c d).first = d.first := by
  unfold updateDetails
  split <;> split <;> rfl

/-- With an open count the open details take in the outcomes (R87). -/
theorem updateDetails_open {leaf : Bool} {w : SegWork} {o c : Nat} {d : SuspectDetails} (h : o ≠ 0) :
    (updateDetails leaf w o c d).openPhases = phaseUnion d.openPhases w.openPhases ∧
    (updateDetails leaf w o c d).backfed = (d.backfed || w.backfed) ∧
    (updateDetails leaf w o c d).loadLoss = (d.loadLoss || (leaf && w.openResult == .present)) := by
  unfold updateDetails
  rw [if_neg h]
  split <;> exact ⟨rfl, rfl, rfl⟩

theorem updateDetails_coarse {leaf : Bool} {w : SegWork} {o c : Nat} {d : SuspectDetails} : (updateDetails leaf w o c d).coarse =
    if c = 0 then false else d.coarse || (w.contactResult == .present && w.coarse) := by
  unfold updateDetails
  split <;> split <;> rfl

end
end Sys2Proof.Machine
end

section
namespace Sys2Proof.Machine

/-! ### Stage 2 over the segments (R75, R79) -/

section
variable {s t : State} {p q : Pass} {n : Nat} {r : SegRec} {l : List Nat}

/-- The record that stage 2 works on at number n, where it works on one (R79). -/
def testedAt (s : State) (n : Nat) : Option SegRec := (segmentAt s n).filter testedState

theorem testedAt_iff : testedAt s n = some r ↔ segmentAt s n = some r ∧ testedState r = true := by
  simp [testedAt, Option.filter_eq_some_iff]

theorem testedState_iff : testedState r = true ↔ (r.state = .normal ∨ r.state = .suspect) ∧ r.up ∉ r.excluded := by
  simp [testedState, isBlind]

/-- What stage 2 finds and leaves of a segment reads neither the Segment Table nor the pass. -/
theorem stage2_measures (h : t = { s with segments := t.segments, pass := t.pass }) (sh : List Nat) (f : FrameNo) (n : Nat) (r : SegRec) :
    testedRecord t sh f r = testedRecord s sh f r ∧ segmentWork t sh f r = segmentWork s sh f r ∧
      operationNotices t sh f n r = operationNotices s sh f n r := by
  rw [h]
  exact ⟨rfl, rfl, rfl⟩

theorem stage2Segment_idle (hclean : readsClean s) (h : testedAt s n = none) : stage2Segment n s = s := by
  unfold stage2Segment
  rw [readSegment_noError (hclean.2 n)]
  dsimp only
  split
  · rename_i p r _ hr
    exact if_neg fun ht => by simp [testedAt_iff.mpr ⟨hr, ht⟩] at h
  · rfl

/-- The pass with a segment's outcomes kept and its notices queued. -/
def withWork (s : State) (n : Nat) (r : SegRec) (p : Pass) : Pass := { p with
  work := setRow p.work n (segmentWork s p.shadowed p.frame r)
  segmentNotices := setRow p.segmentNotices n ((rowAt p.segmentNotices n).getD [] ++ operationNotices s p.shadowed p.frame n r) }

theorem stage2Segment_tested (hclean : readsClean s) (hp : s.pass = some p) (h : testedAt s n = some r) : stage2Segment n s =
    { writeSegment n (testedRecord s p.shadowed p.frame r) s with pass := some (withWork s n r p) } := by
  obtain ⟨hr, ht⟩ := testedAt_iff.mp h
  unfold stage2Segment
  rw [readSegment_noError (hclean.2 n)]
  dsimp only
  rw [hp, hr]
  dsimp only
  rw [if_pos ht]
  simp [queueSegmentNotices, modifyPass, writeSegment, hp, withWork]

/-- What stage 2 makes of a state and its pass p on a list of segments. -/
structure Worked (s : State) (p : Pass) (l : List Nat) (t : State) (q : Pass) : Prop where
  rest : t = { s with segments := t.segments, pass := t.pass }
  pass : t.pass = some q
  passRest : q = { p with work := q.work, segmentNotices := q.segmentNotices }
  kept : ∀ n, n ∉ l ∨ testedAt s n = none → rowAt t.segments n = rowAt s.segments n ∧ rowAt q.work n = rowAt p.work n ∧
    rowAt q.segmentNotices n = rowAt p.segmentNotices n
  tested : ∀ n r, n ∈ l → testedAt s n = some r → rowAt t.segments n = some (.live (testedRecord s p.shadowed p.frame r)) ∧
    rowAt q.work n = some (segmentWork s p.shadowed p.frame r) ∧
    (rowAt q.segmentNotices n).getD [] = (rowAt p.segmentNotices n).getD [] ++ operationNotices s p.shadowed p.frame n r

theorem Worked.nil (hp : s.pass = some p) : Worked s p [] s p :=
  ⟨rfl, hp, rfl, fun _ _ => ⟨rfl, rfl, rfl⟩, fun _ _ h => nomatch h⟩

theorem testedRecord_err (s : State) (sh : List Nat) (f : FrameNo) (r : SegRec) : (testedRecord s sh f r).err = r.err := by
  rw [testedRecord_eq]

theorem Worked.readsClean (h : Worked s p l t q) (hclean : readsClean s) : readsClean t := by
  refine ⟨fun d r hr => hclean.1 d r ?_, fun n g hg => ?_⟩
  · rw [h.rest] at hr
    exact hr
  · rw [segmentAt_row] at hg
    by_cases hn : n ∉ l ∨ testedAt s n = none
    · exact hclean.2 n g (segmentAt_row.mpr ((h.kept n hn).1.symm.trans hg))
    · rw [not_or, not_not] at hn
      obtain ⟨r, hr⟩ := Option.ne_none_iff_exists'.mp hn.2
      rw [(h.tested n r hn.1 hr).1] at hg
      cases hg
      rw [testedRecord_err]
      exact hclean.2 n r (testedAt_iff.mp hr).1

/-- One segment more. -/
theorem Worked.step (hclean : Machine.readsClean s) (hn : n ∉ l) (h : Worked s p l t q) :
    ∃ q', Worked s p (l ++ [n]) (stage2Segment n t) q' := by
  have hat : testedAt t n = testedAt s n := by
    rw [testedAt, testedAt, segmentAt_of_row (h.kept n (.inl hn)).1]
  have hold {m : Nat} (hm : m ∈ l ++ [n]) : m ∈ l ∨ m = n := by simpa using hm
  have hkeep {m : Nat} (hm : m ∉ l ++ [n] ∨ testedAt s m = none) : m ∉ l ∨ testedAt s m = none :=
    hm.imp_left fun hm hml => hm (by simp [hml])
  cases hr : testedAt s n with
  | none =>
    rw [stage2Segment_idle (h.readsClean hclean) (hat.trans hr)]
    refine ⟨q, h.rest, h.pass, h.passRest, fun m hm => h.kept m (hkeep hm), fun m g hm hg => ?_⟩
    rcases hold hm with hm | rfl
    · exact h.tested m g hm hg
    · rw [hr] at hg
      cases hg
  | some r =>
    have hsh : q.shadowed = p.shadowed := by rw [h.passRest]
    have hframe : q.frame = p.frame := by rw [h.passRest]
    obtain ⟨hrecord, hwork, hnotices⟩ := stage2_measures h.rest p.shadowed p.frame n r
    obtain ⟨-, hworkRow, hnoticeRow⟩ := h.kept n (.inl hn)
    have herr : (testedRecord s p.shadowed p.frame r).err = 0 := (testedRecord_err ..).trans (hclean.2 n r (testedAt_iff.mp hr).1)
    have hpass : withWork t n r q = { p with
        work := setRow q.work n (segmentWork s p.shadowed p.frame r)
        segmentNotices := setRow q.segmentNotices n
          ((rowAt p.segmentNotices n).getD [] ++ operationNotices s p.shadowed p.frame n r) } := by
      rw [withWork, hsh, hframe, hwork, hnotices, hnoticeRow, h.passRest]
    have hsegments (m : Nat) : rowAt (writeSegment n (testedRecord s p.shadowed p.frame r) t).segments m =
        if m = n then some (.live (testedRecord s p.shadowed p.frame r)) else rowAt t.segments m := by
      rw [writeSegment, rowAt_setRow, ← herr]
    rw [stage2Segment_tested (h.readsClean hclean) h.pass (hat.trans hr), hsh, hframe, hrecord, hpass]
    refine ⟨_, by rw [h.rest]; rfl, rfl, rfl, fun m hm => ?_, fun m g hm hg => ?_⟩
    · have hmn : m ≠ n := by
        rintro rfl
        simp [hr] at hm
      have hrows := h.kept m (hkeep hm)
      exact ⟨(hsegments m).trans ((if_neg hmn).trans hrows.1), (rowAt_setRow_ne _ _ hmn).trans hrows.2.1,
        (rowAt_setRow_ne _ _ hmn).trans hrows.2.2⟩
    · rcases hold hm with hm | rfl
      · have hmn : m ≠ n := fun h => hn (h ▸ hm)
        have hrows := h.tested m g hm hg
        refine ⟨(hsegments m).trans ((if_neg hmn).trans hrows.1), (rowAt_setRow_ne _ _ hmn).trans hrows.2.1, ?_⟩
        rw [rowAt_setRow_ne _ _ hmn]
        exact hrows.2.2
      · rw [hr] at hg
        cases hg
        refine ⟨(hsegments m).trans (if_pos rfl), rowAt_setRow_self .., ?_⟩
        rw [rowAt_setRow_self, Option.getD_some]

theorem forEach_worked (hclean : readsClean s) (hp : s.pass = some p) (hnd : l.Nodup) : ∃ q, Worked s p l (forEach l stage2Segment s) q := by
  induction l using List.reverseRecOn with
  | nil => exact ⟨p, Worked.nil hp⟩
  | append_singleton l n ih =>
    obtain ⟨hl, -, hn⟩ := List.nodup_append.mp hnd
    obtain ⟨q, hq⟩ := ih hl
    rw [forEach_snoc]
    exact hq.step hclean fun h => hn n h n (by simp) rfl

/-- The urgency source reads of the segments their states alone, which stage 2 keeps (R148). -/
theorem Worked.urgencySource (h : Worked s p l t q) : urgencySource t = urgencySource s := by
  refine urgencySource_same (by rw [h.rest]) (fun n _ => ?_) fun x _ => ?_
  · by_cases hn : n ∉ l ∨ testedAt s n = none
    · rw [segmentUrgent, segmentUrgent, segmentAt_of_row (h.kept n hn).1]
    · rw [not_or, not_not] at hn
      obtain ⟨r, hr⟩ := Option.ne_none_iff_exists'.mp hn.2
      rw [segmentUrgent, segmentUrgent, segmentAt_row.mpr (h.tested n r hn.1 hr).1, (testedAt_iff.mp hr).1]
      dsimp only
      rw [testedRecord_state]
  · rw [isTripping, isTripping, interrupterAt_congr (s := s) (by rw [h.rest])]

end
end Sys2Proof.Machine
end

section
namespace Sys2Proof.Machine

/-! ### The counts, the leak ring and the suspect details after stage 2 (R69, R70, R80, R87) -/

section
variable {s : State} {sh : List Nat} {r : SegRec} {f : FrameNo}

/-- The open test is PRESENT, and ABSENT (R82, R83). -/
def isPresent (s : State) (sh : List Nat) (f : FrameNo) (r : SegRec) : Prop := ∃ k, isCounted s sh r f k

def isAbsent (s : State) (sh : List Nat) (f : FrameNo) (r : SegRec) : Prop :=
  ¬ isPresent s sh f r ∧ ∃ k, isJudged s sh r k ∧ ¬ isFound s sh r k

/-- The open count follows the outcome (R80). -/
theorem openCount_follows :
    (isPresent s sh f r → (testedRecord s sh f r).openCount = min (r.openCount + 1) 15 ∧ (segmentWork s sh f r).openResult = .present) ∧
    (isAbsent s sh f r → (testedRecord s sh f r).openCount = 0 ∧ (segmentWork s sh f r).openResult = .absent) ∧
    (¬ isPresent s sh f r → ¬ isAbsent s sh f r →
      (testedRecord s sh f r).openCount = r.openCount ∧ (segmentWork s sh f r).openResult = .notPerformed) := by
  rw [testedRecord_openCount, segmentWork_openResult, isAbsent, isPresent, ← openResult_absent, ← openResult_present]
  cases openResult s sh r f <;> simp [countAfter, satSucc]

/-- Without an increment upstream the contact test is not performed (R69, R80). -/
theorem contact_notPerformed (hblind : r.up ∉ r.excluded) (h : increment s r.up = none) :
    (testedRecord s sh f r).leakRing = r.leakRing ∧ (testedRecord s sh f r).contactCount = r.contactCount ∧
    (segmentWork s sh f r).contactResult = .notPerformed ∧ (segmentWork s sh f r).arc = none := by
  obtain ⟨hresult, -, harc⟩ := segmentWork_contact (s := s) (sh := sh) (r := r) (f := f)
  rw [testedRecord_leakRing, testedRecord_contactCount, hresult, harc, contactTest_none hblind h]
  exact ⟨rfl, rfl, rfl, rfl⟩

/-- With one the leak joins the ring, and is PRESENT at LEAK_PICKUP (R69, R70, R80, R86). -/
theorem contact_performed {x : Nat} (hblind : r.up ∉ r.excluded) (h : increment s r.up = some x) :
    (testedRecord s sh f r).leakRing = (r.leakRing ++ [leakOf s sh r x]).drop (r.leakRing.length + 1 - 8) ∧
    (segmentWork s sh f r).arc = some (arcScore (testedRecord s sh f r).leakRing) ∧
    ((segmentWork s sh f r).coarse = true ↔ isCoarse s sh r) ∧
    ((selectedProfile s).leakPickup ≤ leakOf s sh r x →
      (testedRecord s sh f r).contactCount = min (r.contactCount + 1) 63 ∧ (segmentWork s sh f r).contactResult = .present) ∧
    (leakOf s sh r x < (selectedProfile s).leakPickup →
      (testedRecord s sh f r).contactCount = 0 ∧ (segmentWork s sh f r).contactResult = .absent) := by
  obtain ⟨hresult, hcoarse, harc⟩ := segmentWork_contact (s := s) (sh := sh) (r := r) (f := f)
  rw [testedRecord_leakRing, testedRecord_contactCount, hresult, hcoarse, harc, contactTest_some hblind h]
  refine ⟨appendLeak_eq .., rfl, leakSum_coarse, fun hle => ?_, fun hlt => ?_⟩
  · dsimp only
    rw [if_pos hle]
    exact ⟨rfl, rfl⟩
  · dsimp only
    rw [if_neg (Nat.not_le.mpr hlt)]
    exact ⟨rfl, rfl⟩

/-- The coarse flag counts only where the contact test is PRESENT, so was performed (R69, R87). -/
theorem coarse_present (hblind : r.up ∉ r.excluded) :
    ((segmentWork s sh f r).contactResult == .present && (segmentWork s sh f r).coarse) = true ↔
      (segmentWork s sh f r).contactResult = .present ∧ isCoarse s sh r := by
  rw [Bool.and_eq_true, beq_iff_eq]
  refine and_congr_right fun hpresent => ?_
  cases h : increment s r.up with
  | none =>
    rw [(contact_notPerformed hblind h).2.2.1] at hpresent
    cases hpresent
  | some x => exact (contact_performed hblind h).2.2.1

/-- The suspect details of a segment in SUSPECT (R87, R97, R98). -/
theorem details_follow (hblind : r.up ∉ r.excluded) (hst : r.state = .suspect) {d : SuspectDetails} (hd : r.suspect = some d) :
    let g := testedRecord s sh f r
    let w := segmentWork s sh f r
    ∃ e, g.suspect = some e ∧ e.first = d.first ∧
      (g.openCount = 0 → e.openPhases = noPhases ∧ e.backfed = false ∧ e.loadLoss = false) ∧
      (g.openCount ≠ 0 → (∀ k, perPhase e.openPhases k = true ↔ perPhase d.openPhases k = true ∨ isCounted s sh r f k) ∧
        e.backfed = (d.backfed || w.backfed) ∧ (e.loadLoss = true ↔ d.loadLoss = true ∨ (r.down = [] ∧ isPresent s sh f r))) ∧
      (g.contactCount = 0 → e.coarse = false) ∧
      (g.contactCount ≠ 0 → (e.coarse = true ↔ d.coarse = true ∨ (w.contactResult = .present ∧ isCoarse s sh r))) := by
  intro g w
  have hdetails : g.suspect = some (updateDetails (isLeaf r) w g.openCount g.contactCount d) := by
    rw [(testedRecord_suspect hst).1, hd, Option.map_some]
  refine ⟨_, hdetails, updateDetails_first, fun hclosed => ?_, fun hopen => ?_, fun hnone => ?_, fun hsome => ?_⟩
  · rw [hclosed]
    exact updateDetails_closed
  · obtain ⟨hphases, hbackfed, hloss⟩ := updateDetails_open (leaf := isLeaf r) (w := w) (c := g.contactCount) (d := d) hopen
    refine ⟨fun k => ?_, hbackfed, ?_⟩
    · rw [hphases, phaseUnion, perPhase_ofPhases, Bool.or_eq_true, segmentWork_openPhases]
    · rw [hloss, Bool.or_eq_true, Bool.and_eq_true, isLeaf_iff, beq_iff_eq, segmentWork_openResult, openResult_present, isPresent]
  · rw [updateDetails_coarse, if_pos hnone]
  · rw [updateDetails_coarse, if_neg hsome, Bool.or_eq_true, coarse_present hblind]

end

/-- Settles O50: the outcomes of each test as the model finds them, over the segments one by one (`forEach_worked`). -/
theorem passStage2MovesCounts : Obligations.PassStage2MovesCounts := by
  intro p s hheld hclean hpass hstage limits vOpen live collapsed backfed takesPart' loaded tested judged found surge operation counted
    present absent released' share coarse
  obtain ⟨q, hq⟩ : ∃ q, Worked s p allSegments (stage2 s) q :=
    forEach_worked ⟨fun d r => clean_sensor hclean, fun n r => clean_segment hclean⟩ hpass nodup_allSegments
  have hexec : exec .passStage2 s = .next (goTo .three (stage2 s)) :=
    exec_stage (fun _ => rfl) hheld hpass hstage (by rw [hq.rest]) hq.urgencySource
  generalize stage2 s = u at hq hexec
  refine ⟨goTo .three u, { q with stage := .three }, hexec, ?_, ?_, ?_, fun n hn => hq.kept n ?_, fun n r hn hr => ⟨fun hidle => ?_,
    fun hstate hblind => ?_⟩⟩
  · rw [goTo, modifyPass, hq.pass]
    rfl
  · rw [hq.passRest]
  · rw [goTo, modifyPass, hq.rest]
  · refine hn.imp (fun hn h => Nat.not_lt.mpr hn (mem_allSegments.mp h)) fun h => ?_
    rw [testedAt, h]
    rfl
  · have hrows := hq.kept n (.inr (by
      refine Option.eq_none_iff_forall_ne_some.mpr fun g hg => ?_
      obtain ⟨hgr, hg⟩ := testedAt_iff.mp hg
      obtain rfl : g = r := Option.some.inj (hgr.symm.trans hr)
      obtain ⟨hstate, hblind⟩ := testedState_iff.mp hg
      exact hidle.elim (fun h => hstate.elim h.1 h.2) hblind))
    rw [segmentAt_row.mp hr] at hrows
    exact hrows
  · have htested : testedAt s n = some r := testedAt_iff.mpr ⟨hr, testedState_iff.mpr ⟨hstate, hblind⟩⟩
    obtain ⟨hsegment, hwork, hnotices⟩ := hq.tested n r (mem_allSegments.mpr hn) htested
    obtain ⟨hpresent, habsent, hheldCount⟩ := openCount_follows (s := s) (sh := p.shadowed) (f := p.frame) (r := r)
    refine ⟨_, _, _, hsegment, hwork, hnotices, fun b => mem_operationNotices, testedRecord_eq .., hpresent, habsent, hheldCount,
      segmentWork_openPhases, segmentWork_backfed, segmentWork_firstOpen, perPhase_operated hblind, contact_notPerformed hblind,
      fun x hx => contact_performed hblind hx, fun hnormal => testedRecord_normal (by rw [hnormal]; decide), fun hsuspect => ?_⟩
    obtain ⟨-, hdeadline, hmark⟩ := testedRecord_suspect (s := s) (sh := p.shadowed) (f := p.frame) hsuspect
    refine ⟨fun hclosed => ?_, fun hopen => ?_, fun d hd => details_follow hblind hsuspect hd⟩
    · rw [hdeadline, hmark, if_pos hclosed, if_pos hclosed]
      exact ⟨rfl, rfl⟩
    · rw [hdeadline, hmark, if_neg hopen, if_neg hopen]
      exact ⟨rfl, rfl⟩

end Sys2Proof.Machine
end

section
namespace Sys2Proof.Machine

/-! ### SET_PROFILE, SET_INHIBIT and the INHIBIT input (R105, R140) -/

theorem act_setProfile (b : Byte) (s : State) : act (.setProfile b) s = takeSetProfile (profileOfByte b) s := rfl

theorem act_setInhibit (b : Byte) (s : State) : act (.setInhibit b) s = takeSetInhibit (b == 1) s := rfl

/-- SET_PROFILE of a good code, taken at once (R105). -/
theorem exec_setProfile {b : Byte} {s : State} (hf : fieldFault (.setProfile b) = none) (hready : ready s = true) (hpass : s.pass = none)
    (hs : inService s = true) : exec (.setProfile b) s =
      .next (answered 7 (okWith []) { s with mc := { s.mc with profile := profileOfByte b } }) :=
  exec_taken (r := .setProfile b) rfl hready (not_delayed hpass) hs rfl hf (act_setProfile b _) (follow_okWith _) rfl
    (urgencySource_congr rfl rfl rfl)

/-- The three flags that SET_INHIBIT answers (R140). -/
def inhibitFields (value pin : Bool) : List Byte := [if value then 1 else 0, if pin then 1 else 0, if pin || value then 1 else 0]

theorem flags_eq (value pin : Bool) : flag value ++ flag pin ++ flag (pin || value) = inhibitFields value pin := by
  revert value pin
  decide

/-- SET_INHIBIT of a good code, taken at once (R140). -/
theorem exec_setInhibit {b : Byte} {s : State} (hf : fieldFault (.setInhibit b) = none) (hready : ready s = true)
    (hs : inService s = true) : exec (.setInhibit b) s =
      .next (answered 9 (okWith (inhibitFields (b == 1) s.inhibitPin)) { s with mc := { s.mc with inhibitFlag := b == 1 } }) := by
  refine exec_taken (r := .setInhibit b) rfl hready rfl hs rfl hf ?_ (follow_okWith _) rfl (urgencySource_congr rfl rfl rfl)
  rw [act_setInhibit, ← flags_eq]
  rfl

/-- Settles O9: each code of the two requests writes its value, and the flags answered are read after the write. -/
theorem profileAndInhibitFollowTheirRequests : Obligations.ProfileAndInhibitFollowTheirRequests := by
  refine ⟨fun s hready hpass hs => ⟨exec_setProfile rfl hready hpass hs, exec_setProfile rfl hready hpass hs⟩,
    fun s hready hs => ⟨?_, ?_⟩, fun b s hheld => exec_event (fun _ => rfl) rfl (noneHeld_iff.mp hheld), fun s => rfl⟩
  · rw [exec_setInhibit rfl hready hs]
    simp [inhibitFields]
  · rw [exec_setInhibit rfl hready hs]
    simp [inhibitFields]

/-! ### SET_PARAMS with BASE_SHIFT kept (R106) -/

/-- Settles O10: each pair writes its parameter (`getParam_withPairs_named`), and no learn count is adjusted. -/
theorem setParamsWritesTheNamedParameters : Obligations.SetParamsWritesTheNamedParameters := by
  intro pairs s hready hpass hs hf
  obtain ⟨hnd, -⟩ := nodup_of_checks fun c hc => firstBad_none.mp hf c (List.mem_cons_of_mem _ hc)
  refine ⟨withPairs pairs s.params, fun q hq p hp => getParam_withPairs_named hnd hq hp, fun p hp => getParam_withPairs_other hp,
    fun hkept => exec_taken (r := .setParams pairs) rfl hready (not_delayed hpass) hs rfl hf ?_ (follow_okWith _) rfl
      (urgencySource_congr rfl rfl rfl)⟩
  rw [act_setParams, takeSetParams]
  exact if_pos hkept

end Sys2Proof.Machine
end

section
namespace Sys2Proof.Machine

/-! ### Requests that wait for the pass (R77, R168) -/

/-- While the executing request may not be taken, none is (R168). -/
theorem serve_waits {s : State} {p : Request} {rest : List Request} (hp : s.hl.requests = p :: rest) (hwait : takeable p s = false) :
    serve s = s := by
  rw [serve, hp, List.length_cons, serveUpTo, hp]
  exact if_neg (Bool.eq_false_iff.mp hwait)

/-- A delayed request is not taken while a pass is in flight (R77). -/
theorem takeable_delayed {s : State} {p : Request} (hp : isDelayed p = true) (hpass : s.pass.isSome = true) : takeable p s = false := by
  simp [takeable, hp, hpass]

theorem requestArrives_buffered {s : State} (h : lineIdle s = true) (r : Request) :
    requestArrives r s = buffer r (setRx .waitAddress s) := by
  obtain ⟨hread, hrx⟩ := lineIdle_iff.mp h
  rw [requestArrives, if_pos hread, dropOther_idle hrx]

/-- Where the request at the front of the buffer waits for the pass, an arriving one is buffered and nothing is taken (R168). -/
theorem exec_waits {i : Instr} {r p : Request} {s u : State} {rest : List Request} (hi : requestOf i = some r) (hidle : lineIdle s = true)
    (hbuffer : buffer r (setRx .waitAddress s) = u) (hheld : u.hl.requests = p :: rest) (hp : isDelayed p = true)
    (hpass : u.pass.isSome = true) : exec i s = .next u := by
  rw [exec_of_request hi, event, requestArrives_buffered hidle, hbuffer, serve_waits hheld (takeable_delayed hp hpass)]

theorem buffer_free {r : Request} {s : State} (h : s.hl.requests.length < 2) :
    buffer r s = { s with hl := { s.hl with requests := s.hl.requests ++ [r] } } := if_pos h

/-- With both places full the request is discarded (R168). -/
theorem buffer_full {r : Request} {s : State} (h : ¬ s.hl.requests.length < 2) :
    buffer r s = { s with hl := { s.hl with overrun := true }, cb := (latch .rxOverrunSeen (bump .linkOverrun s)).cb } := if_neg h

/-- Settles O4: the request at the front waits for the pass (`exec_waits`), so the buffer's places decide. -/
theorem requestBufferHoldsTwo : Obligations.RequestBufferHoldsTwo := by
  refine ⟨fun i r s hi hkind hready hpass => ?_, fun i r p s hi hidle hpass hp => ⟨fun hone => ?_, fun q htwo => ?_⟩⟩
  · obtain ⟨hnone, -, -, hidle, -⟩ := ready_iff.mp hready
    refine exec_waits hi hidle ?_ rfl (p := r) (by simpa [isDelayed, delayedKind] using hkind) hpass
    rw [buffer_free (by simp [setRx, hnone])]
    simp [setRx, hnone]
  · refine exec_waits hi hidle ?_ rfl hp hpass
    rw [buffer_free (by simp [setRx, hone])]
    simp [setRx, hone]
  · exact ⟨_, exec_waits hi hidle (buffer_full (by simp [setRx, htwo])) htwo hp hpass, rfl, fun c => bump_get .linkOverrun c s,
      fun c => latch_get .rxOverrunSeen c s, fun c => get_condsOf _ c, rfl, rfl⟩

end Sys2Proof.Machine
end

section
namespace Sys2Proof.Machine

/-! ### What stage 3 makes of one segment (R88, R90 to R96) -/

/-- A segment's record after stage 3, the class that confirms it, and the notices queued for it. -/
structure StageMove where
  record : SegRec
  confirmed : Option VerdictClass
  notices : List NoticeBody

/-- State t with pass q is state s with pass p but for segment n, moved as `o` says. -/
structure Moved (s : State) (p : Pass) (n : Nat) (o : StageMove) (t : State) (q : Pass) : Prop where
  rest : t = { s with segments := t.segments, pass := t.pass }
  pass : t.pass = some q
  passRest : q = { p with confirmed := q.confirmed, segmentNotices := q.segmentNotices }
  others : ∀ m, m ≠ n → rowAt t.segments m = rowAt s.segments m ∧ rowAt q.confirmed m = rowAt p.confirmed m ∧
    rowAt q.segmentNotices m = rowAt p.segmentNotices m
  record : rowAt t.segments n = some (.live o.record)
  confirmed : rowAt q.confirmed n = o.confirmed.or (rowAt p.confirmed n)
  notices : (rowAt q.segmentNotices n).getD [] = (rowAt p.segmentNotices n).getD [] ++ o.notices

section
variable {s t : State} {p q : Pass} {n : Nat} {r g : SegRec} {o : StageMove}

/-- The segment stays as it is. -/
def noMove (r : SegRec) : StageMove := ⟨r, none, []⟩

theorem Moved.none (hp : s.pass = some p) (hr : segmentAt s n = some r) : Moved s p n (noMove r) s p :=
  ⟨rfl, hp, rfl, fun _ _ => ⟨rfl, rfl, rfl⟩, segmentAt_row.mp hr, (Option.none_or).symm, (List.append_nil _).symm⟩

/-- Its record is written. -/
theorem Moved.write (h : Moved s p n o t q) (herr : g.err = 0) : Moved s p n { o with record := g } (writeSegment n g t) q := by
  have hrow := writeSegment_replaces (s := t) (n := n) herr
  refine { h with rest := ?_, others := fun m hm => ⟨?_, (h.others m hm).2⟩, record := ?_ }
  · rw [h.rest]
    rfl
  · rw [hrow, if_neg hm, (h.others m hm).1]
  · rw [hrow, if_pos rfl]

/-- Notices are queued for it (R96). -/
theorem Moved.queue (h : Moved s p n o t q) (bs : List NoticeBody) : Moved s p n { o with notices := o.notices ++ bs }
    (queueSegmentNotices n bs t) { q with segmentNotices := setRow q.segmentNotices n ((rowAt q.segmentNotices n).getD [] ++ bs) } := by
  have hpass : (queueSegmentNotices n bs t).pass =
      some { q with segmentNotices := setRow q.segmentNotices n ((rowAt q.segmentNotices n).getD [] ++ bs) } := by
    rw [queueSegmentNotices, modifyPass, h.pass, Option.map_some]
  refine { h with rest := ?_, pass := hpass, passRest := ?_, others := fun m hm => ?_, notices := ?_ }
  · rw [queueSegmentNotices, modifyPass, h.rest]
  · rw [h.passRest]
  · obtain ⟨hrow, hconfirmed, hnotices⟩ := h.others m hm
    exact ⟨hrow, hconfirmed, (rowAt_setRow_ne _ _ hm).trans hnotices⟩
  · rw [rowAt_setRow_self, Option.getD_some, h.notices, List.append_assoc]

/-- It is confirmed (R88). -/
theorem Moved.confirm (h : Moved s p n o t q) (k : VerdictClass) : Moved s p n { o with confirmed := some k }
    (modifyPass (fun q => { q with confirmed := setRow q.confirmed n k }) t) { q with confirmed := setRow q.confirmed n k } := by
  have hpass : (modifyPass (fun q => { q with confirmed := setRow q.confirmed n k }) t).pass =
      some { q with confirmed := setRow q.confirmed n k } := by
    rw [modifyPass, h.pass, Option.map_some]
  refine { h with rest := ?_, pass := hpass, passRest := ?_, others := fun m hm => ?_, confirmed := ?_ }
  · rw [modifyPass, h.rest]
  · rw [h.passRest]
  · obtain ⟨hrow, hconfirmed, hnotices⟩ := h.others m hm
    exact ⟨hrow, (rowAt_setRow_ne _ _ hm).trans hconfirmed, hnotices⟩
  · rw [rowAt_setRow_self, Option.some_or]

/-- A NORMAL segment with PRESENT evidence enters SUSPECT (R91). -/
def entersSuspect (w : SegWork) (r : SegRec) : Bool :=
  r.state == .normal && (w.openResult == .present || w.contactResult == .present)

/-- The entry into SUSPECT, where it happens (R91). -/
def entryMove (p : Pass) (n : Nat) (r : SegRec) : StageMove :=
  if entersSuspect (workOf p n) r then ⟨enterSuspect p.frame (workOf p n) r, none, [suspectNotice n (workOf p n)]⟩ else noMove r

/-- Entry, confirmation and clearing of a NORMAL or SUSPECT segment (R90 to R92). -/
def judgedMove (s : State) (p : Pass) (n : Nat) (r : SegRec) : StageMove :=
  match confirmClass s (workOf p n) r with
  | some k => { entryMove p n r with confirmed := some k }
  | none =>
    if (entersSuspect (workOf p n) r || r.state == .suspect) && clears (workOf p n) r then
      ⟨clearSuspect (entryMove p n r).record, none, (entryMove p n r).notices ++ [.suspectCleared n (clearSuspect r).transient]⟩
    else entryMove p n r

/-- The entry into DEENERGIZED (R93). -/
def deadMove (n : Nat) (r : SegRec) : StageMove := ⟨deenergize r, none, [.deenergized n r.state]⟩

def runningMove (s : State) (p : Pass) (n : Nat) (r : SegRec) : StageMove :=
  if allCollapsedAt s r.up r.phases then deadMove n r else judgedMove s p n r

/-- A DEENERGIZED segment leaves on a LIVE phase (R93). -/
def deenergizedMove (s : State) (n : Nat) (r : SegRec) : StageMove :=
  if (phasesIn r.phases).any (liveAt s r.up) then
    ⟨{ r with state := if s.params.settleFrames = 0 then .normal else .settling, settle := s.params.settleFrames }, none,
      [.reenergized n s.params.settleFrames]⟩
  else noMove r

/-- A SETTLING segment counts down (R94). -/
def settlingMove (s : State) (n : Nat) (r : SegRec) : StageMove :=
  if (validReport s r.up).isNone then noMove r
  else if allCollapsedAt s r.up r.phases then deadMove n r
  else ⟨{ r with settle := r.settle - 1, state := if r.settle ≤ 1 then .normal else .settling }, none, []⟩

/-- The move of a segment at stage 3 (R90). -/
def stage3Move (s : State) (p : Pass) (n : Nat) (r : SegRec) : StageMove :=
  if isBlind r then noMove r
  else match r.state with
    | .normal | .suspect => runningMove s p n r
    | .deenergized => deenergizedMove s n r
    | .settling => settlingMove s n r
    | .isolating | .isolated | .withheld | .isolationFailed => noMove r

/-- The move reads neither the Segment Table nor what the stage writes of the pass. -/
theorem stage3Move_same (ht : t = { s with segments := t.segments, pass := t.pass })
    (hq : q = { p with confirmed := q.confirmed, segmentNotices := q.segmentNotices }) : stage3Move t q n r = stage3Move s p n r := by
  rw [ht, hq]
  rfl

/-- A record written with its notices. -/
theorem moved_noted (hp : s.pass = some p) (hr : segmentAt s n = some r) (herr : g.err = 0) (bs : List NoticeBody) :
    ∃ q, Moved s p n ⟨g, none, bs⟩ (queueSegmentNotices n bs (writeSegment n g s)) q :=
  ⟨_, ((Moved.none hp hr).write herr).queue bs⟩

theorem entryMove_confirmed : (entryMove p n r).confirmed = none := by
  unfold entryMove
  split <;> rfl

theorem entryMove_err (herr : r.err = 0) : (entryMove p n r).record.err = 0 := by
  unfold entryMove
  split <;> exact herr

theorem judgeSegment_moves (hp : s.pass = some p) (hr : segmentAt s n = some r) (herr : r.err = 0) :
    ∃ q, Moved s p n (judgedMove s p n r) (judgeSegment p n r s) q := by
  unfold judgeSegment
  extract_lets w enters s1
  obtain ⟨q, hq⟩ : ∃ q, Moved s p n (entryMove p n r) s1 q := by
    unfold s1 entryMove
    change ∃ q, Moved s p n (if enters = true then _ else _) _ q
    split
    · exact moved_noted hp hr (by exact herr) _
    · exact ⟨p, Moved.none hp hr⟩
  have hclass : confirmClass s1 w r = confirmClass s w r := by
    rw [hq.rest]
    rfl
  unfold judgedMove
  rw [hclass]
  cases confirmClass s w r with
  | some k => exact ⟨_, hq.confirm k⟩
  | none =>
    dsimp only
    change ∃ q, Moved s p n (if ((enters || r.state == .suspect) && clears w r) = true then _ else _) _ q
    split
    · have hcleared := (hq.write (g := clearSuspect (entryMove p n r).record) (entryMove_err herr)).queue
        [.suspectCleared n (clearSuspect r).transient]
      rw [entryMove_confirmed] at hcleared
      rw [modifySegment, segmentAt_row.mpr hq.record]
      exact ⟨_, hcleared⟩
    · exact ⟨q, hq⟩

/-- Stage 3 on one segment is its move (R90). -/
theorem stage3Segment_moves (hclean : readsClean s) (hp : s.pass = some p) (hr : segmentAt s n = some r) :
    ∃ q, Moved s p n (stage3Move s p n r) (stage3Segment n s) q := by
  have herr := hclean.2 n r hr
  have hstays : ∃ q, Moved s p n (noMove r) s q := ⟨p, Moved.none hp hr⟩
  unfold stage3Segment stage3Move
  rw [readSegment_noError (hclean.2 n)]
  dsimp only
  rw [hp, hr]
  dsimp only
  cases hblind : isBlind r with
  | true => exact hstays
  | false =>
    have hrunning : ∃ q, Moved s p n (runningMove s p n r) (stage3Running p n r s) q := by
      unfold runningMove stage3Running
      split
      · exact moved_noted hp hr (by exact herr) _
      · exact judgeSegment_moves hp hr herr
    simp only [Bool.false_eq_true, if_false]
    cases r.state with
    | normal | suspect => exact hrunning
    | isolating | isolated | withheld | isolationFailed => exact hstays
    | deenergized =>
      dsimp only
      unfold deenergizedMove stage3Deenergized
      split
      · exact moved_noted hp hr (by exact herr) _
      · exact hstays
    | settling =>
      dsimp only
      unfold settlingMove stage3Settling
      split
      · exact hstays
      · split
        · exact moved_noted hp hr (by exact herr) _
        · exact ⟨_, (Moved.none hp hr).write (by exact herr)⟩

end
end Sys2Proof.Machine
end

section
namespace Sys2Proof.Machine

/-! ### Stage 3 over the segments (R75, R90) -/

section
variable {s t : State} {p q : Pass} {n : Nat} {r : SegRec} {l : List Nat}

/-- What stage 3 makes of a state and its pass p on a list of segments. -/
structure MovedAll (s : State) (p : Pass) (l : List Nat) (t : State) (q : Pass) : Prop where
  rest : t = { s with segments := t.segments, pass := t.pass }
  pass : t.pass = some q
  passRest : q = { p with confirmed := q.confirmed, segmentNotices := q.segmentNotices }
  kept : ∀ n, n ∉ l ∨ segmentAt s n = none → rowAt t.segments n = rowAt s.segments n ∧
    rowAt q.confirmed n = rowAt p.confirmed n ∧ rowAt q.segmentNotices n = rowAt p.segmentNotices n
  moved : ∀ n r, n ∈ l → segmentAt s n = some r → rowAt t.segments n = some (.live (stage3Move s p n r).record) ∧
    rowAt q.confirmed n = (stage3Move s p n r).confirmed.or (rowAt p.confirmed n) ∧
    (rowAt q.segmentNotices n).getD [] = (rowAt p.segmentNotices n).getD [] ++ (stage3Move s p n r).notices

theorem MovedAll.nil (hp : s.pass = some p) : MovedAll s p [] s p :=
  ⟨rfl, hp, rfl, fun _ _ => ⟨rfl, rfl, rfl⟩, fun _ _ h => nomatch h⟩

theorem judgedMove_err (herr : r.err = 0) : (judgedMove s p n r).record.err = 0 := by
  have hentry : (entryMove p n r).record.err = 0 := entryMove_err herr
  unfold judgedMove
  split
  · exact hentry
  · split <;> exact hentry

theorem stage3Move_err (herr : r.err = 0) : (stage3Move s p n r).record.err = 0 := by
  have hjudged : (judgedMove s p n r).record.err = 0 := judgedMove_err herr
  unfold stage3Move runningMove deenergizedMove settlingMove
  split
  · exact herr
  · split
    · split <;> assumption
    · split <;> assumption
    · split <;> exact herr
    · split
      · exact herr
      · split <;> exact herr
    all_goals exact herr

theorem MovedAll.readsClean (h : MovedAll s p l t q) (hclean : readsClean s) : readsClean t := by
  refine ⟨fun d r hr => hclean.1 d r ?_, fun n g hg => ?_⟩
  · rw [h.rest] at hr
    exact hr
  · rw [segmentAt_row] at hg
    by_cases hn : n ∉ l ∨ segmentAt s n = none
    · exact hclean.2 n g (segmentAt_row.mpr ((h.kept n hn).1.symm.trans hg))
    · rw [not_or, not_not] at hn
      obtain ⟨r, hr⟩ := Option.ne_none_iff_exists'.mp hn.2
      rw [(h.moved n r hn.1 hr).1] at hg
      cases hg
      exact stage3Move_err (hclean.2 n r hr)

theorem stage3Segment_vacant (h : segmentAt s n = none) : stage3Segment n s = s := by
  unfold stage3Segment
  rw [readSegment_noError fun r hr => by simp [h] at hr]
  dsimp only
  rw [h]
  split <;> simp_all

/-- One segment more. -/
theorem MovedAll.step (hclean : Machine.readsClean s) (hn : n ∉ l) (h : MovedAll s p l t q) :
    ∃ q', MovedAll s p (l ++ [n]) (stage3Segment n t) q' := by
  obtain ⟨hrow, hconfirmed, hnotices⟩ := h.kept n (.inl hn)
  have hat : segmentAt t n = segmentAt s n := segmentAt_of_row hrow
  have hold {m : Nat} (hm : m ∈ l ++ [n]) : m ∈ l ∨ m = n := by simpa using hm
  have hkeep {m : Nat} (hm : m ∉ l ++ [n] ∨ segmentAt s m = none) : m ∉ l ∨ segmentAt s m = none :=
    hm.imp_left fun hm hml => hm (by simp [hml])
  cases hr : segmentAt s n with
  | none =>
    rw [stage3Segment_vacant (hat.trans hr)]
    refine ⟨q, { h with kept := fun m hm => h.kept m (hkeep hm), moved := fun m g hm hg => ?_ }⟩
    rcases hold hm with hm | rfl
    · exact h.moved m g hm hg
    · rw [hr] at hg
      cases hg
  | some r =>
    obtain ⟨q', hq'⟩ := stage3Segment_moves (h.readsClean hclean) h.pass (hat.trans hr)
    rw [stage3Move_same h.rest h.passRest] at hq'
    have hother {m : Nat} (hm : m ≠ n) := hq'.others m hm
    refine ⟨q', ?_, hq'.pass, ?_, fun m hm => ?_, fun m g hm hg => ?_⟩
    · rw [hq'.rest, h.rest]
    · rw [hq'.passRest, h.passRest]
    · have hmn : m ≠ n := by
        rintro rfl
        simp [hr] at hm
      obtain ⟨h1, h2, h3⟩ := h.kept m (hkeep hm)
      exact ⟨(hother hmn).1.trans h1, (hother hmn).2.1.trans h2, (hother hmn).2.2.trans h3⟩
    · rcases hold hm with hm | rfl
      · have hmn : m ≠ n := fun h => hn (h ▸ hm)
        rw [(hother hmn).1, (hother hmn).2.1, (hother hmn).2.2]
        exact h.moved m g hm hg
      · obtain rfl : g = r := Option.some.inj (hg.symm.trans hr)
        rw [hq'.record, hq'.confirmed, hq'.notices, hconfirmed, hnotices]
        exact ⟨rfl, rfl, rfl⟩

theorem forEach_moved (hclean : readsClean s) (hp : s.pass = some p) (hnd : l.Nodup) :
    ∃ q, MovedAll s p l (forEach l stage3Segment s) q := by
  induction l using List.reverseRecOn with
  | nil => exact ⟨p, MovedAll.nil hp⟩
  | append_singleton l n ih =>
    obtain ⟨hl, -, hn⟩ := List.nodup_append.mp hnd
    obtain ⟨q, hq⟩ := ih hl
    rw [forEach_snoc]
    exact hq.step hclean fun h => hn n h n (by simp) rfl

end
end Sys2Proof.Machine
end

section
namespace Sys2Proof.Machine

/-! ### The conditions of stage 3 (R88, R92, R117) -/

section
variable {s : State} {w : SegWork} {r : SegRec}

/-- The contact count at N_CONTACT, or at half of it with four leaks and the arc score at ARC_PICKUP (R88). -/
abbrev byContact (s : State) (w : SegWork) (r : SegRec) : Prop :=
  (selectedProfile s).nContact ≤ r.contactCount ∨ (w.arc.isSome = true ∧ ((selectedProfile s).nContact + 1) / 2 ≤ r.contactCount ∧
    4 ≤ r.leakRing.length ∧ (selectedProfile s).arcPickup ≤ w.arc.getD 0)

theorem contactConfirms_iff : contactConfirms s w r = true ↔ byContact s w r := by
  unfold contactConfirms byContact
  cases w.arc <;> simp [and_assoc]

theorem contactAlone_iff : contactAlone r = true ↔ r.down ≠ [] ∧ ∀ d ∈ r.down, d ∈ r.excluded := by
  simp [contactAlone, isLeaf]

/-- Both outcomes PRESENT with counts of 2 or more, or both thresholds met (R88). -/
abbrev byBoth (s : State) (w : SegWork) (r : SegRec) : Prop :=
  (w.openResult = .present ∧ w.contactResult = .present ∧ 2 ≤ r.openCount ∧ 2 ≤ r.contactCount) ∨
    ((selectedProfile s).nOpen ≤ r.openCount ∧ byContact s w r)

theorem confirmClass_eq : confirmClass s w r =
    if r.down ≠ [] ∧ ∀ d ∈ r.down, d ∈ r.excluded then (if byContact s w r then some .downedConductor else none)
    else if byBoth s w r then some .brokenAndDown
    else if (selectedProfile s).nOpen ≤ r.openCount then some .brokenConductor
    else if byContact s w r then some .downedConductor
    else none := by
  simp only [confirmClass, contactAlone_iff, contactConfirms_iff, openConfirms, Bool.or_eq_true, Bool.and_eq_true, beq_iff_eq,
    decide_eq_true_eq, and_assoc, byBoth]

theorem clears_iff : clears w r = true ↔ (w.openResult = .absent ∧ (w.contactResult = .absent ∨ r.contactCount = 0)) ∨
    (w.contactResult = .absent ∧ r.openCount = 0) := by
  simp only [clears, Bool.or_eq_true, Bool.and_eq_true, beq_iff_eq, and_or_left]

end

/-! ### The moves by state (R90 to R94) -/

section
variable {s : State} {p : Pass} {n : Nat} {r : SegRec}

theorem stage3Move_blind (h : r.up ∈ r.excluded) : stage3Move s p n r = noMove r := if_pos (by simpa [isBlind] using h)

theorem stage3Move_seeing (h : r.up ∉ r.excluded) : stage3Move s p n r = match r.state with
    | .normal | .suspect => runningMove s p n r
    | .deenergized => deenergizedMove s n r
    | .settling => settlingMove s n r
    | .isolating | .isolated | .withheld | .isolationFailed => noMove r := if_neg (by simpa [isBlind] using h)

theorem stage3Move_verdict (h : isVerdictState r.state = true) : stage3Move s p n r = noMove r := by
  by_cases hblind : r.up ∈ r.excluded
  · exact stage3Move_blind hblind
  · rw [stage3Move_seeing hblind]
    revert h
    cases r.state <;> simp [isVerdictState]

/-- Every phase COLLAPSED upstream (R93, R94). -/
theorem stage3Move_collapsed (h : r.up ∉ r.excluded) (hst : r.state ∈ [.normal, .suspect, .settling])
    (hdead : allCollapsedAt s r.up r.phases = true) : stage3Move s p n r = deadMove n r := by
  rw [stage3Move_seeing h]
  have hreport : (validReport s r.up).isNone = false := by
    rw [allCollapsedAt, Bool.and_eq_true] at hdead
    simpa using hdead.1
  have hrunning : runningMove s p n r = deadMove n r := if_pos hdead
  have hsettling : settlingMove s n r = deadMove n r := by simp [settlingMove, hreport, hdead]
  simp only [List.mem_cons, List.not_mem_nil, or_false] at hst
  rcases hst with hst | hst | hst <;> rw [hst] <;> assumption

theorem stage3Move_judged (h : r.up ∉ r.excluded) (hst : r.state = .normal ∨ r.state = .suspect)
    (hlive : allCollapsedAt s r.up r.phases = false) : stage3Move s p n r = judgedMove s p n r := by
  have hrunning : runningMove s p n r = judgedMove s p n r := if_neg (by simp [hlive])
  rw [stage3Move_seeing h]
  rcases hst with hst | hst <;> rw [hst] <;> exact hrunning

theorem stage3Move_deenergized (h : r.up ∉ r.excluded) (hst : r.state = .deenergized) :
    stage3Move s p n r = deenergizedMove s n r := by
  rw [stage3Move_seeing h, hst]

theorem stage3Move_settling (h : r.up ∉ r.excluded) (hst : r.state = .settling) : stage3Move s p n r = settlingMove s n r := by
  rw [stage3Move_seeing h, hst]

theorem any_phasesIn {x : PhaseSet} {f : Phase → Bool} : (phasesIn x).any f = true ↔ ∃ k, perPhase x k = true ∧ f k = true := by
  simp [phasesIn, mem_allPhases]

/-- NORMAL without PRESENT evidence: only the counts can confirm it (R88, R91). -/
theorem judgedMove_normal (hst : r.state = .normal) (hopen : (workOf p n).openResult ≠ .present)
    (hcontact : (workOf p n).contactResult ≠ .present) : judgedMove s p n r = ⟨r, confirmClass s (workOf p n) r, []⟩ := by
  have henters : entersSuspect (workOf p n) r = false := by simp [entersSuspect, hopen, hcontact]
  have hentry : entryMove p n r = noMove r := if_neg (by simp [henters])
  unfold judgedMove
  rw [hentry]
  cases confirmClass s (workOf p n) r <;> simp [henters, hst, noMove]

/-- NORMAL with PRESENT evidence enters SUSPECT, and its fresh evidence does not clear (R91, R92). -/
theorem judgedMove_enters (hst : r.state = .normal)
    (hpresent : (workOf p n).openResult = .present ∨ (workOf p n).contactResult = .present)
    (hopen : (workOf p n).openResult = .present → 0 < r.openCount)
    (hcontact : (workOf p n).contactResult = .present → 0 < r.contactCount) : judgedMove s p n r =
      ⟨enterSuspect p.frame (workOf p n) r, confirmClass s (workOf p n) r, [suspectNotice n (workOf p n)]⟩ := by
  have henters : entersSuspect (workOf p n) r = true := by simp [entersSuspect, hst, hpresent]
  have hentry : entryMove p n r = ⟨enterSuspect p.frame (workOf p n) r, none, [suspectNotice n (workOf p n)]⟩ := if_pos henters
  have hclears : clears (workOf p n) r = false := by
    refine Bool.eq_false_iff.mpr fun h => ?_
    rcases clears_iff.mp h with ⟨ho, hc⟩ | ⟨hc, hzero⟩
    · have hcp := hpresent.resolve_left (by simp [ho])
      have := hcontact hcp
      rcases hc with hc | hc
      · simp [hc] at hcp
      · omega
    · have := hopen (hpresent.resolve_right (by simp [hc]))
      omega
  unfold judgedMove
  rw [hentry, hclears]
  cases confirmClass s (workOf p n) r <;> simp

/-- A SUSPECT segment makes no entry. -/
theorem entryMove_suspect (hst : r.state = .suspect) : entryMove p n r = noMove r := if_neg (by simp [entersSuspect, hst])

theorem judgedMove_confirmed {k : VerdictClass} (hst : r.state = .suspect) (hk : confirmClass s (workOf p n) r = some k) :
    judgedMove s p n r = ⟨r, some k, []⟩ := by
  rw [judgedMove, entryMove_suspect hst, hk]
  rfl

theorem judgedMove_stays (hst : r.state = .suspect) (hk : confirmClass s (workOf p n) r = none)
    (hclears : ¬ clears (workOf p n) r = true) : judgedMove s p n r = noMove r := by
  rw [judgedMove, entryMove_suspect hst, hk]
  exact if_neg (by simp [hclears])

theorem judgedMove_clears (hst : r.state = .suspect) (hk : confirmClass s (workOf p n) r = none)
    (hclears : clears (workOf p n) r = true) :
    judgedMove s p n r = ⟨clearSuspect r, none, [.suspectCleared n (clearSuspect r).transient]⟩ := by
  rw [judgedMove, entryMove_suspect hst, hk]
  exact if_pos (by simp [hst, hclears])

theorem phaseUnion_none (x : PhaseSet) : phaseUnion noPhases x = x := by
  obtain ⟨a, b, c⟩ := x
  rfl

/-- The suspect details on entry (R87, R91). -/
def entryDetails (f : FrameNo) (w : SegWork) (r : SegRec) : SuspectDetails :=
  updateDetails (isLeaf r) w r.openCount r.contactCount
    { first := f, openPhases := noPhases, backfed := false, loadLoss := false, coarse := false }

theorem entryDetails_eq (f : FrameNo) (w : SegWork) (r : SegRec) : entryDetails f w r =
    { first := f
      openPhases := if r.openCount = 0 then noPhases else w.openPhases
      backfed := decide (r.openCount ≠ 0) && w.backfed
      loadLoss := decide (r.openCount ≠ 0 ∧ r.down = [] ∧ w.openResult = .present)
      coarse := decide (r.contactCount ≠ 0 ∧ w.contactResult = .present) && w.coarse } := by
  have hleaf : isLeaf r = decide (r.down = []) := by rw [Bool.eq_iff_iff, isLeaf_iff, decide_eq_true_eq]
  rw [entryDetails, hleaf, updateDetails]
  by_cases ho : r.openCount = 0 <;> by_cases hc : r.contactCount = 0 <;>
    simp [ho, hc, phaseUnion_none, Bool.decide_and, beq_eq_decide]

end

/-- A stage whose work may begin or end the urgency source: the tail count follows (R75, R148). -/
theorem exec_stage_settled {c : Instr} {g next : Stage} {work : State → State} {p : Pass} {s : State}
    (hc : ∀ u, exec c u = event (settled (runStage g next work)) u) (hheld : noneHeld s = true) (hpass : s.pass = some p)
    (hstage : p.stage = g) (hhl : (work s).hl = s.hl) : exec c s = .next (settleUrgency (urgencySource s) (goTo next (work s))) := by
  have hat : atStage g s = true := by simp [atStage, hpass, hstage]
  refine exec_event hc (by rw [settled, runStage, if_pos hat]) ?_
  rw [settleUrgency_hl, goTo, modifyPass_hl, hhl]
  exact noneHeld_iff.mp hheld

theorem or_eq_ite {α : Type} [DecidableEq α] (a b : Option α) : a.or b = if a = none then b else a := by
  cases a <;> simp

/-- Settles O51: the move of each segment (`stage3Move`) over the segments one by one (`forEach_moved`). -/
theorem passStage3MovesStates : Obligations.PassStage3MovesStates := by
  intro p s hheld hclean hpass hstage
  obtain ⟨q, hq⟩ : ∃ q, MovedAll s p allSegments (stage3 s) q :=
    forEach_moved ⟨fun d r => clean_sensor hclean, fun n r => clean_segment hclean⟩ hpass nodup_allSegments
  have hexec : exec .passStage3 s = .next (settleUrgency (urgencySource s) (goTo .four (stage3 s))) :=
    exec_stage_settled (fun _ => rfl) hheld hpass hstage (by rw [hq.rest])
  generalize stage3 s = u at hq hexec
  rw [settleUrgency_eq] at hexec
  refine ⟨_, { q with stage := .four }, hexec, ?_, ?_, ?_, fun n hn => hq.kept n ?_, fun n r hn hr => ?_⟩
  · rw [goTo, modifyPass, hq.pass]
    rfl
  · rw [hq.passRest]
  · have hsame : urgencySource { goTo .four u with nq := { (goTo .four u).nq with tail := settledTail (urgencySource s) (goTo .four u) } } =
        urgencySource (goTo .four u) := rfl
    rw [hsame, settledTail, goTo, modifyPass, hq.rest]
  · exact hn.imp_left fun hn h => Nat.not_lt.mpr hn (mem_allSegments.mp h)
  · intro w limits byOpen byContact bothNow contactAlone verdict clears moved before stays dead collapsed judged
    have hmove {o : StageMove} {k : Option VerdictClass} (ho : stage3Move s p n r = o) (hk : o.confirmed.or before = k) :
        moved o.record k o.notices := by
      obtain ⟨hrecord, hconfirmed, hnotices⟩ := hq.moved n r (mem_allSegments.mpr hn) hr
      rw [ho] at hrecord hconfirmed hnotices
      exact ⟨hrecord, hconfirmed.trans hk, hnotices⟩
    have hclass : confirmClass s w r = verdict := confirmClass_eq
    have hor : (confirmClass s w r).or before = if verdict = none then before else verdict := hclass ▸ or_eq_ite ..
    have hclears : Machine.clears w r = true ↔ clears := clears_iff
    have hjudged {o : StageMove} (hj : judged) (hst : r.state = .normal ∨ r.state = .suspect) (ho : judgedMove s p n r = o) :
        stage3Move s p n r = o := (stage3Move_judged hj.1 hst hj.2).trans ho
    refine ⟨fun h => hmove (o := noMove r) ?_ rfl, fun hseeing hst hdead => hmove (stage3Move_collapsed hseeing hst hdead) rfl,
      fun hj hst hopen hcontact => hmove (hjudged hj (.inl hst) (judgedMove_normal hst hopen hcontact)) hor,
      fun hj hst hpresent hopen hcontact => ?_,
      fun hj hst hverdict => ?_,
      fun hj hst hverdict hnot => hmove (hjudged hj (.inr hst) (judgedMove_stays hst (hclass.trans hverdict) (mt hclears.mp hnot))) rfl,
      fun hj hst hverdict hc => hmove (hjudged hj (.inr hst) (judgedMove_clears hst (hclass.trans hverdict) (hclears.mpr hc))) rfl,
      fun hseeing hst => ⟨fun hlive => ?_, fun hdead => ?_⟩,
      fun hseeing hst => ⟨fun hnone => ?_, fun hsome hlive => ?_⟩⟩
    · rcases h with hblind | hst
      · exact stage3Move_blind hblind
      · refine stage3Move_verdict ?_
        simp only [List.mem_cons, List.not_mem_nil, or_false] at hst
        rcases hst with hst | hst | hst | hst <;> rw [hst] <;> rfl
    · have henters := hmove (hjudged hj (.inl hst) (judgedMove_enters hst hpresent hopen hcontact)) hor
      have hrecord : enterSuspect p.frame w r = { r with state := .suspect, suspect := some (entryDetails p.frame w r) } := rfl
      rw [hrecord, entryDetails_eq] at henters
      exact henters
    · obtain ⟨k, hk⟩ := Option.ne_none_iff_exists'.mp hverdict
      exact hmove (hjudged hj (.inr hst) (judgedMove_confirmed hst (hclass.trans hk))) hk.symm
    · refine hmove ((stage3Move_deenergized hseeing hst).trans (if_pos ?_)) rfl
      exact any_phasesIn.mpr hlive
    · refine hmove ((stage3Move_deenergized hseeing hst).trans (if_neg fun h => ?_)) rfl
      obtain ⟨k, hk, hlive⟩ := any_phasesIn.mp h
      simp [hdead k hk] at hlive
    · exact hmove ((stage3Move_settling hseeing hst).trans (if_pos (by simp [hnone]))) rfl
    · refine hmove ((stage3Move_settling hseeing hst).trans ((if_neg (by simp [hsome])).trans (if_neg ?_))) rfl
      exact Bool.eq_false_iff.mp hlive

end Sys2Proof.Machine
end

section
namespace Sys2Proof.Machine

/-! ### How a confirmed segment's walk ends (R89, R123 to R126, R137) -/

/-- What the decision on a segment leaves: its state and chain, the interrupters, the channels, the notices raised. -/
structure Decision where
  state : SegState
  chain : List ChainEntry
  interrupters : Table IntPlace
  channels : Channels
  bodies : List NoticeBody

/-- State t is state s with the verdict part of k placed in segment n, whose record was r with details d, and decided as `e` says. -/
def decides (s : State) (n : Nat) (k : Confirmation) (r : SegRec) (d : SuspectDetails) (e : Decision) (t : State) : Prop :=
  ∃ tab, replacesSegment s tab n (decidedRecord k r d e.state e.chain) ∧
    t = { s with
      segments := tab, interrupters := e.interrupters, channels := e.channels, nq := queued s.ft.frame e.bodies s.nq }

section
variable {s t : State} {n x b : Nat} {k : Confirmation} {r : SegRec} {d : SuspectDetails} {q : IntRec} {e : Decision}

/-- The decision with which a walk begins: the verdict part placed, nothing else done. -/
def undecided (s : State) (r : SegRec) : Decision := ⟨r.state, [], s.interrupters, s.channels, []⟩

theorem decides_placed (herr : r.err = 0) : decides s n k r d (undecided s r) (verdictPlaced n k r d s) :=
  ⟨_, verdictPlaced_replaces herr, by rw [undecided, queued_nil]; rfl⟩

theorem decides.record (h : decides s n k r d e t) : segmentAt t n = some (decidedRecord k r d e.state e.chain) := by
  obtain ⟨tab, hrows, rfl⟩ := h
  exact segmentAt_replaced hrows

theorem decides.errorFree (h : decides s n k r d e t) (hs : errorFree s) (herr : r.err = 0) (he : e.interrupters = s.interrupters) :
    errorFree t := by
  obtain ⟨tab, hrows, rfl⟩ := h
  obtain ⟨hclean, -⟩ := errorFree_replaced hs hrows herr
  exact ⟨hclean, fun x q hq => hs.2 x q ((interrupterAt_congr he x).symm.trans hq)⟩

/-- As long as no interrupter is written, each is found where it was. -/
theorem decides.interrupterAt (h : decides s n k r d e t) (he : e.interrupters = s.interrupters) (x : Nat) :
    interrupterAt t x = interrupterAt s x := by
  obtain ⟨tab, -, rfl⟩ := h
  exact interrupterAt_congr he x

theorem decides.interrupterOn (h : decides s n k r d e t) (he : e.interrupters = s.interrupters) (b : Nat) :
    interrupterOn t b = interrupterOn s b :=
  interrupterOn_congr (fun y => congrArg _ (h.interrupterAt he y)) b

/-- The state is written. -/
theorem decides.setState (h : decides s n k r d e t) (herr : r.err = 0) (st : SegState) :
    decides s n k r d { e with state := st } (setSegState n st t) := by
  have hrow : replacesSegment t (setSegState n st t).segments n (decidedRecord k r d st e.chain) := modifySegment_replaces h.record herr
  have hrest : setSegState n st t = { t with segments := (setSegState n st t).segments } := modifySegment_eq n _ _
  obtain ⟨tab, hrows, rfl⟩ := h
  exact ⟨_, replacesSegment_trans hrows hrow, hrest⟩

/-- A visit is written (R122). -/
theorem decides.visit (h : decides s n k r d e t) (herr : r.err = 0) (hlen : e.chain.length < 16) (x : Nat) (o : ChainOutcome) :
    decides s n k r d { e with chain := e.chain ++ [⟨x, o⟩] } (recordVisit n x o t) := by
  have hchain : appendEntry ⟨x, o⟩ e.chain = e.chain ++ [⟨x, o⟩] := by rw [appendEntry, if_pos hlen]
  have hrow : replacesSegment t (recordVisit n x o t).segments n (decidedRecord k r d e.state (e.chain ++ [⟨x, o⟩])) := by
    rw [← hchain]
    exact modifySegment_replaces h.record herr
  have hrest : recordVisit n x o t = { t with segments := (recordVisit n x o t).segments } := modifySegment_eq n _ _
  obtain ⟨tab, hrows, rfl⟩ := h
  exact ⟨_, replacesSegment_trans hrows hrow, hrest⟩

theorem decides.writeInterrupter (h : decides s n k r d e t) (hq : q.err = 0) (x : Nat) :
    decides s n k r d { e with interrupters := setRow e.interrupters x (.live q) } (writeInterrupter x q t) := by
  obtain ⟨tab, hrows, rfl⟩ := h
  exact ⟨tab, hrows, by simp only [Machine.writeInterrupter, ← hq]⟩

/-- The channels once the pulse of a trip has started, if it starts one (R141, R142). -/
def pulsedChannels (q : IntRec) (s : State) : Channels :=
  match q.kind with
  | .loc ch => (startPulse ch s).channels
  | .remote => s.channels

theorem decides.raise (h : decides s n k r d e t) (body : NoticeBody) (hroom : s.nq.queue.length + e.bodies.length < 32) :
    decides s n k r d { e with bodies := e.bodies ++ [body] } (raiseNow body t) := by
  obtain ⟨tab, hrows, rfl⟩ := h
  refine ⟨tab, hrows, (raiseAt_queued _ _ ?_).trans ?_⟩
  · rw [queued_length]
    exact hroom
  · dsimp only
    rw [queued_append]

theorem pulsedChannels_remote (h : q.kind = .remote) : pulsedChannels q s = s.channels := by
  rw [pulsedChannels, h]

/-- A trip starts the pulse of a LOCAL interrupter's channel, unless that has failed (R141, R142). -/
theorem pulsedChannels_get (c : Fin 4) : (pulsedChannels q s).get c =
    if q.kind = .loc c ∧ (s.channels.get c).failed = false
    then { s.channels.get c with pulse := some (dueIn (s.channels.get c).width s) } else s.channels.get c := by
  unfold pulsedChannels
  cases q.kind with
  | remote => simp
  | loc ch =>
    dsimp only
    rw [startPulse, modifyChannel_get]
    by_cases hc : c = ch
    · subst hc
      cases (s.channels.get c).failed <;> simp
    · simp [hc, Ne.symm hc]

/-- The interrupter trips (R126, R127). -/
def tripDecision (s : State) (n x : Nat) (q : IntRec) (e : Decision) : Decision :=
  { state := .isolating, chain := e.chain ++ [⟨x, .tripped⟩], interrupters := setRow e.interrupters x (.live (tripped n s q))
    channels := pulsedChannels q s, bodies := e.bodies ++ [.tripStarted x q.kind q.boundary q.confirmTime n .verdict] }

theorem decides.trip (h : decides s n k r d e t) (herr : r.err = 0) (hq : q.err = 0) (hlen : e.chain.length < 16)
    (hch : e.channels = s.channels) (hroom : s.nq.queue.length + e.bodies.length < 32) :
    decides s n k r d (tripDecision s n x q e) (startTrip x q n .verdict t) := by
  have htripped : tripped n t q = tripped n s q := by
    obtain ⟨tab, -, rfl⟩ := h
    rfl
  have hisolating := (((h.writeInterrupter (q := tripped n s q) hq x).setState herr .isolating).visit herr hlen x .tripped)
  unfold startTrip
  rw [htripped]
  refine decides.raise (e := { tripDecision s n x q e with bodies := e.bodies }) ?_ _ hroom
  obtain ⟨tab, hrows, ht⟩ := hisolating
  dsimp only at ht
  rw [ht]
  refine ⟨tab, hrows, ?_⟩
  dsimp only [tripDecision, pulsedChannels]
  rw [hch]
  cases q.kind <;> rfl

theorem walk_trips_decides {above : List Nat} (h : decides s n k r d e t) (herr : r.err = 0) (hlen : e.chain.length < 16)
    (hch : e.channels = s.channels) (hroom : s.nq.queue.length + e.bodies.length < 32) (ht : errorFree t)
    (hon : interrupterOn t b = some x) (hq : interrupterAt t x = some q) (harmed : q.armed = true)
    (hstate : q.state = .unknown ∨ q.state = .closed) :
    decides s n k r d (tripDecision s n x q e) (walk n .verdict (b :: above) t) := by
  rw [walk_trips ht hon hq harmed hstate]
  exact h.trip herr (ht.2 x q hq) hlen hch hroom

/-- The segment joins the waiters of a TRIPPING interrupter (R124). -/
def joinDecision (n x : Nat) (q : IntRec) (e : Decision) : Decision :=
  { e with state := .isolating, chain := e.chain ++ [⟨x, .joined⟩]
           interrupters := setRow e.interrupters x (.live { q with waiters := q.waiters ++ [n] }) }

theorem walk_joins_decides {above : List Nat} (h : decides s n k r d e t) (herr : r.err = 0) (hlen : e.chain.length < 16) (ht : errorFree t)
    (hon : interrupterOn t b = some x) (hq : interrupterAt t x = some q) (hstate : q.state = .tripping) :
    decides s n k r d (joinDecision n x q e) (walk n .verdict (b :: above) t) := by
  rw [walk_joins ht hon hq hstate]
  exact ((h.writeInterrupter (q := { q with waiters := q.waiters ++ [n] }) (ht.2 x q hq) x).setState herr .isolating).visit herr hlen x .joined

/-- The outcome with which a walk passes an interrupter that cannot trip (R124). -/
def passesWith (q : IntRec) (o : ChainOutcome) : Prop :=
  (q.state = .failed ∧ o = .skippedFailed) ∨ (q.state = .opened ∧ o = .skippedOpen) ∨
    ((q.state = .unknown ∨ q.state = .closed) ∧ q.armed = false ∧ o = .skippedDisarmed)

/-- An interrupter that cannot trip is passed with its chain entry (R122, R124). -/
theorem walk_passes {above : List Nat} {o : ChainOutcome} (ht : errorFree t) (hon : interrupterOn t b = some x)
    (hq : interrupterAt t x = some q) (ho : passesWith q o) :
    walk n .verdict (b :: above) t = walk n .verdict above (recordVisit n x o t) := by
  rw [walk, walkWith, hon]
  dsimp only
  rw [readInterrupterWith_noError _ (ht.2 x), hq]
  rcases ho with ⟨hst, rfl⟩ | ⟨hst, rfl⟩ | ⟨hst | hst, harmed, rfl⟩
  · simp [hst]
  · simp [hst]
  · simp [hst, harmed]
  · simp [hst, harmed]

/-- A boundary without an interrupter is passed (R123). -/
theorem walk_skips {above : List Nat} (hon : interrupterOn t b = none) : walk n .verdict (b :: above) t = walk n .verdict above t := by
  rw [walk, walkWith, hon]

/-- A walk that allowed trips take on, its end known (R89, R125). -/
theorem confirmWalk_decides (hs : errorFree s) (hr : segmentAt s n = some r) (hd : r.suspect = some d) (hallowed : tripsAllowed s = true)
    (hend : decides s n k r d e (walk n .verdict (candidateBoundaries s n) (verdictPlaced n k r d s))) (hst : e.state ≠ .isolationFailed)
    (hroom : s.nq.queue.length + e.bodies.length < 32) :
    decides s n k r d { e with bodies := e.bodies ++ [verdictBody n k r d e.state] } (confirmWalk n k s) := by
  rw [confirmWalk_eq hs hr hd, hallowed]
  simp only [if_true]
  generalize walk n .verdict (candidateBoundaries s n) (verdictPlaced n k r d s) = w at hend
  have hnote : noteVerdict n k.arc w = raiseNow (verdictBody n k r d e.state) w := by
    rw [noteVerdict, hend.record]
    rfl
  have hraised := hend.raise (verdictBody n k r d e.state) hroom
  rw [hnote, noteIsolationFailed_other hraised.record hst]
  exact hraised

/-- A walk past the last boundary: ISOLATION_FAILED, with its own notice after the VERDICT (R125, R137). -/
def failDecision (n : Nat) (k : Confirmation) (r : SegRec) (d : SuspectDetails) (e : Decision) : Decision :=
  { e with state := .isolationFailed
           bodies := e.bodies ++ [verdictBody n k r d .isolationFailed] ++ [.isolationFailed n k.verdictClass e.chain.length] }

theorem confirmWalk_fails (hs : errorFree s) (hr : segmentAt s n = some r) (hd : r.suspect = some d) (hallowed : tripsAllowed s = true)
    (hend : decides s n k r d e t)
    (hwalk : walk n .verdict (candidateBoundaries s n) (verdictPlaced n k r d s) = walk n .verdict [] t)
    (hroom : s.nq.queue.length + e.bodies.length + 1 < 32) : decides s n k r d (failDecision n k r d e) (confirmWalk n k s) := by
  rw [confirmWalk_eq hs hr hd, hallowed]
  simp only [if_true]
  rw [hwalk]
  have hfailed : decides s n k r d { e with state := .isolationFailed } (walk n .verdict [] t) := hend.setState (hs.1.2 n r hr) _
  generalize walk n .verdict [] t = w at hfailed
  have hnote : noteVerdict n k.arc w = raiseNow (verdictBody n k r d .isolationFailed) w := by
    rw [noteVerdict, hfailed.record]
    rfl
  have hraised := hfailed.raise (verdictBody n k r d .isolationFailed) (Nat.lt_of_succ_lt hroom)
  rw [hnote]
  generalize raiseNow (verdictBody n k r d .isolationFailed) w = v at hraised
  have hfail : noteIsolationFailed n v = raiseNow (.isolationFailed n k.verdictClass e.chain.length) v := by
    rw [noteIsolationFailed, hraised.record]
    rfl
  rw [hfail]
  exact hraised.raise _ (by simpa [Nat.add_assoc] using hroom)

end
end Sys2Proof.Machine
end

section
namespace Sys2Proof.Machine

/-! ### Paths of one and of two boundaries (R8) -/

section
variable {s : State} {n m x : Nat} {r g : SegRec} {q : IntRec}

/-- The first boundary on the way up is the segment's own. -/
theorem boundariesUp_own (fuel : Nat) (hr : segmentAt s n = some r) : ∃ above, boundariesUp s (fuel + 1) n = r.up :: above := by
  unfold boundariesUp
  rw [hr]
  exact ⟨_, rfl⟩

theorem candidateBoundaries_own (hr : segmentAt s n = some r) : ∃ above, candidateBoundaries s n = r.up :: above :=
  boundariesUp_own 39 hr

/-- A segment whose upstream sensor no list holds is a root: its own boundary is the last. -/
theorem candidateBoundaries_root (hr : segmentAt s n = some r) (hroot : ∀ m g, m < 40 → segmentAt s m = some g → r.up ∉ g.down) :
    candidateBoundaries s n = [r.up] := by
  have hparent : parentOf s r = none := segmentAbove_none.mpr fun m hm g hg => hroot m g hm hg
  rw [candidateBoundaries, boundariesUp, hr]
  dsimp only
  rw [hparent]

/-- Above a segment's own boundary stands its parent's. -/
theorem candidateBoundaries_child (hr : segmentAt s n = some r) (hm : m < 40) (hg : segmentAt s m = some g) (hup : r.up ∈ g.down)
    (honly : ∀ l h, l < 40 → segmentAt s l = some h → r.up ∈ h.down → l = m) :
    ∃ above, candidateBoundaries s n = r.up :: g.up :: above := by
  have hparent : parentOf s r = some m :=
    segmentAbove_lowest ⟨hm, hg⟩ hup fun l h hl hh => (honly l h hl.1 hl.2 hh).ge
  have hown : candidateBoundaries s n = r.up :: boundariesUp s 39 m := by
    rw [candidateBoundaries, boundariesUp, hr]
    dsimp only
    rw [hparent]
  rw [hown]
  exact (boundariesUp_own 38 hg).imp fun above h => congrArg (r.up :: ·) h

/-- The one interrupter with a boundary sensor is the one a walk finds there. -/
theorem interrupterOn_only (hx : x < 16) (hq : interrupterAt s x = some q)
    (honly : ∀ y p, y < 16 → interrupterAt s y = some p → p.boundary = q.boundary → y = x) : interrupterOn s q.boundary = some x :=
  interrupterOn_some hx ⟨q, hq, rfl⟩ fun y hy ⟨p, hp, hb⟩ => hy.ne (honly y p (hy.trans hx) hp hb)

end
end Sys2Proof.Machine
end

section
namespace Sys2Proof.Machine

/-! ### The expiry of a deadline (R99 to R101) -/

/-- A SUSPECT segment whose deadline timer runs to `due`. -/
structure Expiring (n : Fin 40) (r : SegRec) (d : SuspectDetails) (due : Nat) (s : State) : Prop where
  held : noneHeld s = true
  clean : errorFree s
  record : segmentAt s n = some r
  state : r.state = .suspect
  suspect : r.suspect = some d
  deadline : r.deadline = some due
  room : s.nq.queue.length ≤ 30

/-- The record with its deadline timer stopped. -/
def expiredRecord (r : SegRec) : SegRec := { r with deadline := none }

/-- The state in which an expiry confirms the segment: the clock at it, the timer stopped (R100; log 4). -/
def expired (n : Nat) (r : SegRec) (due : Nat) (s : State) : State := writeSegment n (expiredRecord r) (arriveAt due s)

section
variable {s t : State} {n : Fin 40} {m x y due : Nat} {r g : SegRec} {d : SuspectDetails} {q z : IntRec} {e : Decision} {o : ChainOutcome}

theorem Expiring.err (h : Expiring n r d due s) : r.err = 0 := h.clean.1.2 n r h.record

theorem Expiring.rows (h : Expiring n r d due s) : replacesSegment (arriveAt due s) (expired n r due s).segments n (expiredRecord r) :=
  writeSegment_replaces h.err

theorem Expiring.recordExpired (h : Expiring n r d due s) : segmentAt (expired n r due s) n = some (expiredRecord r) :=
  segmentAt_replaced h.rows

theorem Expiring.cleanExpired (h : Expiring n r d due s) : errorFree (expired n r due s) :=
  errorFree_replaced (s := arriveAt due s) h.clean h.rows h.err

theorem Expiring.pathExpired (h : Expiring n r d due s) : candidateBoundaries (expired n r due s) n = candidateBoundaries s n := by
  refine candidateBoundaries_congr (fun m => ?_) n
  by_cases hm : m = n
  · rw [hm, h.recordExpired, h.record]
    rfl
  · rw [segmentAt_of_row ((h.rows m).trans (if_neg hm))]
    rfl

/-- Under TRIP the expiry confirms the segment (R97, R100). -/
theorem Expiring.confirms (h : Expiring n r d due s) (hpolicy : policyInForce s r = .trip) :
    deadlineExpires n s = confirmWalk n (expiryConfirmation s) (expired n r due s) := by
  have hread : readSegment n (arriveAt due s) = arriveAt due s := readSegment_noError (h.clean.1.2 n)
  have hat : segmentAt (arriveAt due s) n = some r := h.record
  have hpol : policyInForce (arriveAt due s) r = .trip := hpolicy
  unfold deadlineExpires
  rw [h.record]
  dsimp only
  rw [h.deadline]
  dsimp only
  rw [hread, hat]
  dsimp only
  rw [hpol]
  rfl

/-- Under HOLD the deadline passes (R97, R101). -/
theorem Expiring.passes (h : Expiring n r d due s) (hpolicy : policyInForce s r = .hold) :
    deadlineExpires n s = passDeadline n r (arriveAt due s) := by
  have hread : readSegment n (arriveAt due s) = arriveAt due s := readSegment_noError (h.clean.1.2 n)
  have hat : segmentAt (arriveAt due s) n = some r := h.record
  have hpol : policyInForce (arriveAt due s) r = .hold := hpolicy
  unfold deadlineExpires
  rw [h.record]
  dsimp only
  rw [h.deadline]
  dsimp only
  rw [hread, hat]
  dsimp only
  rw [hpol]

/-- What the expiry decides on the segment. -/
def expiryDecides (s : State) (n : Fin 40) (r : SegRec) (d : SuspectDetails) (due : Nat) (e : Decision) : Prop :=
  decides (expired n r due s) n (expiryConfirmation s) (expiredRecord r) d e
    (confirmWalk n (expiryConfirmation s) (expired n r due s))

/-- The VERDICT of an expiry (R100). -/
def expiryBody (s : State) (n : Fin 40) (r : SegRec) (d : SuspectDetails) (st : SegState) : NoticeBody :=
  verdictBody n (expiryConfirmation s) (expiredRecord r) d st

/-- The verdict part is placed, and no boundary has been visited. -/
theorem Expiring.placed (h : Expiring n r d due s) : decides (expired n r due s) n (expiryConfirmation s) (expiredRecord r) d
    (undecided (expired n r due s) (expiredRecord r)) (verdictPlaced n (expiryConfirmation s) (expiredRecord r) d (expired n r due s)) :=
  decides_placed h.err

/-- The interrupter at the segment's upstream sensor has been passed. -/
def passedDecision (s : State) (n : Fin 40) (r : SegRec) (due x : Nat) (o : ChainOutcome) : Decision :=
  { undecided (expired n r due s) (expiredRecord r) with chain := [⟨x, o⟩] }

theorem Expiring.passed (h : Expiring n r d due s) (x : Nat) (o : ChainOutcome) :
    decides (expired n r due s) n (expiryConfirmation s) (expiredRecord r) d (passedDecision s n r due x o)
      (recordVisit n x o (verdictPlaced n (expiryConfirmation s) (expiredRecord r) d (expired n r due s))) :=
  h.placed.visit h.err (show 0 < 16 by decide) x o

theorem Expiring.cleanPlaced (h : Expiring n r d due s) :
    errorFree (verdictPlaced n (expiryConfirmation s) (expiredRecord r) d (expired n r due s)) :=
  h.placed.errorFree h.cleanExpired h.err rfl

/-- With no trip allowed the segment is WITHHELD (R125). -/
theorem Expiring.withholds (h : Expiring n r d due s) (hallowed : tripsAllowed s = false) :
    expiryDecides s n r d due ⟨.withheld, [], s.interrupters, s.channels, [expiryBody s n r d .withheld]⟩ :=
  confirmWalk_withheld h.cleanExpired h.recordExpired h.suspect hallowed (Nat.lt_of_le_of_lt h.room (by decide))

/-- Room for the notices of a decision. -/
theorem Expiring.roomFor (h : Expiring n r d due s) {k : Nat} (hk : k ≤ 1) : (expired n r due s).nq.queue.length + k < 32 :=
  Nat.lt_of_le_of_lt (Nat.add_le_add h.room hk) (by decide)

/-- A root without an interrupter at its boundary goes ISOLATION_FAILED (R137). -/
theorem Expiring.fails (h : Expiring n r d due s) (hallowed : tripsAllowed s = true) (hon : interrupterOn s r.up = none)
    (hpath : candidateBoundaries s n = [r.up]) : expiryDecides s n r d due
      (failDecision n (expiryConfirmation s) (expiredRecord r) d (undecided (expired n r due s) (expiredRecord r))) := by
  refine confirmWalk_fails h.cleanExpired h.recordExpired h.suspect hallowed h.placed ?_ (h.roomFor le_rfl)
  rw [h.pathExpired, hpath]
  exact walk_skips hon

/-- So does one whose interrupter is passed (R124, R137). -/
theorem Expiring.failsPast (h : Expiring n r d due s) (hallowed : tripsAllowed s = true) (hon : interrupterOn s r.up = some x)
    (hq : interrupterAt s x = some q) (ho : passesWith q o) (hpath : candidateBoundaries s n = [r.up]) : expiryDecides s n r d due
      (failDecision n (expiryConfirmation s) (expiredRecord r) d (passedDecision s n r due x o)) := by
  refine confirmWalk_fails h.cleanExpired h.recordExpired h.suspect hallowed (h.passed x o) ?_ (h.roomFor le_rfl)
  rw [h.pathExpired, hpath]
  exact walk_passes h.cleanPlaced hon hq ho

/-- The decision with the VERDICT raised. -/
def withVerdict (s : State) (n : Fin 40) (r : SegRec) (d : SuspectDetails) (e : Decision) : Decision :=
  { e with bodies := e.bodies ++ [expiryBody s n r d e.state] }

/-- Past the segment's own interrupter the walk goes on to the parent's boundary, where an armed one trips (R124, R126). -/
theorem Expiring.tripsAbove {above : List Nat} {b : Nat} (h : Expiring n r d due s) (hallowed : tripsAllowed s = true)
    (hon : interrupterOn s r.up = some x) (hq : interrupterAt s x = some q) (ho : passesWith q o)
    (hpath : candidateBoundaries s n = r.up :: b :: above) (hony : interrupterOn s b = some y) (hz : interrupterAt s y = some z)
    (harmed : z.armed = true) (hstate : z.state = .unknown ∨ z.state = .closed) : expiryDecides s n r d due
      (withVerdict s n r d (tripDecision (expired n r due s) n y z (passedDecision s n r due x o))) := by
  refine confirmWalk_decides h.cleanExpired h.recordExpired h.suspect hallowed ?_ (by simp [tripDecision]) (h.roomFor le_rfl)
  rw [h.pathExpired, hpath, walk_passes h.cleanPlaced hon hq ho]
  have hpassed := h.passed x o
  exact walk_trips_decides hpassed h.err (show 1 < 16 by decide) rfl (h.roomFor (Nat.zero_le _)) (hpassed.errorFree h.cleanExpired h.err rfl)
    ((hpassed.interrupterOn rfl b).trans hony) ((hpassed.interrupterAt rfl y).trans hz) harmed hstate

/-- A TRIPPING interrupter at the upstream sensor is joined (R124). -/
theorem Expiring.joins {above : List Nat} (h : Expiring n r d due s) (hallowed : tripsAllowed s = true)
    (hon : interrupterOn s r.up = some x) (hq : interrupterAt s x = some q) (hstate : q.state = .tripping)
    (hpath : candidateBoundaries s n = r.up :: above) : expiryDecides s n r d due
      (withVerdict s n r d (joinDecision n x q (undecided (expired n r due s) (expiredRecord r)))) := by
  refine confirmWalk_decides h.cleanExpired h.recordExpired h.suspect hallowed ?_ (by simp [joinDecision]) (h.roomFor (Nat.zero_le _))
  rw [h.pathExpired, hpath]
  exact walk_joins_decides h.placed h.err (show 0 < 16 by decide) h.cleanPlaced hon hq hstate

/-- An armed one, UNKNOWN or CLOSED, trips (R126). -/
theorem Expiring.trips {above : List Nat} (h : Expiring n r d due s) (hallowed : tripsAllowed s = true)
    (hon : interrupterOn s r.up = some x) (hq : interrupterAt s x = some q) (harmed : q.armed = true)
    (hstate : q.state = .unknown ∨ q.state = .closed) (hpath : candidateBoundaries s n = r.up :: above) : expiryDecides s n r d due
      (withVerdict s n r d (tripDecision (expired n r due s) n x q (undecided (expired n r due s) (expiredRecord r)))) := by
  refine confirmWalk_decides h.cleanExpired h.recordExpired h.suspect hallowed ?_ (by simp [tripDecision]) (h.roomFor le_rfl)
  rw [h.pathExpired, hpath]
  exact walk_trips_decides h.placed h.err (show 0 < 16 by decide) rfl (h.roomFor (Nat.zero_le _)) h.cleanPlaced hon hq harmed hstate

/-- The tail count after an expiry that may end the urgency source (R148). -/
def expiryTail (s t : State) : Nat := if urgencySource s && !urgencySource t then s.params.maintTail else s.nq.tail

theorem Expiring.urgent (h : Expiring n r d due s) (hmode : s.mc.mode ≠ .start) : urgencySource s = true :=
  urgencySource_suspect n.isLt (isSuspect_iff.mpr ⟨r, h.record, h.state⟩) hmode

/-- The segment was SUSPECT, so the expiry begins no urgency (R148). -/
theorem Expiring.runs (h : Expiring n r d due s) (ht : deadlineExpires n s = t) (hhl : t.hl = s.hl) (hmode : t.mc.mode = s.mc.mode)
    (hparams : t.params = s.params) (htail : t.nq.tail = s.nq.tail) :
    exec (.deadlineExpiry n) s = .next { t with nq := { t.nq with tail := expiryTail s t } } := by
  have hbegins : (!urgencySource s && urgencySource t) = false := by
    cases hu : urgencySource t with
    | false => simp
    | true => simp [urgent_before hmode h.urgent hu]
  have hsettled : settledTail (urgencySource s) t = expiryTail s t := by
    rw [settledTail, hbegins, hparams, htail, expiryTail]
    rfl
  subst ht
  refine exec_event (f := settled (deadlineExpires n.val)) (fun _ => rfl) ?_ ?_
  · rw [settled, settleUrgency_eq, hsettled]
  · dsimp only
    rw [hhl]
    exact noneHeld_iff.mp h.held

/-- A segment that stays SUSPECT keeps the urgency source (R148). -/
theorem expiryTail_suspect {w : SegRec} (hrows : replacesSegment s t.segments n w)
    (hw : w.state = .suspect) (hmode : t.mc.mode = s.mc.mode) : expiryTail s t = s.nq.tail := by
  refine if_neg fun hends => ?_
  obtain ⟨hs, ht⟩ := Bool.and_eq_true_iff.mp hends
  have hsource : urgencySource t = true :=
    urgencySource_suspect n.isLt (isSuspect_iff.mpr ⟨w, segmentAt_replaced hrows, hw⟩) fun hstart => by
      rw [urgencySource_start (hmode.symm.trans hstart)] at hs
      cases hs
  rw [hsource] at ht
  cases ht

/-- The state once the deadline has passed under HOLD (R101; log 4). -/
def deadlinePassedState (s : State) (n : Fin 40) (r : SegRec) (d : SuspectDetails) (due : Nat) (tab : Table SegPlace) : State := { s with
  now := max s.now due, segments := tab
  nq := queued s.ft.frame [.deadlinePassed n r.openCount r.contactCount d.first] s.nq }

/-- The answer of DEADLINE_EXPIRY under HOLD (R101, R148). -/
theorem Expiring.passesAnswer (h : Expiring n r d due s) (hpolicy : policyInForce s r = .hold) :
    ∃ tab, replacesSegment s tab n { r with deadline := none, deadlinePassed := true } ∧
      exec (.deadlineExpiry n) s = .next (deadlinePassedState s n r d due tab) := by
  obtain ⟨tab, hrows, hpassed⟩ := passDeadline_eq (s := arriveAt due s) h.err h.suspect (Nat.lt_of_le_of_lt h.room (by decide))
  have hexec := h.runs (t := deadlinePassedState s n r d due tab) ((h.passes hpolicy).trans hpassed) rfl rfl rfl rfl
  have htail : expiryTail s (deadlinePassedState s n r d due tab) = s.nq.tail := expiryTail_suspect (n := n) hrows h.state rfl
  rw [htail] at hexec
  exact ⟨tab, hrows, hexec⟩

/-- The answer of DEADLINE_EXPIRY under TRIP, from what it decides (R89, R148; log 4). -/
theorem Expiring.answers (h : Expiring n r d due s) (hpolicy : policyInForce s r = .trip) (he : expiryDecides s n r d due e) :
    ∃ t, exec (.deadlineExpiry n) s = .next t ∧
      replacesSegment s t.segments n (decidedRecord (expiryConfirmation s) (expiredRecord r) d e.state e.chain) ∧
      t.interrupters = e.interrupters ∧ t.channels = e.channels ∧
      t = { s with
        now := max s.now due, segments := t.segments, interrupters := t.interrupters, channels := t.channels
        nq := { queued s.ft.frame e.bodies s.nq with tail := expiryTail s t } } := by
  obtain ⟨tab, hrows, ht⟩ := he
  exact ⟨_, h.runs ((h.confirms hpolicy).trans ht) rfl rfl rfl rfl,
    replacesSegment_trans (s := arriveAt due s) (t := expired n r due s) h.rows hrows, rfl, rfl, rfl⟩

/-- A decision that leaves the segment ISOLATING keeps the urgency source, so the tail count stays (R148). -/
theorem expiryTail_isolating {w : SegRec} (hmode : t.mc.mode = .run) (hrows : replacesSegment s t.segments n w)
    (hw : w.state = .isolating) : expiryTail s t = s.nq.tail := by
  have hurgent : segmentUrgent t n = true := by simp [segmentUrgent, segmentAt_replaced hrows, hw]
  have hany : allSegments.any (segmentUrgent t) = true := List.any_eq_true.mpr ⟨n, mem_allSegments.mpr n.isLt, hurgent⟩
  have hsource : urgencySource t = true := by simp [urgencySource, hmode, hany]
  simp [expiryTail, hsource]

/-- The interrupter that an expiry trips (R126). -/
theorem rowAt_tripped {tab : Table IntPlace} (harmed : q.armed = true) (k : Nat) :
    rowAt (setRow tab x (.live (tripped n (expired n r due s) q))) k = if k = x then some (.live { q with
        state := .tripping, waiters := [n.val], saved := true, armed := false, outstanding := true
        confirm := some (max s.now due + q.confirmTime * 1000), pulseFrame := some s.ft.frame })
      else rowAt tab k := by
  rw [rowAt_setRow, tripped, harmed]
  rfl

/-- The answer where the segment goes ISOLATING. -/
theorem Expiring.answersIsolating (h : Expiring n r d due s) (hpolicy : policyInForce s r = .trip) (hrun : s.mc.mode = .run)
    (he : expiryDecides s n r d due e) (hst : e.state = .isolating) :
    ∃ t, exec (.deadlineExpiry n) s = .next t ∧
      replacesSegment s t.segments n (decidedRecord (expiryConfirmation s) (expiredRecord r) d .isolating e.chain) ∧
      t.interrupters = e.interrupters ∧ t.channels = e.channels ∧
      t = { s with
        now := max s.now due, segments := t.segments, interrupters := t.interrupters, channels := t.channels
        nq := queued s.ft.frame e.bodies s.nq } := by
  obtain ⟨t, hexec, hrows, hint, hch, ht⟩ := h.answers hpolicy he
  rw [hst] at hrows
  have hmode : t.mc.mode = .run := by rw [ht, hrun]
  rw [expiryTail_isolating hmode hrows (by rfl)] at ht
  exact ⟨t, hexec, hrows, hint, hch, ht⟩

end

/-- Settles O54: what each walk decides (`Expiring.withholds` to `Expiring.trips`), the tail count following at the end. -/
theorem deadlineExpiryDecides : Obligations.DeadlineExpiryDecides := by
  intro n s r d due hheld hclean hr hstate hd hdeadline hroom now note marks decided verdict rows tail allowed
  have h : Expiring n r d due s := ⟨hheld, errorFree_of_clean hclean, hr, hstate, hd, hdeadline, hroom⟩
  refine ⟨fun hprofile hpolicy => ?_, fun htrip => ?_⟩
  · obtain ⟨tab, hrows, hexec⟩ := h.passesAnswer (policyInForce_hold hprofile hpolicy)
    exact ⟨_, hexec, rfl, hrows⟩
  have hpolicy : policyInForce s r = .trip := policyInForce_trip htrip
  refine ⟨fun hno => ?_, fun hyes hnone hroot => ?_, fun x q hyes hx hq hb honly => ?_⟩
  · have hallowed : tripsAllowed s = false := by rw [← Bool.not_eq_true, tripsAllowed_iff]; exact hno
    obtain ⟨t, hexec, hrows, hint, hch, ht⟩ := h.answers hpolicy (h.withholds hallowed)
    refine ⟨t, hexec, hrows, ht.trans ?_⟩
    rw [hint, hch]
    rfl
  · have hon : interrupterOn s r.up = none := interrupterOn_none.mpr fun y hy ⟨p, hp, hpb⟩ => hnone y p hy hp hpb
    obtain ⟨t, hexec, hrows, hint, hch, ht⟩ :=
      h.answers hpolicy (h.fails (tripsAllowed_iff.mpr hyes) hon (candidateBoundaries_root hr hroot))
    refine ⟨t, hexec, hrows, ht.trans ?_⟩
    rw [hint, hch]
    rfl
  have hallowed : tripsAllowed s = true := tripsAllowed_iff.mpr hyes
  have hon : interrupterOn s r.up = some x := hb ▸ interrupterOn_only hx hq (hb.symm ▸ honly)
  obtain ⟨above, hpath⟩ := candidateBoundaries_own hr
  refine ⟨fun o ho => ⟨fun hroot => ?_, fun m g y z hm hg hup honlyUp hne hy hz hzb hkind harmed hst honlyZ => ?_⟩,
    fun htripping => ?_, fun hst harmed => ?_⟩
  · obtain ⟨t, hexec, hrows, hint, hch, ht⟩ :=
      h.answers hpolicy (h.failsPast hallowed hon hq ho (candidateBoundaries_root hr hroot))
    refine ⟨t, hexec, hrows, ht.trans ?_⟩
    rw [hint, hch]
    rfl
  · have hony : interrupterOn s g.up = some y := hzb ▸ interrupterOn_only hy hz (hzb.symm ▸ honlyZ)
    obtain ⟨higher, hchild⟩ := candidateBoundaries_child hr hm hg hup honlyUp
    obtain ⟨t, hexec, hrows, hint, hch, ht⟩ :=
      h.answersIsolating hpolicy hyes.1 (h.tripsAbove hallowed hon hq ho hchild hony hz harmed hst) rfl
    have hchannels : t.channels = s.channels := hch.trans (pulsedChannels_remote hkind)
    refine ⟨t, hexec, hrows, fun k => hint ▸ rowAt_tripped harmed k, ht.trans ?_⟩
    rw [hchannels, withVerdict, tripDecision, hkind]
    rfl
  · obtain ⟨t, hexec, hrows, hint, hch, ht⟩ := h.answersIsolating hpolicy hyes.1 (h.joins hallowed hon hq htripping hpath) rfl
    refine ⟨t, hexec, hrows, fun k => hint ▸ rowAt_setRow .., ht.trans ?_⟩
    rw [hch]
    rfl
  · obtain ⟨t, hexec, hrows, hint, hch, ht⟩ := h.answersIsolating hpolicy hyes.1 (h.trips hallowed hon hq harmed hst hpath) rfl
    exact ⟨t, hexec, hrows, fun k => hint ▸ rowAt_tripped harmed k, fun c => hch ▸ pulsedChannels_get c, ht⟩

end Sys2Proof.Machine
end

section
namespace Sys2Proof.Machine

/-! ### RESTORE_SEGMENT (R118) -/

section
variable {s t : State} {n : Nat} {r : SegRec}

theorem act_restoreSegment (b : Byte) (s : State) : act (.restoreSegment b) s = takeRestoreSegment b.toNat s := rfl

/-- A segment record replaced by one in the same state is as urgent as before (R148). -/
theorem urgencySource_replaced {r' : SegRec} (hmode : t.mc.mode = s.mc.mode) (hint : t.interrupters = s.interrupters)
    (hr : segmentAt s n = some r) (hrows : replacesSegment s t.segments n r') (hst : r'.state = r.state) :
    urgencySource t = urgencySource s := by
  refine urgencySource_same hmode (fun m _ => ?_) fun x _ => ?_
  · by_cases hm : m = n
    · subst hm
      simp only [segmentUrgent, segmentAt_replaced hrows, hr, hst]
    · have hrow : rowAt t.segments m = rowAt s.segments m := (hrows m).trans (if_neg hm)
      unfold segmentUrgent
      rw [segmentAt_of_row hrow]
  · unfold isTripping
    rw [interrupterAt_congr hint]

/-! #### Excluded members that are lost -/

/-- A sensor whose membership of an excluded set cannot end by RESTORE_SEGMENT: STALE or QUARANTINED (R118). -/
def isLost (s : State) (d : Nat) : Bool := isStale s d || isQuarantined s d

theorem isLost_iff {d : Nat} : isLost s d = true ↔
    rowAt s.sensors d = some .quarantined ∨ ∃ q, sensorAt s d = some q ∧ q.status = .stale := by
  rw [isLost, Bool.or_eq_true, isStale_iff, isQuarantined_iff, or_comm]

/-- The first lost member of the excluded set, in boundary order (R118). -/
def lostMember (s : State) (r : SegRec) : Option Nat := (boundarySensors r).find? fun d => r.excluded.contains d && isLost s d

theorem lostMember_some {before after : List Nat} {d : Nat} (hsplit : r.up :: r.down = before ++ d :: after)
    (hd : d ∈ r.excluded) (hlost : isLost s d = true) (hfirst : ∀ e ∈ before, e ∈ r.excluded → ¬ isLost s e = true) :
    lostMember s r = some d := by
  rw [lostMember, boundarySensors, hsplit]
  refine find_split (fun e he => ?_) (by simp [hd, hlost])
  by_cases hex : e ∈ r.excluded
  · simp [hfirst e he hex]
  · simp [hex]

theorem lostMember_none (h : ∀ d ∈ r.up :: r.down, d ∈ r.excluded → ¬ isLost s d = true) : lostMember s r = none := by
  rw [lostMember, List.find?_eq_none]
  intro d hd hboth
  obtain ⟨hex, hlost⟩ := Bool.and_eq_true_iff.mp hboth
  exact h d hd (List.contains_iff_mem.mp hex) hlost

/-! #### What the owner answers -/

/-- A segment record with its excluded set emptied. -/
def restored (r : SegRec) : SegRec := { r with excluded := [] }

theorem takeRestoreSegment_notFound (h : rowAt s.segments n = none) : takeRestoreSegment n s = (s, refuse .notFound) := by
  simp [takeRestoreSegment, h]

theorem takeRestoreSegment_quarantined (hc : clean s = true) (h : rowAt s.segments n = some .quarantined) :
    takeRestoreSegment n s = (s, refuse .stateConflict) := by
  simp [takeRestoreSegment, h, readSegment_clean hc, segmentAt_quarantined h]

/-- RESTORE_SEGMENT of a record, with no error to read. -/
theorem takeRestoreSegment_live (hc : clean s = true) (h : segmentAt s n = some r) :
    takeRestoreSegment n s = (match lostMember s r with
      | some d => (s, refuseNaming .stateConflict .sensor d)
      | none => (modifySegment n restored s, restoredAnswer (modifySegment n restored s) n)) := by
  have hfind : ((boundarySensors r).filter r.excluded.contains).find? (fun x => isStale s x || isQuarantined s x) =
      lostMember s r := by simp [List.find?_filter, lostMember, isLost]
  have hrow : (rowAt s.segments n).isNone = false := by rw [segmentAt_row.mp h]; rfl
  unfold takeRestoreSegment
  simp only [hrow, Bool.false_eq_true, if_false, readSegment_clean hc, h, readSensors_clean hc, hfind]
  cases lostMember s r <;> rfl

theorem takeRestoreSegment_lost (hc : clean s = true) (h : segmentAt s n = some r) {d : Nat} (hd : lostMember s r = some d) :
    takeRestoreSegment n s = (s, refuseNaming .stateConflict .sensor d) := by
  rw [takeRestoreSegment_live hc h, hd]

/-- An emptied excluded set answers BLIND and DEGRADED clear (R118). -/
theorem restoredAnswer_restored (h : segmentAt s n = some (restored r)) :
    restoredAnswer s n = okWith (int1 (segStateByte r.state) ++ [0, 0]) := by
  have hblind : isBlind (restored r) = false := by simp [isBlind, restored]
  have hdegraded : isDegraded (restored r) = false := by simp [isDegraded, restored]
  rw [restoredAnswer, h]
  dsimp only
  rw [hblind, hdegraded, List.append_assoc]
  rfl

theorem modifySegment_restored (hc : clean s = true) (h : segmentAt s n = some r) :
    ∃ tab, modifySegment n restored s = { s with segments := tab } ∧ replacesSegment s tab n (restored r) :=
  ⟨_, modifySegment_eq n restored s, modifySegment_replaces h (show r.err = 0 from clean_segment hc h)⟩

/-- RESTORE_SEGMENT with no lost member, with no error to read. -/
theorem takeRestoreSegment_done (hc : clean s = true) (h : segmentAt s n = some r) (hnone : lostMember s r = none) :
    ∃ tab, takeRestoreSegment n s = ({ s with segments := tab }, okWith (int1 (segStateByte r.state) ++ [0, 0])) ∧
      replacesSegment s tab n (restored r) := by
  obtain ⟨tab, htab, hrows⟩ := modifySegment_restored hc h
  have hat : segmentAt { s with segments := tab } n = some (restored r) := segmentAt_replaced hrows
  refine ⟨tab, ?_, hrows⟩
  rw [takeRestoreSegment_live hc h, hnone]
  dsimp only
  rw [htab, restoredAnswer_restored hat]

/-- The record written and the state answered, whatever the state is (R118). -/
theorem exec_restoreSegment {b : Byte} (hready : ready s = true) (hpass : s.pass = none) (hs : inService s = true)
    (hc : clean s = true) (hf : fieldFault (.restoreSegment b) = none) (hr : segmentAt s b.toNat = some r)
    (hnone : lostMember s r = none) : ∃ tab, exec (.restoreSegment b) s =
      .next (answered 17 (okWith (int1 (segStateByte r.state) ++ [0, 0])) { s with segments := tab }) ∧
      replacesSegment s tab b.toNat (restored r) := by
  obtain ⟨tab, htake, hrows⟩ := takeRestoreSegment_done (clean_acting hc (.restoreSegment b)) hr hnone
  have hurgency : urgencySource { s with segments := tab } = urgencySource s := urgencySource_replaced rfl rfl hr hrows rfl
  exact ⟨tab, exec_taken (r := .restoreSegment b) rfl hready (not_delayed hpass) hs rfl hf ((act_restoreSegment b _).trans htake)
    (follow_okWith _) rfl hurgency, hrows⟩

end

/-- Settles O35: the clean record's first lost member decides (`lostMember`), and a restored record keeps its state. -/
theorem restoreSegmentEmptiesExcludedSet : Obligations.RestoreSegmentEmptiesExcludedSet := by
  intro b s hready hpass hs hc hb lost
  have hf : fieldFault (.restoreSegment b) = none := firstBad_within ⟨Nat.zero_le _, by omega⟩ []
  have hrefuse {a : Answer} (ha : a.follow ≠ .restart) (ht : takeRestoreSegment b.toNat (acting (.restoreSegment b) s) =
      (acting (.restoreSegment b) s, a)) : exec (.restoreSegment b) s = .next (answered 17 a s) :=
    exec_unchanged (r := .restoreSegment b) rfl hready (not_delayed hpass) hs rfl hf ((act_restoreSegment b _).trans ht) ha
  have hca := clean_acting hc (.restoreSegment b)
  have hlost (d : Nat) : isLost s d = true ↔ lost d := isLost_iff
  refine ⟨fun h => hrefuse (follow_refuse _) (takeRestoreSegment_notFound h),
    fun h => hrefuse (follow_refuse _) (takeRestoreSegment_quarantined hca h), fun r h => ?_⟩
  have hr : segmentAt s b.toNat = some r := segmentAt_row.mpr h
  refine ⟨fun before d after hsplit hd hld hfirst => ?_, fun hnone => ?_⟩
  · have hfound : lostMember s r = some d :=
      lostMember_some hsplit hd ((hlost d).mpr hld) fun e he hex hle => hfirst e he hex ((hlost e).mp hle)
    exact hrefuse (follow_refuseNaming _ _ _) (takeRestoreSegment_lost hca hr hfound)
  · exact exec_restoreSegment hready hpass hs hc hf hr (lostMember_none fun d hd hex hl => hnone d hd hex ((hlost d).mp hl))

end Sys2Proof.Machine
end

section
namespace Sys2Proof.Machine

/-! ### What no operation moves but one that reads or writes interrupters: the channels, and which interrupters are armed -/

/-- The kind, the arming and the inverted bits of each interrupter record. -/
def armings (s : State) (x : Nat) : Option (InterrupterKind × Bool × BitVec 32) :=
  (interrupterAt s x).map fun r => (r.kind, r.armed, r.err)

/-- What decides where a pulse may begin, beside mode and inhibit: the channels and the armings (R126, R142). -/
def guards (s : State) : Channels × (Nat → Option (InterrupterKind × Bool × BitVec 32)) := (s.channels, armings s)

theorem guards_congr {s t : State} (hc : t.channels = s.channels) (hi : t.interrupters = s.interrupters) : guards t = guards s := by
  unfold guards armings
  simp only [hc, interrupterAt_congr hi]

@[simp] theorem guards_update (now : Nat) (a : Table SensorPlace) (b : Table Nat) (c : Table SegPlace) (ring : List Frame)
    (pass : Option Pass) (hl : HostLink) (ft : Timebase) (nq : NoticeQueue) (cb : CountBank) (tm : TableMemory) (mc : ModeControl)
    (params : Params) (s : State) :
    guards { s with now, sensors := a, index := b, segments := c, ring, pass, hl, ft, nq, cb, tm, mc, params } = guards s := rfl

theorem guards_forEach {ns : List Nat} {f : Nat → State → State} (h : ∀ n s, guards (f n s) = guards s) (s : State) :
    guards (forEach ns f s) = guards s :=
  forEach_keeps (P := fun t => guards t = guards s) (fun n _ t ht => (h n t).trans ht) rfl

section
variable (s : State)

/-! #### Records, notices, counts -/

@[simp] theorem guards_bump (c : CountName) : guards (bump c s) = guards s := rfl
@[simp] theorem guards_latch (c : CondName) : guards (latch c s) = guards s := rfl
@[simp] theorem guards_writeSensor (n : Nat) (r : SensorRec) : guards (writeSensor n r s) = guards s := rfl
@[simp] theorem guards_writeSegment (n : Nat) (r : SegRec) : guards (writeSegment n r s) = guards s := rfl
@[simp] theorem guards_noteCorrection (k : Nat) : guards (noteCorrection k s) = guards s := rfl
@[simp] theorem guards_arriveAt (due : Nat) : guards (arriveAt due s) = guards s := rfl
@[simp] theorem guards_forgetWork (n : Nat) : guards (forgetWork n s) = guards s := rfl
@[simp] theorem guards_lostSensor (n : Nat) : guards (lostSensor n s) = guards s := rfl
@[simp] theorem guards_freeSlot (n : Nat) : guards (freeSlot n s) = guards s := rfl
@[simp] theorem guards_modifyPass (f : Pass → Pass) : guards (modifyPass f s) = guards s := rfl

/-- A segment that leaves every waiters list leaves the armings (R23). -/
@[simp] theorem guards_leaveWaiters (n : Nat) : guards (leaveWaiters n s) = guards s := by
  refine Prod.ext rfl (funext fun x => ?_)
  have hx : armings (leaveWaiters n s) x = armings s x := by
    unfold armings
    rw [interrupterAt_leaveWaiters, Option.map_map]
    rfl
  exact hx

@[simp] theorem guards_modifySensor (n : Nat) (f : SensorRec → SensorRec) : guards (modifySensor n f s) = guards s := by
  rw [modifySensor_eq, guards_update]

@[simp] theorem guards_modifySegment (n : Nat) (f : SegRec → SegRec) : guards (modifySegment n f s) = guards s := by
  rw [modifySegment_eq, guards_update]

@[simp] theorem guards_enqueue (n : Notice) : guards (enqueue n s) = guards s := guards_congr (by simp) (by simp)

@[simp] theorem guards_raiseAt (f : FrameNo) (b : NoticeBody) : guards (raiseAt f b s) = guards s := guards_enqueue _ _

@[simp] theorem guards_raiseNow (b : NoticeBody) : guards (raiseNow b s) = guards s := guards_raiseAt _ _ _

@[simp] theorem guards_raiseAll (f : FrameNo) (bs : List NoticeBody) : guards (raiseAll f bs s) = guards s :=
  raiseAll_keeps (P := fun t => guards t = guards s) (fun b t ht => (guards_raiseAt t f b).trans ht) bs rfl

@[simp] theorem guards_settleUrgency (u : Bool) : guards (settleUrgency u s) = guards s := guards_congr (by simp) (by simp)

/-! #### Reads of sensors and segments (R22, R23, R162) -/

@[simp] theorem guards_quarantineSegment (n : Nat) : guards (quarantineSegment n s) = guards s := by simp [quarantineSegment]

@[simp] theorem guards_readSegment (n : Nat) : guards (readSegment n s) = guards s := by
  rcases readSegment_any n s with he | ⟨r, he⟩ | ⟨r, he⟩ | he <;> simp [he]

@[simp] theorem guards_readSegments : guards (readSegments s) = guards s := guards_forEach (fun n t => guards_readSegment t n) s

@[simp] theorem guards_excludeFrom (slot n : Nat) : guards (excludeFrom slot n s).1 = guards s := by
  unfold excludeFrom
  split
  · split <;> simp
  · rfl

@[simp] theorem guards_excludeEverywhere (slot : Nat) (ns : List Nat) : guards (excludeEverywhere slot ns s).1 = guards s := by
  induction ns generalizing s with
  | nil => rfl
  | cons n ns ih => exact (ih _).trans ((guards_excludeFrom _ slot n).trans (guards_readSegment s n))

@[simp] theorem guards_quarantineSensor (slot : Nat) : guards (quarantineSensor slot s) = guards s := by
  simp [quarantineSensor_eq]

@[simp] theorem guards_readSensor (slot : Nat) : guards (readSensor slot s) = guards s := by
  rcases readSensor_cases slot s with he | ⟨r, he⟩ | ⟨r, he⟩ | he <;> simp [he]

@[simp] theorem guards_readSensors (slots : List Nat) : guards (readSensors slots s) = guards s :=
  guards_forEach (fun n t => guards_readSensor t n) s

@[simp] theorem guards_rewriteSensors (f : SensorRec → SensorRec) : guards (rewriteSensors f s) = guards s :=
  guards_forEach (fun d t => by simp) s

@[simp] theorem guards_rewriteSegments (f : State → SegRec → SegRec) : guards (rewriteSegments f s) = guards s :=
  guards_forEach (fun n t => by simp) s

/-! #### The verdict part of a segment and its notices -/

@[simp] theorem guards_setSegState (n : Nat) (st : SegState) : guards (setSegState n st s) = guards s := guards_modifySegment _ _ _

@[simp] theorem guards_modifyChain (n : Nat) (f : List ChainEntry → List ChainEntry) : guards (modifyChain n f s) = guards s :=
  guards_modifySegment _ _ _

@[simp] theorem guards_recordVisit (n x : Nat) (o : ChainOutcome) : guards (recordVisit n x o s) = guards s :=
  guards_modifyChain _ _ _

@[simp] theorem guards_noteIsolationFailed (n : Nat) : guards (noteIsolationFailed n s) = guards s := by
  unfold noteIsolationFailed
  split
  · split <;> simp
  · rfl

@[simp] theorem guards_noteEscalated (x : Nat) (c : FailReason) (n : Nat) : guards (noteEscalated x c n s) = guards s :=
  guards_raiseNow _ _

@[simp] theorem guards_noteVerdict (n : Nat) (a : Option Nat) : guards (noteVerdict n a s) = guards s := by
  unfold noteVerdict
  split
  · split <;> simp
  · rfl

/-! #### The ring and the timebase -/

@[simp] theorem guards_closeOldest : guards (closeOldest s) = guards s := by
  rw [closeOldest_eq]
  rfl

@[simp] theorem guards_discardOldest : guards (discardOldest s) = guards s := by
  unfold discardOldest
  split <;> simp

@[simp] theorem guards_frameStart : guards (frameStart s) = guards s := by
  rw [frameStart_eq, ringFrameStart]
  split
  · rw [guards_closeOldest, guards_update, openFrame, guards_update]
    split <;> simp [stepped]
  · rfl

@[simp] theorem guards_enterTimebase (new : TimebaseState) (c : TimebaseCause) : guards (enterTimebase new c s) = guards s := by
  simp [enterTimebase]

@[simp] theorem guards_lockAt (time : Nat) : guards (lockAt time s) = guards s := by
  rw [lockAt, guards_enterTimebase, emptyHistory, guards_update]
  split <;> simp

@[simp] theorem guards_acquireEdge (time : Nat) : guards (acquireEdge time s) = guards s := by
  unfold acquireEdge startRun
  split
  · simp
  · repeat' split
    all_goals simp

@[simp] theorem guards_lockedEdge (time : Nat) : guards (lockedEdge time s) = guards s := by
  unfold lockedEdge
  split
  · split <;> simp
  · simp

@[simp] theorem guards_syncEdge (time : Nat) : guards (syncEdge time s) = guards s := by
  unfold syncEdge
  split
  · split <;> simp
  · rfl

@[simp] theorem guards_historyTimeout : guards (historyTimeout s) = guards s := by
  unfold historyTimeout emptyHistory
  split <;> simp

@[simp] theorem guards_internalStart : guards (internalStart s) = guards s := by
  unfold internalStart
  split
  · split <;> simp
  · rfl

@[simp] theorem guards_windowClose : guards (windowClose s) = guards s := by
  unfold windowClose emptyHistory
  split
  · split <;> simp
  · rfl

@[simp] theorem guards_restartTimebase (period : Nat) (enable : Bool) : guards (restartTimebase period enable s) = guards s := by
  unfold restartTimebase
  extract_lets new ft t
  have ht : guards t = guards s := rfl
  split
  · exact ht
  · exact (guards_enterTimebase t new .hostSet).trans ht

/-! #### Reports -/

@[simp] theorem guards_storeReport (number : FrameNo) (slot : Nat) (r : StoredReport) :
    guards (storeReport number slot r s) = guards s := by
  unfold storeReport
  extract_lets put t
  have ht : guards t = guards s := rfl
  clear_value t
  split
  · split <;> simp [ht]
  · exact ht

@[simp] theorem guards_judgeKnown (e : ReportEntry) (f : Frame) (slot : Nat) (r : SensorRec) :
    guards (judgeKnown e f slot r s).1 = guards s := by
  unfold judgeKnown
  split
  · simp
  · split
    · rfl
    · split
      · simp
      · dsimp only
        rw [guards_storeReport]
        repeat' split
        all_goals simp

@[simp] theorem guards_judgeEntry (e : ReportEntry) : guards (judgeEntry e s).1 = guards s := by
  unfold judgeEntry
  split
  · simp
  · split
    · simp
    · split
      · simp
      · dsimp only
        split <;> simp

@[simp] theorem guards_judgeEntries (es : List ReportEntry) : guards (judgeEntries es s).1 = guards s := by
  induction es generalizing s with
  | nil => rfl
  | cons e es ih => exact (ih _).trans (guards_judgeEntry s e)

end
end Sys2Proof.Machine
end

section
namespace Sys2Proof.Machine

section
variable (s : State)

/-! #### The stages of the pass -/

@[simp] theorem guards_queueSensorNotices (bs : List NoticeBody) : guards (queueSensorNotices bs s) = guards s := rfl

@[simp] theorem guards_queueSegmentNotices (n : Nat) (bs : List NoticeBody) : guards (queueSegmentNotices n bs s) = guards s := rfl

@[simp] theorem guards_statusStep (slot : Nat) (r : SensorRec) (v : Bool) : guards (statusStep slot r v s) = guards s := by
  unfold statusStep goStale resume
  split <;> split <;> simp

@[simp] theorem guards_stage1Sensor (f : Frame) (slot : Nat) : guards (stage1Sensor f slot s) = guards s := by
  unfold stage1Sensor writeReport
  dsimp only
  split
  · simp
  · split <;> simp

@[simp] theorem guards_stage1 : guards (stage1 s) = guards s := by
  unfold stage1
  split
  · exact guards_forEach (fun d t => guards_stage1Sensor t _ d) s
  · rfl

@[simp] theorem guards_stage2Segment (n : Nat) : guards (stage2Segment n s) = guards s := by
  unfold stage2Segment
  dsimp only
  split
  · split <;> simp
  · simp

@[simp] theorem guards_stage2 : guards (stage2 s) = guards s := guards_forEach (fun n t => guards_stage2Segment t n) s

@[simp] theorem guards_judgeSegment (p : Pass) (n : Nat) (r : SegRec) : guards (judgeSegment p n r s) = guards s := by
  unfold judgeSegment
  extract_lets w enters s1
  have h1 : guards s1 = guards s := by
    unfold s1
    split <;> simp
  split
  · simp [h1]
  · split <;> simp [h1]

@[simp] theorem guards_stage3Segment (n : Nat) : guards (stage3Segment n s) = guards s := by
  unfold stage3Segment stage3Running stage3Deenergized stage3Settling
  dsimp only
  split
  · repeat' split
    all_goals simp
  · simp

@[simp] theorem guards_stage3 : guards (stage3 s) = guards s := guards_forEach (fun n t => guards_stage3Segment t n) s

@[simp] theorem guards_stage4Sensor (slot : Nat) : guards (stage4Sensor slot s) = guards s := by
  unfold stage4Sensor
  dsimp only
  split
  · split
    · split <;> simp
    · simp
  · simp

@[simp] theorem guards_stage4 : guards (stage4 s) = guards s := by
  unfold stage4
  split
  · exact guards_forEach (fun d t => guards_stage4Sensor t d) s
  · rfl

theorem guards_runStage (g next : Stage) {work : State → State} (h : guards (work s) = guards s) :
    guards (runStage g next work s) = guards s := by
  unfold runStage goTo
  split <;> simp [h]

@[simp] theorem guards_passDeadline (n : Nat) (r : SegRec) : guards (passDeadline n r s) = guards s := by
  unfold passDeadline
  dsimp only
  split <;> simp

@[simp] theorem guards_deadlineStart (p : Pass) (n : Nat) : guards (deadlineStart p n s).1 = guards s := by
  unfold deadlineStart
  dsimp only
  split
  · simp
  · split
    · split
      · simp
      · split <;> simp
    · simp

@[simp] theorem guards_deadlineStarts (p : Pass) (ns : List Nat) : guards (deadlineStarts p ns s).1 = guards s := by
  induction ns generalizing s with
  | nil => rfl
  | cons n ns ih => exact (ih _).trans (guards_deadlineStart s p n)

@[simp] theorem guards_stopConfirmed (p : Pass) : guards (stopConfirmed p s) = guards s := by
  refine guards_forEach (fun n t => ?_) s
  split <;> simp

@[simp] theorem guards_noteCorrections (f : FrameNo) : guards (noteCorrections f s) = guards s := by
  unfold noteCorrections
  split <;> simp

/-! #### The line -/

@[simp] theorem guards_setRx (x : RxState) : guards (setRx x s) = guards s := rfl
@[simp] theorem guards_sendEnds : guards (sendEnds s) = guards s := rfl

@[simp] theorem guards_dropOther (a : Byte) : guards (dropOther a s) = guards s := by
  rcases dropOther_cases a s with he | ⟨_, _, _, he⟩ <;> rw [he]
  rfl

@[simp] theorem guards_buffer (r : Request) : guards (buffer r s) = guards s := by
  unfold buffer
  split <;> rfl

@[simp] theorem guards_requestArrives (r : Request) : guards (requestArrives r s) = guards s := by
  unfold requestArrives
  split <;> simp

@[simp] theorem guards_markedCharacter (a : Byte) : guards (markedCharacter a s) = guards s := by
  unfold markedCharacter
  split
  · dsimp only
    split <;> split <;> rfl
  · rfl

@[simp] theorem guards_messageArrives (a : Byte) (payload : List Byte) (check : Half) :
    guards (messageArrives a payload check s) = guards s := by
  unfold messageArrives
  dsimp only
  repeat' split
  all_goals simp

@[simp] theorem guards_breakArrives : guards (breakArrives s) = guards s := by
  unfold breakArrives
  split <;> rfl

@[simp] theorem guards_framingArrives (c : FramingCause) : guards (framingArrives c s) = guards s := by
  unfold framingArrives
  repeat' split
  all_goals rfl

@[simp] theorem guards_gapArrives : guards (gapArrives s) = guards s := by
  unfold gapArrives
  repeat' split
  all_goals rfl

@[simp] theorem guards_sendStarts : guards (sendStarts s) = guards s := by
  unfold sendStarts
  split <;> rfl

@[simp] theorem guards_loopbackBegins (good : Bool) : guards (loopbackBegins good s) = guards s := by
  unfold loopbackBegins
  split <;> rfl

@[simp] theorem guards_resetReleases : guards (resetReleases s) = guards s := by
  unfold resetReleases
  split <;> rfl

/-! #### Requests that leave the interrupters -/

@[simp] theorem guards_takeDefineSensor (slot : Nat) (a : FieldAddress) (ph : PhaseSet) (l : Nat) :
    guards (takeDefineSensor slot a ph l s).1 = guards s := by
  have hread (t : State) : guards (readAddress a t) = guards t := by
    unfold readAddress
    split <;> simp
  unfold takeDefineSensor placeSensor
  split
  · rfl
  · dsimp only
    split
    · simp
    · split <;> simp [hread]

@[simp] theorem guards_takeQuerySensor (slot : Nat) : guards (takeQuerySensor slot s).1 = guards s := by
  unfold takeQuerySensor
  dsimp only
  split <;> simp

@[simp] theorem guards_takeDefineSegment (n : Nat) (d : SegmentFields) : guards (takeDefineSegment n d s).1 = guards s := by
  unfold takeDefineSegment defineSegmentChecked
  split
  · rfl
  · split
    · rfl
    · dsimp only
      split
      · simp
      · repeat' split
        all_goals simp

@[simp] theorem guards_takeRemoveSegment (n : Nat) : guards (takeRemoveSegment n s).1 = guards s := by
  unfold takeRemoveSegment
  split
  · rfl
  · dsimp only
    split <;> simp

@[simp] theorem guards_takeQuerySegment (n : Nat) : guards (takeQuerySegment n s).1 = guards s := by
  unfold takeQuerySegment readForEstimate
  dsimp only
  split
  · rfl
  all_goals split <;> simp

@[simp] theorem guards_takeReleaseSegment (n : Nat) : guards (takeReleaseSegment n s).1 = guards s := by
  unfold takeReleaseSegment
  split
  · rfl
  · dsimp only
    split
    · simp
    · split
      · dsimp only
        rw [guards_forEach fun d t => by simp [unseedSensor]]
        simp
      · simp

@[simp] theorem guards_takeRestoreSegment (n : Nat) : guards (takeRestoreSegment n s).1 = guards s := by
  unfold takeRestoreSegment
  split
  · rfl
  · dsimp only
    split
    · simp
    · split <;> simp

@[simp] theorem guards_takeSetMode (toRun : Bool) : guards (takeSetMode toRun s).1 = guards s := by
  have hrun : guards (enterRun s) = guards s := by
    unfold enterRun
    dsimp only
    rw [guards_update]
    split <;> simp
  have hhold : guards (enterHold s) = guards s := guards_rewriteSegments _ _
  unfold takeSetMode
  repeat' split
  all_goals simp [hrun, hhold]

@[simp] theorem guards_takeSetTimebase (p : Nat) (e : Bool) (next : Option FrameNo) :
    guards (takeSetTimebase p e next s).1 = guards s := by
  unfold takeSetTimebase renumber
  dsimp only
  split <;> split <;> simp

@[simp] theorem guards_adjustSensor (old new slot : Nat) : guards (adjustSensor old new slot s) = guards s := by
  unfold adjustSensor
  dsimp only
  split
  · simp
  · split <;> simp

@[simp] theorem guards_takeSetParams (ps : List ParamPair) : guards (takeSetParams ps s).1 = guards s := by
  unfold takeSetParams
  dsimp only
  split
  · rfl
  · dsimp only
    rw [guards_forEach fun d t => by simp]
    rfl

@[simp] theorem guards_takeReport (es : List ReportEntry) : guards (takeReport es s).1 = guards s := guards_judgeEntries s es

@[simp] theorem guards_takeFetchNotices (n : Nat) : guards (takeFetchNotices n s).1 = guards s := rfl

@[simp] theorem guards_takeGetCounts : guards (takeGetCounts s).1 = guards s := rfl

@[simp] theorem guards_takeClearCounts (token : BitVec 8) : guards (takeClearCounts token s).1 = guards s := by
  unfold takeClearCounts
  repeat' split
  all_goals rfl

end
end Sys2Proof.Machine
end

section
namespace Sys2Proof.Machine

/-! ### Where a pulse begins (R123, R126, R142) -/

/-- No interrupter record holds an inverted bit. -/
def soundInterrupters (s : State) : Prop := ∀ x r, interrupterAt s x = some r → r.err = 0

/-- A pulse may begin on the channel, an interrupter record misread apart: `mayPulse` where the interrupter records are sound. -/
def pulseAllowed (s : State) (ch : Fin 4) : Prop :=
  s.mc.mode = .run ∧ effectiveInhibit s = false ∧ (s.channels.get ch).failed = false ∧ (soundInterrupters s →
    ∃ x r, x < 16 ∧ interrupterAt s x = some r ∧ r.kind = .loc ch ∧ r.armed = true)

theorem pulseAllowed.mayPulse {s : State} {ch : Fin 4} (h : pulseAllowed s ch) (hs : soundInterrupters s) : mayPulse s ch :=
  ⟨h.1, h.2.1, h.2.2.1, h.2.2.2 hs⟩

/-- Every pulse stands as before, or runs where one may begin. -/
def pulsesFrom (s t : State) : Prop := ∀ ch, (t.channels.get ch).pulse = (s.channels.get ch).pulse ∨
  ((t.channels.get ch).pulse ≠ none ∧ pulseAllowed s ch)

/-- An interrupter armed in t was armed in s, on the same channel. -/
def armsNone (s t : State) : Prop := ∀ x r, interrupterAt t x = some r → r.armed = true →
  ∃ q, interrupterAt s x = some q ∧ q.armed = true ∧ q.kind = r.kind

/-- State t comes from s by operations on records: mode, inhibit and settings stand, nothing is armed, and a pulse begins only where
it may. -/
structure Follows (s t : State) : Prop where
  stands : standing t = standing s
  sound : soundInterrupters s → soundInterrupters t
  armed : soundInterrupters s → armsNone s t
  pulses : pulsesFrom s t

section
variable {s t u : State} {ch : Fin 4} {x n : Nat}

theorem pulsesFrom_same (h : t.channels = s.channels) : pulsesFrom s t := fun _ => .inl (by rw [h])

theorem armsNone_refl : armsNone s s := fun _ r hr ha => ⟨r, hr, ha, rfl⟩

theorem armsNone_of_armings (h : armings t = armings s) : armsNone s t := by
  intro x r hr ha
  have hx : armings s x = some (r.kind, r.armed, r.err) := by rw [← h, armings, hr, Option.map_some]
  obtain ⟨q, hq, he⟩ := Option.map_eq_some_iff.mp hx
  simp only [Prod.mk.injEq] at he
  exact ⟨q, hq, he.2.1.trans ha, he.1⟩

theorem sound_of_armings (h : armings t = armings s) (hs : soundInterrupters s) : soundInterrupters t := by
  intro x r hr
  have hx : armings s x = some (r.kind, r.armed, r.err) := by rw [← h, armings, hr, Option.map_some]
  obtain ⟨q, hq, he⟩ := Option.map_eq_some_iff.mp hx
  simp only [Prod.mk.injEq] at he
  exact he.2.2.symm.trans (hs x q hq)

theorem sound_of_clean (h : clean s = true) : soundInterrupters s := fun _ _ => clean_interrupter h

theorem failed_of_standing (h : standing t = standing s) (ch : Fin 4) : (t.channels.get ch).failed = (s.channels.get ch).failed := by
  simpa [standing] using congrArg (fun z => (z.channels.get ch).failed) h

theorem mc_of_standing (h : standing t = standing s) : t.mc = s.mc := congrArg Standing.mc h

theorem effectiveInhibit_of_standing (h : standing t = standing s) : effectiveInhibit t = effectiveInhibit s := by
  have hpin : t.inhibitPin = s.inhibitPin := congrArg Standing.inhibitPin h
  rw [effectiveInhibit, effectiveInhibit, hpin, mc_of_standing h]

theorem tripsAllowed_of_standing (h : standing t = standing s) : tripsAllowed t = tripsAllowed s := by
  rw [tripsAllowed, tripsAllowed, effectiveInhibit_of_standing h, mc_of_standing h]

/-- Where a pulse may begin after operations on records, it might before. -/
theorem Follows.allowed (h : Follows s t) (ht : pulseAllowed t ch) : pulseAllowed s ch := by
  obtain ⟨hrun, hinhibit, hgood, hbound⟩ := ht
  rw [mc_of_standing h.stands] at hrun
  rw [effectiveInhibit_of_standing h.stands] at hinhibit
  rw [failed_of_standing h.stands] at hgood
  refine ⟨hrun, hinhibit, hgood, fun hs => ?_⟩
  obtain ⟨x, r, hx, hr, hk, ha⟩ := hbound (h.sound hs)
  obtain ⟨q, hq, hqa, hqk⟩ := h.armed hs x r hr ha
  exact ⟨x, q, hx, hq, hqk.trans hk, hqa⟩

theorem Follows.refl (s : State) : Follows s s := ⟨rfl, id, fun _ => armsNone_refl, pulsesFrom_same rfl⟩

theorem Follows.trans (h : Follows s t) (h' : Follows t u) : Follows s u where
  stands := h'.stands.trans h.stands
  sound hs := h'.sound (h.sound hs)
  armed hs x r hr ha := by
    obtain ⟨q, hq, hqa, hqk⟩ := h'.armed (h.sound hs) x r hr ha
    obtain ⟨p, hp, hpa, hpk⟩ := h.armed hs x q hq hqa
    exact ⟨p, hp, hpa, hpk.trans hqk⟩
  pulses ch := by
    rcases h'.pulses ch with hu | ⟨hne, hu⟩
    · rw [hu]
      exact h.pulses ch
    · exact .inr ⟨hne, h.allowed hu⟩

theorem Follows.of_guards (hst : standing t = standing s) (hg : guards t = guards s) : Follows s t where
  stands := hst
  sound := sound_of_armings (congrArg Prod.snd hg)
  armed _ := armsNone_of_armings (congrArg Prod.snd hg)
  pulses := pulsesFrom_same (congrArg Prod.fst hg)

/-- Operations that leave the guards after operations on records. -/
theorem Follows.unguarded (h : Follows s t) (hst : standing u = standing t) (hg : guards u = guards t) : Follows s u :=
  h.trans (.of_guards hst hg)

theorem Follows.forEach {ns : List Nat} {f : Nat → State → State} (h : ∀ n t, Follows t (f n t)) (s : State) :
    Follows s (forEach ns f s) :=
  forEach_keeps (P := Follows s) (fun n _ t ht => ht.trans (h n t)) (.refl s)

/-- A record is written; where the records are sound, it is armed only as the one before it was. -/
theorem Follows.write {r : IntRec} (h : soundInterrupters s → r.armed = true →
    ∃ q, interrupterAt s x = some q ∧ q.armed = true ∧ q.kind = r.kind) : Follows s (writeInterrupter x r s) where
  stands := rfl
  sound hs y p hp := by
    rw [interrupterAt_writeInterrupter] at hp
    split at hp
    · cases hp
      rfl
    · exact hs y p hp
  armed hs y p hp ha := by
    rw [interrupterAt_writeInterrupter] at hp
    split at hp
    · cases hp
      subst y
      exact h hs ha
    · exact ⟨p, hp, ha, rfl⟩
  pulses := pulsesFrom_same rfl

/-- A record rewritten without a change of its kind and arming. -/
theorem Follows.rewrite {q r : IntRec} (hq : interrupterAt s x = some q) (ha : r.armed = q.armed) (hk : r.kind = q.kind) :
    Follows s (writeInterrupter x r s) :=
  .write fun _ hr => ⟨q, hq, ha.symm.trans hr, hk.symm⟩

/-- A place that comes to hold no record. -/
theorem Follows.lose {tab : Table IntPlace} (h : ∀ y r, rowAt tab y = some (.live r) → rowAt s.interrupters y = some (.live r)) :
    Follows s { s with interrupters := tab } where
  stands := rfl
  sound hs y p hp := hs y p (interrupterAt_row.mpr (h y p (interrupterAt_row.mp hp)))
  armed _ y p hp ha := ⟨p, interrupterAt_row.mpr (h y p (interrupterAt_row.mp hp)), ha, rfl⟩
  pulses := pulsesFrom_same rfl

theorem Follows.quarantined (x : Nat) (s : State) : Follows s { s with interrupters := setRow s.interrupters x .tableError } := by
  refine .lose fun y r hr => ?_
  rw [rowAt_setRow] at hr
  split at hr
  · cases hr
  · exact hr

theorem Follows.dropped (x : Nat) (s : State) : Follows s { s with interrupters := dropRow s.interrupters x } := by
  refine .lose fun y r hr => ?_
  rw [rowAt_dropRow] at hr
  split at hr
  · cases hr
  · exact hr

/-- Records that hold inverted bits say nothing of the armings. -/
theorem Follows.unsound (hs : ¬ soundInterrupters s) (hst : standing t = standing s) (hp : pulsesFrom s t) : Follows s t :=
  ⟨hst, fun h => absurd h hs, fun h => absurd h hs, hp⟩

/-! #### Trips (R126, R142) -/

/-- A pulse starts on a good channel alone. -/
theorem startPulse_pulse (k : Fin 4) : ((startPulse ch s).channels.get k).pulse = (s.channels.get k).pulse ∨
    (k = ch ∧ (s.channels.get ch).failed = false ∧ ((startPulse ch s).channels.get k).pulse ≠ none) := by
  rw [startPulse, modifyChannel_get]
  by_cases hk : k = ch
  · subst hk
    cases (s.channels.get k).failed <;> simp
  · simp [hk]

/-- A trip disarms its interrupter, and its pulse begins on the channel that this one was armed on. -/
theorem Follows.startTrip {r : IntRec} (hx : x < 16) (hr : interrupterAt s x = some r) (ha : r.armed = true)
    (hallowed : tripsAllowed s = true) (n : Nat) (c : TripCause) : Follows s (startTrip x r n c s) := by
  have hwritten : Follows s (writeInterrupter x (tripped n s r) s) := .write fun _ h => by simp [tripped] at h
  have hvisited := hwritten.trans (.of_guards (t := recordVisit n x .tripped (setSegState n .isolating (writeInterrupter x (tripped n s r) s)))
    (by simp) (by simp))
  unfold Machine.startTrip
  refine Follows.trans ?_ (.of_guards (standing_raiseNow _ _) (guards_raiseNow _ _))
  have hchannels : (recordVisit n x .tripped (setSegState n .isolating (writeInterrupter x (tripped n s r) s))).channels = s.channels :=
    congrArg Prod.fst (by simp : guards (recordVisit n x .tripped (setSegState n .isolating (writeInterrupter x (tripped n s r) s))) =
      guards (writeInterrupter x (tripped n s r) s))
  cases hk : r.kind with
  | remote => exact hvisited
  | loc ch =>
    generalize recordVisit n x .tripped (setSegState n .isolating (writeInterrupter x (tripped n s r) s)) = v at hvisited hchannels ⊢
    obtain ⟨hrun, hinhibit⟩ := tripsAllowed_iff.mp hallowed
    refine ⟨(standing_startPulse v ch).trans hvisited.stands, fun hs => hvisited.sound hs, fun hs => hvisited.armed hs, fun k => ?_⟩
    have hpulse := startPulse_pulse (s := v) (ch := ch) k
    rw [hchannels] at hpulse
    refine hpulse.imp_right fun ⟨hkch, hgood, hne⟩ => ⟨hne, ?_⟩
    subst hkch
    exact ⟨hrun, hinhibit, hgood, fun _ => ⟨x, r, hx, hr, hk, ha⟩⟩

theorem interrupterOn_lt {b : Nat} (h : interrupterOn s b = some x) : x < 16 :=
  mem_allInterrupters.mp (List.mem_of_find?_eq_some h)

section
variable {e : Escalation} (he : ∀ x c b ws t, Follows t (e x c b ws t))
include he

theorem Follows.quarantineInterrupter (x : Nat) (r : IntRec) (s : State) : Follows s (quarantineInterrupter e x r s) := by
  have hlost := (Follows.quarantined x s).trans (.of_guards (standing_raiseNow _ (.quarantined .interrupter x)) (guards_raiseNow _ _))
  unfold Machine.quarantineInterrupter
  dsimp only
  split
  · exact hlost.trans (he _ _ _ _ _)
  · exact hlost

/-- A read leaves sound records; of others it may deliver anything (R162; log 10). -/
theorem Follows.readInterrupterWith (x : Nat) (s : State) : Follows s (readInterrupterWith e x s) := by
  by_cases hs : soundInterrupters s
  · rw [readInterrupterWith_noError e (hs x)]
    exact .refl s
  rcases readInterrupterWith_cases e x s with heq | ⟨r, heq⟩ | ⟨r, heq⟩ | ⟨r, heq⟩ <;> rw [heq]
  · exact .refl s
  · exact .unsound hs rfl (pulsesFrom_same rfl)
  · exact .unsound hs rfl (pulsesFrom_same rfl)
  · have hlatched : Follows s (latch .eccDoubleSeen s) := .of_guards rfl rfl
    exact hlatched.trans (.quarantineInterrupter he x r (latch .eccDoubleSeen s))

theorem Follows.walkWith (n : Nat) (c : TripCause) (bs : List Nat) (hallowed : tripsAllowed s = true) :
    Follows s (walkWith e n c bs s) := by
  induction bs generalizing s with
  | nil => exact .of_guards (standing_setSegState _ _ _) (guards_setSegState _ _ _)
  | cons b bs ih =>
    unfold Machine.walkWith
    cases hon : interrupterOn s b with
    | none => exact ih hallowed
    | some x =>
      have hread := Follows.readInterrupterWith he x s
      dsimp only
      generalize Machine.readInterrupterWith e x s = s1 at hread ⊢
      have hallowed1 : tripsAllowed s1 = true := (tripsAllowed_of_standing hread.stands).trans hallowed
      have hpassed (o : ChainOutcome) : Follows s (Machine.walkWith e n c bs (recordVisit n x o s1)) :=
        (hread.unguarded (standing_recordVisit _ _ _ _) (guards_recordVisit _ _ _ _)).trans
          (ih ((tripsAllowed_of_standing (standing_recordVisit _ _ _ _)).trans hallowed1))
      cases hr : interrupterAt s1 x with
      | none => exact hpassed _
      | some r =>
        have htrips : Follows s (if r.armed = true then Machine.startTrip x r n c s1 else
            Machine.walkWith e n c bs (recordVisit n x .skippedDisarmed s1)) := by
          by_cases ha : r.armed = true
          · rw [if_pos ha]
            exact hread.trans (.startTrip (interrupterOn_lt hon) hr ha hallowed1 n c)
          · rw [if_neg ha]
            exact hpassed _
        dsimp only
        cases r.state with
        | tripping =>
          exact (hread.trans (.rewrite (r := { r with state := .tripping, waiters := r.waiters ++ [n] }) hr rfl rfl)).unguarded (by simp) (by simp)
        | failed => exact hpassed _
        | opened => exact hpassed _
        | unknown => exact htrips
        | closed => exact htrips

theorem Follows.escalateOne (x : Nat) (c : FailReason) (b n : Nat) (s : State) :
    Follows s (escalateOne (Machine.walkWith e) x c b n s) := by
  have hread := Follows.of_guards (standing_readSegments s) (guards_readSegments s)
  unfold Machine.escalateOne
  generalize readSegments s = s1 at hread ⊢
  dsimp only
  cases segmentAt s1 n with
  | none => exact hread
  | some _ =>
    have hmarked := hread.unguarded (standing_modifyChain s1 n (setNewest .escalatedFrom)) (guards_modifyChain s1 n _)
    generalize modifyChain n (setNewest .escalatedFrom) s1 = s2 at hmarked ⊢
    have hnoted (v : State) (hv : Follows s v) : Follows s (noteIsolationFailed n (noteEscalated x c n v)) :=
      hv.unguarded (by simp) (by simp)
    refine hnoted _ ?_
    split
    · exact hmarked.trans (.walkWith he n _ _ ‹_›)
    · exact hmarked.unguarded (standing_setSegState _ _ _) (guards_setSegState _ _ _)

end

theorem Follows.escalateWith (fuel x : Nat) (c : FailReason) (b : Nat) (ws : List Nat) (s : State) :
    Follows s (escalateWith fuel x c b ws s) := by
  induction fuel generalizing x c b ws s with
  | zero => exact .refl s
  | succ fuel ih =>
    unfold Machine.escalateWith
    split
    · exact .of_guards (standing_raiseNow _ _) (guards_raiseNow _ _)
    · exact .forEach (fun n t => .escalateOne ih x c b n t) s

theorem Follows.walk (n : Nat) (c : TripCause) (bs : List Nat) (hallowed : tripsAllowed s = true) : Follows s (walk n c bs s) :=
  .walkWith (Follows.escalateWith 17) n c bs hallowed

theorem Follows.readInterrupter (x : Nat) (s : State) : Follows s (readInterrupter x s) :=
  .readInterrupterWith (Follows.escalateWith 17) x s

theorem Follows.readInterrupters (s : State) : Follows s (readInterrupters s) := .forEach .readInterrupter s

/-! #### Confirmations, proofs, expiries -/

theorem Follows.confirmWalk (n : Nat) (k : Confirmation) (s : State) : Follows s (confirmWalk n k s) := by
  have hread := Follows.of_guards (standing_readSegments s) (guards_readSegments s)
  unfold Machine.confirmWalk
  generalize readSegments s = s1 at hread ⊢
  dsimp only
  cases segmentAt s1 n with
  | none => exact hread
  | some r =>
    dsimp only
    cases r.suspect with
    | none => exact hread
    | some d =>
      dsimp only
      have hwritten := hread.unguarded (standing_writeSegment s1 n { r with verdict := some (verdictOf r d k), suspect := none })
        (guards_writeSegment s1 n _)
      generalize writeSegment n _ s1 = s2 at hwritten ⊢
      have hnoted (v : State) (hv : Follows s v) : Follows s (noteIsolationFailed n (noteVerdict n k.arc v)) :=
        hv.unguarded (by simp) (by simp)
      refine hnoted _ ?_
      split
      · exact hwritten.trans (.walk n _ _ ‹_›)
      · exact hwritten.unguarded (standing_setSegState _ _ _) (guards_setSegState _ _ _)

theorem Follows.openInterrupter (x : Nat) (o : OpenSource) (f : FrameNo) (s : State) : Follows s (openInterrupter x o f s) := by
  unfold Machine.openInterrupter
  cases hr : interrupterAt s x with
  | none => exact .refl s
  | some r =>
    dsimp only
    have hwritten := Follows.rewrite (r := { r with state := .opened, confirm := none, waiters := [] }) hr rfl rfl
    generalize writeInterrupter x _ s = s1 at hwritten ⊢
    have hwaiters : Follows s1 (Machine.forEach r.waiters (fun n t => modifyChain n (setNewest .opened) (setSegState n .isolated t)) s1) :=
      .forEach (fun n t => .of_guards (by simp) (by simp)) s1
    exact (hwritten.trans hwaiters).unguarded (standing_raiseAt _ _ _) (guards_raiseAt _ _ _)

theorem Follows.failTripping (x : Nat) (c : FailReason) (s : State) : Follows s (failTripping x c s) := by
  unfold Machine.failTripping
  cases hr : interrupterAt s x with
  | none => exact .refl s
  | some r =>
    dsimp only
    have hwritten := Follows.rewrite (r := { r with state := .failed, reason := some c, confirm := none, waiters := [] }) hr rfl rfl
    generalize writeInterrupter x _ s = s1 at hwritten ⊢
    exact hwritten.trans (.escalateWith 17 x c _ _ s1)

theorem Follows.stepThreeWalk (p : Pass) (ex : List Nat) (n : Nat) (s : State) : Follows s (stepThreeWalk p ex n s) := by
  unfold Machine.stepThreeWalk
  split
  · exact .refl s
  · split
    · exact .confirmWalk n _ s
    · cases rowAt p.confirmed n with
      | none => exact .refl s
      | some k => exact .confirmWalk n _ s

theorem Follows.proofStep (p : Pass) (x : Nat) (s : State) : Follows s (proofStep p x s) := by
  have hread := Follows.readInterrupter x s
  unfold Machine.proofStep
  generalize Machine.readInterrupter x s = s1 at hread ⊢
  dsimp only
  cases interrupterAt s1 x with
  | none => exact hread
  | some r =>
    have hsensor := hread.unguarded (standing_readSensor s1 r.boundary) (guards_readSensor s1 r.boundary)
    dsimp only
    split
    · split
      · exact hsensor.trans (.openInterrupter x _ _ _)
      · exact hsensor
    · exact hread

theorem Follows.completePass (s : State) : Follows s (completePass s) := by
  unfold Machine.completePass
  cases s.pass with
  | none => exact .refl s
  | some p =>
    unfold completionSteps
    dsimp only
    have h3 : Follows s (stopConfirmed p (deadlineStarts p allSegments (raiseStageNotices p s)).1) :=
      .of_guards (by simp) (by simp [raiseStageNotices])
    generalize stopConfirmed p _ = s3 at h3 ⊢
    have h4 := h3.trans (.forEach (ns := allSegments) (.stepThreeWalk p (deadlineStarts p allSegments (raiseStageNotices p s)).2) s3)
    generalize Machine.forEach allSegments _ s3 = s4 at h4 ⊢
    have h5 := h4.trans (.forEach (ns := allInterrupters) (.proofStep p) s4)
    generalize Machine.forEach allInterrupters _ s4 = s5 at h5 ⊢
    exact h5.unguarded (by simp [leaveFrame]) (by simp [leaveFrame])

theorem Follows.deadlineExpires (n : Nat) (s : State) : Follows s (deadlineExpires n s) := by
  unfold Machine.deadlineExpires
  cases segmentAt s n with
  | none => exact .refl s
  | some r0 =>
    dsimp only
    cases r0.deadline with
    | none => exact .refl s
    | some due =>
      have hread : Follows s (readSegment n (arriveAt due s)) := .of_guards (by simp) (by simp)
      dsimp only
      generalize readSegment n (arriveAt due s) = s1 at hread ⊢
      cases segmentAt s1 n with
      | none => exact hread
      | some r =>
        dsimp only
        cases policyInForce s1 r with
        | trip => exact (hread.unguarded (standing_writeSegment _ n _) (guards_writeSegment _ n _)).trans (.confirmWalk n _ _)
        | hold => exact hread.unguarded (by simp) (by simp)

theorem Follows.confirmExpires (x : Nat) (s : State) : Follows s (confirmExpires x s) := by
  unfold Machine.confirmExpires
  cases interrupterAt s x with
  | none => exact .refl s
  | some r0 =>
    dsimp only
    cases r0.confirm with
    | none => exact .refl s
    | some due =>
      have hread := (Follows.of_guards (standing_arriveAt s due) (guards_arriveAt s due)).trans (.readInterrupter x _)
      dsimp only
      generalize Machine.readInterrupter x (arriveAt due s) = s1 at hread ⊢
      cases interrupterAt s1 x with
      | none => exact hread
      | some r =>
        dsimp only
        split
        · exact hread.trans (.failTripping x _ _)
        · exact hread

end
end Sys2Proof.Machine
end

section
namespace Sys2Proof.Machine

/-! ### The requests begin no pulse beside the trips of their reads (R142, R168) -/

/-- State t comes from s by a part of a step: a pulse begins only where it may, and the interrupter records stay sound, unless the
part ends in HOLD. -/
structure Begins (s t : State) : Prop where
  pulses : pulsesFrom s t
  sound : soundInterrupters s → soundInterrupters t ∨ t.mc.mode = .hold

section
variable {s t u : State} {x : Nat}

theorem Follows.begins (h : Follows s t) : Begins s t := ⟨h.pulses, fun hs => .inl (h.sound hs)⟩

theorem Begins.of_guards (h : guards t = guards s) : Begins s t :=
  ⟨pulsesFrom_same (congrArg Prod.fst h), fun hs => .inl (sound_of_armings (congrArg Prod.snd h) hs)⟩

theorem Begins.refl (s : State) : Begins s s := .of_guards rfl

theorem Follows.then_begins (h : Follows s t) (h' : Begins t u) : Begins s u where
  pulses ch := by
    rcases h'.pulses ch with hu | ⟨hne, hu⟩
    · rw [hu]
      exact h.pulses ch
    · exact .inr ⟨hne, h.allowed hu⟩
  sound hs := h'.sound (h.sound hs)

theorem Begins.then_guards (h : Begins s t) (hg : guards u = guards t) (hm : t.mc.mode = .hold → u.mc.mode = .hold) : Begins s u where
  pulses ch := by
    have hc : u.channels = t.channels := congrArg Prod.fst hg
    rw [hc]
    exact h.pulses ch
  sound hs := (h.sound hs).imp (sound_of_armings (congrArg Prod.snd hg)) hm

/-- A part of a step that keeps the pulses and ends in HOLD. -/
theorem Begins.in_hold (hp : ∀ ch, (t.channels.get ch).pulse = (s.channels.get ch).pulse) (hm : t.mc.mode = .hold) : Begins s t :=
  ⟨fun ch => .inl (hp ch), fun _ => .inr hm⟩

theorem Begins.write (x : Nat) (r : IntRec) (s : State) : Begins s (writeInterrupter x r s) where
  pulses := pulsesFrom_same rfl
  sound hs := by
    refine .inl fun y p hp => ?_
    rw [interrupterAt_writeInterrupter] at hp
    split at hp
    · cases hp
      rfl
    · exact hs y p hp

/-- A request on a record reads it first. -/
theorem Begins.onInterrupter {f : IntRec → State → State × Answer} (hf : ∀ r t, Begins t (f r t).1)
    (s : State) : Begins s (onInterrupter x f s).1 := by
  have hread := Follows.readInterrupter x s
  unfold Machine.onInterrupter
  split
  · exact .refl s
  · dsimp only
    generalize readInterrupter x s = s1 at hread ⊢
    cases interrupterAt s1 x with
    | none => exact hread.begins
    | some r => exact hread.then_begins (hf r s1)

theorem Begins.takeSetArm (x : Nat) (v : Bool) (s : State) : Begins s (takeSetArm x v s).1 :=
  .onInterrupter (fun r t => .write x (setArm v r) t) s

theorem Begins.takeAckTrip (x : Nat) (s : State) : Begins s (takeAckTrip x s).1 := by
  refine .onInterrupter (fun r t => ?_) s
  split
  · exact .refl t
  · exact .write x (ackTrip r) t

theorem Begins.reportOpen (r : IntRec) : Begins s (reportOpen x r s) := by
  have hraised : Begins s (writeInterrupter x (atPosition .opened r) s) := .write x _ s
  unfold Machine.reportOpen
  cases r.state with
  | tripping => exact (Follows.openInterrupter x _ _ s).begins
  | failed => exact hraised.then_guards (guards_raiseNow _ _) (by simp)
  | unknown => exact hraised.then_guards (guards_raiseNow _ _) (by simp)
  | closed => exact hraised.then_guards (guards_raiseNow _ _) (by simp)
  | opened => exact .refl s

theorem Begins.reportClosed (r : IntRec) : Begins s (reportClosed x r s) := by
  unfold Machine.reportClosed
  cases r.state with
  | closed | tripping => exact .refl s
  | _ => exact .write x _ s

theorem Begins.reportFailed (r : IntRec) : Begins s (reportFailed x r s) := by
  unfold Machine.reportFailed
  cases r.state with
  | tripping => exact (Follows.failTripping x _ s).begins
  | _ => exact .write x _ s

theorem Begins.takeInterrupterState (x p : Nat) (s : State) : Begins s (takeInterrupterState x p s).1 := by
  refine .onInterrupter (fun r t => ?_) s
  split
  · exact .reportOpen r
  · split
    · split
      · exact .refl t
      · exact .reportClosed r
    · exact .reportFailed r

theorem Follows.takeRetireSensor (slot : Nat) (s : State) : Follows s (takeRetireSensor slot s).1 := by
  have hbefore : Follows s (readSegments (readSensor slot s)) := .of_guards (by simp) (by simp)
  have hread := hbefore.trans (.readInterrupters _)
  unfold Machine.takeRetireSensor
  split
  · exact .refl s
  · dsimp only
    generalize Machine.readInterrupters (readSegments (readSensor slot s)) = s1 at hread ⊢
    cases segmentsNaming s1 slot with
    | cons n _ => exact hread
    | nil =>
      cases interrupterOn s1 slot with
      | some x => exact hread
      | none => exact hread.unguarded (standing_freeSlot _ _) (guards_freeSlot _ _)

theorem Begins.takeDefineInterrupter (x : Nat) (k : InterrupterKind) (slot c : Nat) (s : State) :
    Begins s (takeDefineInterrupter x k slot c s).1 := by
  have hsensor : Follows s (readSensor slot s) := .of_guards (by simp) (by simp)
  have hread := hsensor.trans (.readInterrupters _)
  unfold Machine.takeDefineInterrupter
  split
  · exact .refl s
  · split
    · exact .refl s
    · dsimp only
      split
      · exact hsensor.begins
      · generalize readInterrupters (readSensor slot s) = s2 at hread ⊢
        cases interrupterOn s2 slot with
        | some y => exact hread.begins
        | none =>
          cases channelRefusal s2 k with
          | some a => exact hread.begins
          | none => exact hread.then_begins (.write x _ s2)

theorem Follows.takeRemoveInterrupter (x : Nat) (s : State) : Follows s (takeRemoveInterrupter x s).1 := by
  have hread := Follows.readInterrupter x s
  unfold Machine.takeRemoveInterrupter
  split
  · exact .refl s
  · dsimp only
    generalize Machine.readInterrupter x s = s1 at hread ⊢
    split
    · exact hread
    · exact hread.trans (.dropped x s1)

theorem Follows.takeQueryInterrupter (x : Nat) (s : State) : Follows s (takeQueryInterrupter x s).1 := by
  have hread := Follows.readInterrupter x s
  unfold Machine.takeQueryInterrupter
  dsimp only
  generalize Machine.readInterrupter x s = s1 at hread ⊢
  cases rowAt s1.interrupters x with
  | none => exact .refl s
  | some p => cases p <;> exact hread

/-- Configuring a channel keeps its pulse. -/
theorem configure_pulse (e : ChannelSetting) (s : State) (ch : Fin 4) :
    ((configure e s).channels.get ch).pulse = (s.channels.get ch).pulse := by
  rw [configure, modifyChannel_get]
  split
  · subst ch
    rfl
  · rfl

theorem Begins.configures (es : List ChannelSetting) (s : State) : Begins s (es.foldl (fun t e => configure e t) s) := by
  have hkept : (∀ ch, ((es.foldl (fun t e => configure e t) s).channels.get ch).pulse = (s.channels.get ch).pulse) ∧
      (es.foldl (fun t e => configure e t) s).interrupters = s.interrupters := by
    induction es generalizing s with
    | nil => exact ⟨fun _ => rfl, rfl⟩
    | cons e es ih => exact ⟨fun ch => ((ih (configure e s)).1 ch).trans (configure_pulse e s ch), (ih (configure e s)).2⟩
  exact ⟨fun ch => .inl (hkept.1 ch), fun hs => .inl fun x r hr => hs x r (by
    rwa [interrupterAt_row, hkept.2, ← interrupterAt_row] at hr)⟩

theorem Begins.takeConfigTripOutputs (es : List ChannelSetting) (s : State) : Begins s (takeConfigTripOutputs es s).1 := by
  have hread := Follows.readInterrupters s
  unfold Machine.takeConfigTripOutputs
  cases es.find? fun e => (s.channels.get e.channel).failed with
  | some e => exact .refl s
  | none =>
    dsimp only
    generalize readInterrupters s = s1 at hread ⊢
    cases allInterrupters.find? (isArmedLocal s1) with
    | some x => exact hread.begins
    | none =>
      cases allChannels.find? fun ch => (s1.channels.get ch).pulse.isSome with
      | some ch => exact hread.begins
      | none => exact hread.then_begins (.configures es s1)

/-- INJECT is taken in HOLD alone, and inverts bits of records. -/
theorem Begins.takeInject (target n : Nat) (double : Bool) (p : Nat) (hm : s.mc.mode = .hold) :
    Begins s (takeInject target n double p s).1 := by
  have hkept : (Machine.takeInject target n double p s).1.channels = s.channels ∧ (Machine.takeInject target n double p s).1.mc = s.mc := by
    unfold Machine.takeInject injectSensor injectSegment injectInterrupter
    repeat' split
    all_goals exact ⟨rfl, rfl⟩
  exact .in_hold (fun ch => by rw [hkept.1]) (by rw [hkept.2, hm])

/-- The action of a request, where its mode takes it. -/
theorem Begins.act {r : Request} (htaken : takenIn (requestKind r) s.mc.mode = true) : Begins s (act r s).1 := by
  unfold Machine.act
  cases r with
  | identify | getStatus | restart | selfTest | unknownKind | malformed => exact .refl s
  | setProfile | setInhibit | fetchNotices | getCounts => exact .of_guards rfl
  | setMode => exact .of_guards (guards_takeSetMode _ _)
  | setTimebase => exact .of_guards (guards_takeSetTimebase _ _ _ _)
  | setParams => exact .of_guards (guards_takeSetParams _ _)
  | defineSensor => exact .of_guards (guards_takeDefineSensor _ _ _ _ _)
  | retireSensor => exact (Follows.takeRetireSensor _ s).begins
  | querySensor => exact .of_guards (guards_takeQuerySensor _ _)
  | defineSegment => exact .of_guards (guards_takeDefineSegment _ _ _)
  | removeSegment => exact .of_guards (guards_takeRemoveSegment _ _)
  | querySegment => exact .of_guards (guards_takeQuerySegment _ _)
  | releaseSegment => exact .of_guards (guards_takeReleaseSegment _ _)
  | restoreSegment => exact .of_guards (guards_takeRestoreSegment _ _)
  | defineInterrupter => exact .takeDefineInterrupter _ _ _ _ s
  | removeInterrupter => exact (Follows.takeRemoveInterrupter _ s).begins
  | queryInterrupter => exact (Follows.takeQueryInterrupter _ s).begins
  | setArm => exact .takeSetArm _ _ s
  | interrupterState => exact .takeInterrupterState _ _ s
  | ackTrip => exact .takeAckTrip _ s
  | configTripOutputs => exact .takeConfigTripOutputs _ s
  | report => exact .of_guards (guards_takeReport _ _)
  | clearCounts => exact .of_guards (guards_takeClearCounts _ _)
  | inject =>
    have hm : s.mc.mode = .hold := by simpa [takenIn, requestKind] using htaken
    exact .takeInject _ _ _ _ hm

theorem Begins.perform (r : Request) (s : State) : Begins s (perform r s).1 := by
  unfold Machine.perform
  by_cases htaken : takenIn (requestKind r) s.mc.mode = true
  · rw [htaken]
    cases fieldFault r with
    | some o => exact .refl s
    | none => exact .act htaken
  · simp only [Bool.not_eq_true] at htaken
    rw [htaken]
    exact .refl s

/-! #### RESTART (R159) -/

/-- In HOLD operations on records begin no pulse. -/
theorem Follows.pulses_in_hold (h : Follows s t) (hm : s.mc.mode = .hold) (ch : Fin 4) :
    (t.channels.get ch).pulse = (s.channels.get ch).pulse := by
  rcases h.pulses ch with hsame | ⟨-, hrun, -⟩
  · exact hsame
  · rw [hm] at hrun
    cases hrun

theorem rewriteInterrupters_pulses (f : IntRec → IntRec) (hm : s.mc.mode = .hold) (ch : Fin 4) :
    ((rewriteInterrupters f s).channels.get ch).pulse = (s.channels.get ch).pulse := by
  have hkept := forEach_keeps (ns := allInterrupters) (f := fun x t => modifyInterrupter x f (readInterrupter x t))
    (P := fun t => standing t = standing s ∧ (t.channels.get ch).pulse = (s.channels.get ch).pulse)
    (fun x _ t ⟨hst, hp⟩ => ⟨by rw [standing_modifyInterrupter, standing_readInterrupter, hst], by
      rw [modifyInterrupter_channels,
        (Follows.readInterrupter x t).pulses_in_hold ((congrArg ModeControl.mode (mc_of_standing hst)).trans hm), hp]⟩)
    ⟨rfl, rfl⟩
  exact hkept.2

/-- RESTART's effects, the reads of its records included, begin and end no pulse. -/
theorem restartEffects_pulses (s : State) (ch : Fin 4) : ((restartEffects s).channels.get ch).pulse = (s.channels.get ch).pulse := by
  have hmode : (rewriteSegments restartSegment (rewriteSensors restartSensor (restartBlocks s))).mc.mode = .hold := by
    rw [mc_of_standing (standing_rewriteSegments _ _), mc_of_standing (standing_rewriteSensors _ _)]
    rfl
  have hguards : guards (rewriteSegments restartSegment (rewriteSensors restartSensor (restartBlocks s))) = guards s := by
    rw [guards_rewriteSegments, guards_rewriteSensors]
    rfl
  unfold restartEffects
  generalize rewriteSegments restartSegment (rewriteSensors restartSensor (restartBlocks s)) = u at hmode hguards ⊢
  have hc : u.channels = s.channels := congrArg Prod.fst hguards
  dsimp only
  rw [rewriteInterrupters_pulses restartInterrupter hmode, hc]

theorem restartEffects_mode (s : State) : (restartEffects s).mc.mode = .hold := by
  unfold restartEffects
  dsimp only
  rw [mc_of_standing (standing_rewriteInterrupters _ restartInterrupter), mc_of_standing (standing_rewriteSegments _ _),
    mc_of_standing (standing_rewriteSensors _ _)]
  rfl

theorem Begins.then_hold (h : Begins s t) (hp : ∀ ch, (u.channels.get ch).pulse = (t.channels.get ch).pulse)
    (hm : u.mc.mode = .hold) : Begins s u := by
  refine ⟨fun ch => ?_, fun _ => .inr hm⟩
  rw [hp ch]
  exact h.pulses ch

/-- A request taken: its owner acts, its reply is handed over, RESTART's effects follow. -/
theorem Begins.takeRequest (r : Request) (s : State) : Begins s (takeRequest r s) := by
  have hacted : Begins s (Machine.perform r (spendBadCheck s)).1 :=
    have h := Begins.perform r (spendBadCheck s)
    ⟨h.pulses, h.sound⟩
  unfold Machine.takeRequest
  extract_lets out v w
  have hsettled : Begins s v := hacted.then_guards (guards_settleUrgency _ _) fun h => by rw [settleUrgency_mc, h]
  have hanswered : Begins s w := hsettled.then_guards rfl id
  split
  · exact hanswered.then_hold (restartEffects_pulses w) (restartEffects_mode w)
  · exact hanswered

end
end Sys2Proof.Machine
end

section
namespace Sys2Proof.Machine

/-! ### Timers, the timebase and the stages do not read Host Link (R28, R75, R134) -/

namespace OutsideLink

section
variable {f g : State → State}

theorem comp (hg : OutsideLink g) (hf : OutsideLink f) : OutsideLink fun s => g (f s) := fun x s => by
  dsimp only
  rw [hf, hg]

theorem forEach {ns : List Nat} {f : Nat → State → State} (hf : ∀ n, OutsideLink (f n)) : OutsideLink (forEach ns f) := by
  intro x s
  induction ns generalizing s with
  | nil => rfl
  | cons n ns ih => rw [forEach_cons, forEach_cons, hf, ih]

end
end OutsideLink

section
variable {x : HostLink} {s : State}

@[simp] theorem sensorAt_linked (n : Nat) : sensorAt (linked x s) n = sensorAt s n := rfl
@[simp] theorem segmentAt_linked (n : Nat) : segmentAt (linked x s) n = segmentAt s n := rfl
@[simp] theorem interrupterAt_linked (n : Nat) : interrupterAt (linked x s) n = interrupterAt s n := rfl
@[simp] theorem tripsAllowed_linked : tripsAllowed (linked x s) = tripsAllowed s := rfl
@[simp] theorem urgencySource_linked : urgencySource (linked x s) = urgencySource s := rfl
@[simp] theorem evaluated_linked : evaluated (linked x s) = evaluated s := rfl
@[simp] theorem validReport_linked (n : Nat) : validReport (linked x s) n = validReport s n := rfl
@[simp] theorem linked_pass : (linked x s).pass = s.pass := rfl
@[simp] theorem linked_ring : (linked x s).ring = s.ring := rfl
@[simp] theorem linked_ft : (linked x s).ft = s.ft := rfl
@[simp] theorem linked_mc : (linked x s).mc = s.mc := rfl

end

/-! #### Records -/

theorem modifySensor_linked (n : Nat) (f : SensorRec → SensorRec) : OutsideLink (modifySensor n f) := by
  intro x s
  unfold modifySensor
  rw [sensorAt_linked]
  cases sensorAt s n <;> rfl

theorem modifySegment_linked (n : Nat) (f : SegRec → SegRec) : OutsideLink (modifySegment n f) := by
  intro x s
  unfold modifySegment
  rw [segmentAt_linked]
  cases segmentAt s n <;> rfl

theorem readSegments_linked : OutsideLink readSegments := .forEach readSegment_linked

theorem setSegState_linked (n : Nat) (st : SegState) : OutsideLink (setSegState n st) := modifySegment_linked _ _

theorem modifyChain_linked (n : Nat) (f : List ChainEntry → List ChainEntry) : OutsideLink (modifyChain n f) := modifySegment_linked _ _

theorem recordVisit_linked (n y : Nat) (o : ChainOutcome) : OutsideLink (recordVisit n y o) := modifyChain_linked _ _

theorem settleUrgency_linked (u : Bool) : OutsideLink (settleUrgency u) := by
  intro x s
  rw [settleUrgency_eq, settleUrgency_eq]
  rfl

theorem settled_linked {f : State → State} (hf : OutsideLink f) : OutsideLink (settled f) := by
  intro x s
  unfold settled
  rw [hf, urgencySource_linked]
  exact settleUrgency_linked _ x (f s)

/-! #### Isolation -/

theorem startTrip_linked (y : Nat) (r : IntRec) (n : Nat) (c : TripCause) : OutsideLink (startTrip y r n c) := by
  intro x s
  have hvisited : recordVisit n y .tripped (setSegState n .isolating (writeInterrupter y (tripped n (linked x s) r) (linked x s))) =
      linked x (recordVisit n y .tripped (setSegState n .isolating (writeInterrupter y (tripped n s r) s))) := by
    rw [← recordVisit_linked, ← setSegState_linked]
    rfl
  unfold startTrip
  rw [hvisited]
  generalize recordVisit n y .tripped (setSegState n .isolating (writeInterrupter y (tripped n s r) s)) = u
  cases r.kind with
  | remote => exact raiseNow_linked _ x u
  | loc ch => exact raiseNow_linked _ x (startPulse ch u)

theorem noteIsolationFailed_linked (n : Nat) : OutsideLink (noteIsolationFailed n) := by
  intro x s
  unfold noteIsolationFailed
  rw [segmentAt_linked]
  cases segmentAt s n with
  | none => rfl
  | some r =>
    dsimp only
    cases r.state with
    | isolationFailed =>
      cases r.verdict with
      | none => rfl
      | some v => exact raiseNow_linked _ x s
    | _ => rfl

theorem noteEscalated_linked (y : Nat) (c : FailReason) (n : Nat) : OutsideLink (noteEscalated y c n) := fun x s =>
  raiseNow_linked _ x s

theorem noteVerdict_linked (n : Nat) (a : Option Nat) : OutsideLink (noteVerdict n a) := by
  intro x s
  unfold noteVerdict
  rw [segmentAt_linked]
  cases segmentAt s n with
  | none => rfl
  | some r =>
    dsimp only
    cases r.verdict with
    | none => rfl
    | some v => exact raiseNow_linked _ x s

section
variable {e : Escalation} (he : ∀ y c b ws, OutsideLink (e y c b ws))
include he

theorem quarantineInterrupter_linked (y : Nat) (r : IntRec) : OutsideLink (quarantineInterrupter e y r) := by
  intro x s
  have hlost := raiseNow_linked (.quarantined .interrupter y) x { s with interrupters := setRow s.interrupters y .tableError }
  unfold quarantineInterrupter
  dsimp only
  split
  · exact (congrArg (fun t => e y .tableError r.boundary (waitersByChain t y) t) hlost).trans (he _ _ _ _ x _)
  · exact hlost

theorem readInterrupterWith_linked (y : Nat) : OutsideLink (readInterrupterWith e y) := by
  intro x s
  unfold readInterrupterWith
  rw [interrupterAt_linked]
  cases interrupterAt s y with
  | none => rfl
  | some r =>
    dsimp only
    cases readResult r.err with
    | clean =>
      dsimp only
      rw [apply_ite (linked x)]
      rfl
    | single => rfl
    | double => exact quarantineInterrupter_linked he y r x (latch .eccDoubleSeen s)

theorem walkWith_linked (n : Nat) (c : TripCause) (bs : List Nat) : OutsideLink (walkWith e n c bs) := by
  intro x s
  induction bs generalizing s with
  | nil => exact setSegState_linked _ _ x s
  | cons b bs ih =>
    unfold walkWith
    rw [show interrupterOn (linked x s) b = interrupterOn s b from rfl]
    cases interrupterOn s b with
    | none => exact ih s
    | some y =>
      dsimp only
      rw [readInterrupterWith_linked he y x s]
      generalize readInterrupterWith e y s = u
      have hpassed (o : ChainOutcome) : walkWith e n c bs (recordVisit n y o (linked x u)) =
          linked x (walkWith e n c bs (recordVisit n y o u)) := by rw [recordVisit_linked, ih]
      rw [interrupterAt_linked]
      cases interrupterAt u y with
      | none => exact hpassed _
      | some r =>
        have htrips : (if r.armed = true then startTrip y r n c (linked x u) else
            walkWith e n c bs (recordVisit n y .skippedDisarmed (linked x u))) = linked x (if r.armed = true then startTrip y r n c u else
            walkWith e n c bs (recordVisit n y .skippedDisarmed u)) := by
          rw [apply_ite (linked x), startTrip_linked, hpassed]
        have hjoined (p : IntRec) : recordVisit n y .joined (setSegState n .isolating (writeInterrupter y p (linked x u))) =
            linked x (recordVisit n y .joined (setSegState n .isolating (writeInterrupter y p u))) := by
          rw [← recordVisit_linked, ← setSegState_linked]
          rfl
        dsimp only
        cases r.state with
        | tripping => exact hjoined _
        | failed => exact hpassed _
        | opened => exact hpassed _
        | unknown => exact htrips
        | closed => exact htrips

theorem escalateOne_linked (y : Nat) (c : FailReason) (b n : Nat) : OutsideLink (escalateOne (walkWith e) y c b n) := by
  intro x s
  unfold escalateOne
  dsimp only
  rw [readSegments_linked, segmentAt_linked]
  generalize readSegments s = u
  cases segmentAt u n with
  | none => rfl
  | some r =>
    dsimp only
    rw [modifyChain_linked, tripsAllowed_linked]
    generalize modifyChain n (setNewest .escalatedFrom) u = v
    rw [show candidateBoundaries (linked x v) n = candidateBoundaries v n from rfl, walkWith_linked he, setSegState_linked,
      ← apply_ite (linked x), noteEscalated_linked, noteIsolationFailed_linked]

end

theorem escalateWith_linked (fuel y : Nat) (c : FailReason) (b : Nat) (ws : List Nat) : OutsideLink (escalateWith fuel y c b ws) := by
  induction fuel generalizing y c b ws with
  | zero => exact fun _ _ => rfl
  | succ fuel ih =>
    intro x s
    unfold escalateWith
    split
    · exact raiseNow_linked _ x s
    · exact OutsideLink.forEach (fun n => escalateOne_linked ih y c b n) x s

theorem walk_linked (n : Nat) (c : TripCause) (bs : List Nat) : OutsideLink (walk n c bs) := walkWith_linked (escalateWith_linked 17) n c bs

theorem readInterrupter_linked (y : Nat) : OutsideLink (readInterrupter y) := readInterrupterWith_linked (escalateWith_linked 17) y

theorem confirmWalk_linked (n : Nat) (k : Confirmation) : OutsideLink (confirmWalk n k) := by
  intro x s
  unfold confirmWalk
  dsimp only
  rw [readSegments_linked, segmentAt_linked]
  generalize readSegments s = u
  cases segmentAt u n with
  | none => rfl
  | some r =>
    dsimp only
    cases r.suspect with
    | none => rfl
    | some d =>
      dsimp only
      rw [show ∀ q, writeSegment n q (linked x u) = linked x (writeSegment n q u) from fun _ => rfl, tripsAllowed_linked]
      generalize writeSegment n _ u = v
      rw [show candidateBoundaries (linked x v) n = candidateBoundaries v n from rfl, walk_linked, setSegState_linked,
        ← apply_ite (linked x), noteVerdict_linked, noteIsolationFailed_linked]

theorem failTripping_linked (y : Nat) (c : FailReason) : OutsideLink (failTripping y c) := by
  intro x s
  unfold failTripping
  rw [interrupterAt_linked]
  cases interrupterAt s y with
  | none => rfl
  | some r => exact escalateWith_linked 17 y c r.boundary r.waiters x (writeInterrupter y _ s)

/-! #### Timers -/

theorem passDeadline_linked (n : Nat) (r : SegRec) : OutsideLink (passDeadline n r) := by
  intro x s
  unfold passDeadline
  cases r.suspect with
  | none => rfl
  | some d => exact raiseNow_linked _ x (writeSegment n _ s)

theorem deadlineExpires_linked (n : Nat) : OutsideLink (deadlineExpires n) := by
  intro x s
  unfold deadlineExpires
  rw [segmentAt_linked]
  cases segmentAt s n with
  | none => rfl
  | some r0 =>
    dsimp only
    cases r0.deadline with
    | none => rfl
    | some due =>
      dsimp only
      rw [show arriveAt due (linked x s) = linked x (arriveAt due s) from rfl, readSegment_linked, segmentAt_linked]
      generalize readSegment n (arriveAt due s) = u
      cases segmentAt u n with
      | none => rfl
      | some r =>
        dsimp only
        rw [show policyInForce (linked x u) r = policyInForce u r from rfl]
        cases policyInForce u r with
        | trip => exact confirmWalk_linked n _ x (writeSegment n _ u)
        | hold => exact passDeadline_linked n r x u

theorem confirmExpires_linked (y : Nat) : OutsideLink (confirmExpires y) := by
  intro x s
  unfold confirmExpires
  rw [interrupterAt_linked]
  cases interrupterAt s y with
  | none => rfl
  | some r0 =>
    dsimp only
    cases r0.confirm with
    | none => rfl
    | some due =>
      dsimp only
      rw [show arriveAt due (linked x s) = linked x (arriveAt due s) from rfl, readInterrupter_linked, interrupterAt_linked]
      generalize readInterrupter y (arriveAt due s) = u
      cases interrupterAt u y with
      | none => rfl
      | some r =>
        dsimp only
        rw [failTripping_linked, apply_ite (linked x)]

theorem pulseExpires_linked (ch : Fin 4) : OutsideLink (pulseExpires ch) := by
  intro x s
  unfold pulseExpires
  rw [show (linked x s).channels = s.channels from rfl]
  cases (s.channels.get ch).pulse <;> rfl

theorem inhibitChanges_linked (v : Bool) : OutsideLink (inhibitChanges v) := fun _ _ => rfl

/-! #### The timebase -/

theorem discardOldest_linked : OutsideLink discardOldest := by
  intro x s
  unfold discardOldest
  rw [linked_ring]
  cases s.ring with
  | nil => rfl
  | cons f rest => exact raiseAt_linked _ _ x (bump .frameDropped { s with ring := rest, pass := if f.cond == .evaluating then none else s.pass })

theorem ringFrameStart_linked : OutsideLink ringFrameStart := by
  intro x s
  have hopened (u : State) : closeOldest { openFrame (linked x u) with ring := (openFrame (linked x u)).ring.map (testFrame (openFrame (linked x u))) } =
      linked x (closeOldest { openFrame u with ring := (openFrame u).ring.map (testFrame (openFrame u)) }) :=
    closeOldest_linked x { openFrame u with ring := (openFrame u).ring.map (testFrame (openFrame u)) }
  unfold ringFrameStart
  dsimp only
  rw [linked_mc, linked_ring, discardOldest_linked, ← apply_ite (linked x), hopened, apply_ite (linked x)]

theorem stepFrameNumber_linked : OutsideLink stepFrameNumber := by
  intro x s
  unfold stepFrameNumber
  rw [linked_ft]
  cases s.ft.override <;> rfl

theorem stepTail_linked : OutsideLink stepTail := by
  intro x s
  unfold stepTail
  rw [urgencySource_linked, apply_ite (linked x)]
  rfl

theorem frameStart_linked : OutsideLink frameStart := ringFrameStart_linked.comp (stepTail_linked.comp stepFrameNumber_linked)

theorem enterTimebase_linked (new : TimebaseState) (c : TimebaseCause) : OutsideLink (enterTimebase new c) := fun x s =>
  raiseNow_linked _ x { s with ft := { s.ft with state := new } }

theorem lockAt_linked (t : Nat) : OutsideLink (lockAt t) := by
  intro x s
  unfold lockAt
  dsimp only
  rw [show internalStands t (linked x s) = internalStands t s from rfl, frameStart_linked, ← apply_ite (linked x)]
  generalize (if internalStands t s = true then s else frameStart s) = u
  exact enterTimebase_linked .locked .lockAcquired x (emptyHistory { u with ft := { u.ft with expected := some (t + periodMicros s) } })

theorem acquireEdge_linked (t : Nat) : OutsideLink (acquireEdge t) := by
  intro x s
  unfold acquireEdge
  rw [linked_ft]
  cases s.ft.prevEdge with
  | none => rfl
  | some p =>
    dsimp only
    rw [lockAt_linked, apply_ite (linked x), apply_ite (linked x), apply_ite (linked x)]
    rfl

theorem lockedEdge_linked (t : Nat) : OutsideLink (lockedEdge t) := by
  intro x s
  unfold lockedEdge
  rw [linked_ft]
  cases s.ft.expected with
  | none => rfl
  | some e =>
    dsimp only
    rw [frameStart_linked, apply_ite (linked x)]
    rfl

theorem syncEdge_linked (t : Nat) : OutsideLink (syncEdge t) := by
  intro x s
  unfold syncEdge
  rw [linked_ft, apply_ite (linked x)]
  cases s.ft.state with
  | internal => rfl
  | unlocked => rw [← acquireEdge_linked]; rfl
  | freewheel => rw [← acquireEdge_linked]; rfl
  | locked => rw [← lockedEdge_linked]; rfl

theorem historyTimeout_linked : OutsideLink historyTimeout := by
  intro x s
  unfold historyTimeout
  rw [linked_ft]
  cases s.ft.state with
  | internal | locked => rfl
  | unlocked | freewheel => cases s.ft.prevEdge <;> rfl

theorem internalStart_linked : OutsideLink internalStart := by
  intro x s
  unfold internalStart
  rw [linked_ft]
  cases s.ft.expected with
  | none => rfl
  | some e =>
    dsimp only
    rw [show arriveAt e (linked x s) = linked x (arriveAt e s) from rfl, frameStart_linked, apply_ite (linked x)]
    rfl

theorem windowClose_linked : OutsideLink windowClose := by
  intro x s
  unfold windowClose
  rw [linked_ft]
  cases s.ft.expected with
  | none => rfl
  | some e =>
    dsimp only
    rw [show arriveAt (e + tolerance (linked x s)) (linked x s) = linked x (arriveAt (e + tolerance s) s) from rfl, frameStart_linked,
      apply_ite (linked x), ← enterTimebase_linked]
    rfl

/-! #### The stages -/

theorem goStale_linked (slot : Nat) (r : SensorRec) : OutsideLink (goStale slot r) := by
  intro x s
  unfold goStale
  dsimp only
  rw [show ∀ q, writeSensor slot q (linked x s) = linked x (writeSensor slot q s) from fun _ => rfl, excludeEverywhere_linked]
  generalize excludeEverywhere slot allSegments _ = out
  rfl

theorem resume_linked (slot : Nat) (r : SensorRec) : OutsideLink (resume slot r) := by
  intro x s
  unfold resume
  dsimp only
  rw [show ∀ q, writeSensor slot q (linked x s) = linked x (writeSensor slot q s) from fun _ => rfl, readSegments_linked]
  generalize readSegments _ = u
  rfl

theorem statusStep_linked (slot : Nat) (r : SensorRec) (v : Bool) : OutsideLink (statusStep slot r v) := by
  intro x s
  unfold statusStep
  cases r.status with
  | active =>
    dsimp only
    rw [goStale_linked, apply_ite (linked x)]
    rfl
  | stale =>
    dsimp only
    rw [resume_linked, apply_ite (linked x)]
    rfl

theorem writeReport_linked (slot : Nat) (v : ReportValues) (f : FrameNo) : OutsideLink (writeReport slot v f) := by
  intro x s
  unfold writeReport
  dsimp only
  rw [readSegments_linked]
  generalize readSegments s = u
  exact modifySensor_linked slot _ x u

theorem stage1Sensor_linked (f : Frame) (slot : Nat) : OutsideLink (stage1Sensor f slot) := by
  intro x s
  unfold stage1Sensor
  dsimp only
  rw [readSensor_linked, sensorAt_linked]
  generalize readSensor slot s = u
  cases sensorAt u slot with
  | none => rfl
  | some r =>
    dsimp only
    rw [validReport_linked, statusStep_linked]
    cases validReport u slot with
    | none => rfl
    | some v => exact writeReport_linked slot v f.number x _

theorem stage1_linked : OutsideLink stage1 := by
  intro x s
  unfold stage1
  rw [evaluated_linked]
  cases evaluated s with
  | none => rfl
  | some f => exact OutsideLink.forEach (stage1Sensor_linked f) x s

theorem stage2Segment_linked (n : Nat) : OutsideLink (stage2Segment n) := by
  intro x s
  unfold stage2Segment
  dsimp only
  rw [readSegment_linked, linked_pass, segmentAt_linked]
  generalize readSegment n s = u
  cases u.pass with
  | none => rfl
  | some p =>
    cases segmentAt u n with
    | none => rfl
    | some r =>
      dsimp only
      rw [apply_ite (linked x)]
      rfl

theorem stage2_linked : OutsideLink stage2 := .forEach stage2Segment_linked

theorem judgeSegment_linked (p : Pass) (n : Nat) (r : SegRec) : OutsideLink (judgeSegment p n r) := by
  intro x s
  have henters (c : Bool) : (if c then queueSegmentNotices n [suspectNotice n (workOf p n)]
      (writeSegment n (enterSuspect p.frame (workOf p n) r) (linked x s)) else linked x s) =
      linked x (if c then queueSegmentNotices n [suspectNotice n (workOf p n)]
        (writeSegment n (enterSuspect p.frame (workOf p n) r) s) else s) := by
    cases c <;> rfl
  unfold judgeSegment
  dsimp only
  rw [henters]
  generalize (if (r.state == .normal && ((workOf p n).openResult == .present || (workOf p n).contactResult == .present)) = true then
    _ else s) = u
  rw [show confirmClass (linked x u) (workOf p n) r = confirmClass u (workOf p n) r from rfl]
  cases confirmClass u (workOf p n) r with
  | some k => rfl
  | none =>
    dsimp only
    rw [modifySegment_linked, apply_ite (linked x)]
    rfl

theorem stage3Segment_linked (n : Nat) : OutsideLink (stage3Segment n) := by
  intro x s
  unfold stage3Segment
  dsimp only
  rw [readSegment_linked, linked_pass, segmentAt_linked]
  generalize readSegment n s = u
  have hrunning (p : Pass) (r : SegRec) : stage3Running p n r (linked x u) = linked x (stage3Running p n r u) := by
    unfold stage3Running
    rw [judgeSegment_linked, apply_ite (linked x)]
    rfl
  cases u.pass with
  | none => rfl
  | some p =>
    cases segmentAt u n with
    | none => rfl
    | some r =>
      dsimp only
      rw [apply_ite (linked x)]
      cases r.state with
      | normal => rw [← hrunning]
      | suspect => rw [← hrunning]
      | deenergized => 
        unfold stage3Deenergized
        dsimp only
        rw [apply_ite (linked x)]
        rfl
      | settling =>
        unfold stage3Settling
        dsimp only
        rw [apply_ite (linked x) ((validReport u r.up).isNone = true), apply_ite (linked x)]
        rfl
      | isolating | isolated | withheld | isolationFailed => rfl

theorem stage3_linked : OutsideLink stage3 := .forEach stage3Segment_linked

theorem stage4Sensor_linked (slot : Nat) : OutsideLink (stage4Sensor slot) := by
  intro x s
  unfold stage4Sensor
  dsimp only
  rw [readSensor_linked, readSegments_linked, sensorAt_linked, validReport_linked]
  generalize readSegments (readSensor slot s) = u
  cases sensorAt u slot with
  | none => rfl
  | some r =>
    cases validReport u slot with
    | none => rfl
    | some v =>
      dsimp only
      rw [apply_ite (linked x), apply_ite (linked x)]
      rfl

theorem stage4_linked : OutsideLink stage4 := by
  intro x s
  unfold stage4
  rw [evaluated_linked]
  cases evaluated s with
  | none => rfl
  | some f => exact OutsideLink.forEach stage4Sensor_linked x s

theorem runStage_linked (g next : Stage) {work : State → State} (hw : OutsideLink work) : OutsideLink (runStage g next work) := by
  intro x s
  unfold runStage
  rw [hw, show atStage g (linked x s) = atStage g s from rfl, apply_ite (linked x)]
  rfl

end Sys2Proof.Machine
end

section
namespace Sys2Proof.Machine

/-! ### Held requests begin pulses one after the other (R142, R168) -/

/-- At most two requests are held, and their records are sound; where INJECT may have made them unsound the part is in HOLD and one
request is left (R163). -/
def Orderly (s : State) : Prop :=
  s.hl.requests.length ≤ 2 ∧ (soundInterrupters s ∨ (s.hl.requests.length ≤ 1 ∧ s.mc.mode = .hold) ∨ s.hl.requests = [])

section
variable {s : State} {r : Request} {rest : List Request} {ch : Fin 4}

theorem requests_takeRequest (hr : s.hl.requests = r :: rest) : (takeRequest r s).hl.requests.length ≤ rest.length := by
  have hbuf : Buffered (rest.length + 1) s.hl.replies.length s := ⟨by rw [hr]; rfl, Nat.le_refl _⟩
  exact (Buffered.takeRequest r hbuf).requests

/-- A held request begins a pulse only where it may begin, and leaves the others in order. -/
theorem Orderly.takeRequest (h : Orderly s) (hr : s.hl.requests = r :: rest) : Orderly (takeRequest r s) ∧
    ∀ ch, ((takeRequest r s).channels.get ch).pulse = (s.channels.get ch).pulse ∨ mayPulse s ch := by
  obtain ⟨hlen, hsound⟩ := h
  have hbegins := Begins.takeRequest r s
  have hleft := requests_takeRequest hr
  rw [hr, List.length_cons] at hlen
  rcases hsound with hs | ⟨hone, hm⟩ | hnone
  · refine ⟨⟨by omega, (hbegins.sound hs).imp_right fun hm => .inl ⟨by omega, hm⟩⟩, fun ch => ?_⟩
    exact (hbegins.pulses ch).imp_right fun ⟨_, ha⟩ => ha.mayPulse hs
  · rw [hr, List.length_cons] at hone
    refine ⟨⟨by omega, .inr (.inr (List.length_eq_zero_iff.mp (by omega)))⟩, fun ch => ?_⟩
    refine (hbegins.pulses ch).imp_right fun ⟨_, hrun, _⟩ => ?_
    rw [hm] at hrun
    cases hrun
  · rw [hr] at hnone
    cases hnone

theorem serveUpTo_taken (n : Nat) (hr : s.hl.requests = r :: rest) (ht : takeable r s = true) :
    serveUpTo (n + 1) s = serveUpTo n (takeRequest r s) := by
  rw [serveUpTo, hr]
  exact if_pos ht

theorem serveUpTo_refused (n : Nat) (hr : s.hl.requests = r :: rest) (ht : takeable r s ≠ true) : serveUpTo n s = s := by
  cases n with
  | zero => rfl
  | succ n =>
    rw [serveUpTo, hr]
    exact if_neg ht

/-- Where requests are served, a pulse begins at the moment that the request which begins it is taken. -/
theorem Orderly.serveUpTo (n : Nat) (h : Orderly s) : Orderly (serveUpTo n s) ∧
    ∀ ch, ((serveUpTo n s).channels.get ch).pulse = (s.channels.get ch).pulse ∨
      ∃ i, i < n ∧ i < s.hl.requests.length ∧ mayPulse (serveUpTo i s) ch := by
  induction n generalizing s with
  | zero => exact ⟨h, fun _ => .inl rfl⟩
  | succ n ih =>
    cases hr : s.hl.requests with
    | nil =>
      rw [serveUpTo_none _ hr]
      exact ⟨h, fun _ => .inl rfl⟩
    | cons r rest =>
      by_cases ht : takeable r s = true
      · obtain ⟨horder, hfirst⟩ := h.takeRequest hr
        obtain ⟨hend, hlater⟩ := ih horder
        have hleft := requests_takeRequest hr
        rw [serveUpTo_taken n hr ht]
        refine ⟨hend, fun ch => ?_⟩
        rcases hlater ch with hsame | ⟨i, hi, hlen, hmay⟩
        · rw [hsame]
          exact (hfirst ch).imp_right fun hmay => ⟨0, Nat.succ_pos n, Nat.succ_pos _, hmay⟩
        · refine .inr ⟨i + 1, by omega, by rw [List.length_cons]; omega, ?_⟩
          rwa [serveUpTo_taken i hr ht]
      · rw [serveUpTo_refused _ hr ht]
        exact ⟨h, fun _ => .inl rfl⟩

/-- No request ends a pulse. -/
theorem serveUpTo_keeps_pulse (n : Nat) (h : (s.channels.get ch).pulse ≠ none) : ((serveUpTo n s).channels.get ch).pulse ≠ none := by
  induction n generalizing s with
  | zero => exact h
  | succ n ih =>
    cases hr : s.hl.requests with
    | nil => rwa [serveUpTo_none _ hr]
    | cons r rest =>
      by_cases ht : takeable r s = true
      · rw [serveUpTo_taken n hr ht]
        refine ih ?_
        rcases (Begins.takeRequest r s).pulses ch with hsame | ⟨hruns, _⟩
        · rwa [hsame]
        · exact hruns
      · rwa [serveUpTo_refused _ hr ht]

end
end Sys2Proof.Machine
end

section
namespace Sys2Proof.Machine

/-! ### What a command does before a held request is taken (R168) -/

/-- The state with other requests held. -/
def held (q : List Request) (s : State) : State := { s with hl := { s.hl with requests := q } }

/-- The function neither reads nor changes the held requests. -/
def HeldApart (f : State → State) : Prop := ∀ q s, f (held q s) = held q (f s)

/-- What a command does to the state, the requests held at its end not yet taken. -/
def happening (c : Instr) : State → State :=
  match requestOf c, c with
  | some r, _ => requestArrives r
  | none, .messageReceived address payload check => messageArrives address payload check
  | none, .hardReset station baud => hardReset station baud
  | none, .selfTestStepEnd findings => stepEnds findings
  | none, .linkLoopback good => loopbackBegins good
  | none, .linkAborted address => markedCharacter address
  | none, .addressCharacter address => markedCharacter address
  | none, .linkBreak => breakArrives
  | none, .linkFraming cause => framingArrives cause
  | none, .gapTimeout => gapArrives
  | none, .replySendStart => sendStarts
  | none, .replySent => replyEnds
  | none, .syncEdge time => fun s => syncEdge (max s.now time) (arriveAt time s)
  | none, .edgeHistoryTimeout => historyTimeout
  | none, .internalFrameStart => internalStart
  | none, .edgeWindowClose => windowClose
  | none, .passStage1 => settled (runStage .one .two stage1)
  | none, .passStage2 => settled (runStage .two .three stage2)
  | none, .passStage3 => settled (runStage .three .four stage3)
  | none, .passStage4 => settled (runStage .four .completion stage4)
  | none, .passCompletion k => passCompletes k.val
  | none, .deadlineExpiry n => settled (deadlineExpires n.val)
  | none, .confirmTimerExpiry x => settled (confirmExpires x.val)
  | none, .pulseTimerExpiry ch => pulseExpires ch
  | none, .inhibitInputChange asserted => inhibitChanges asserted
  | none, .resetNRelease => resetReleases
  | none, _ => id

/-- A command is what happens at it, then the requests that may be taken. -/
theorem exec_happening (c : Instr) (s : State) : exec c s = .next (serve (happening c s)) := by
  cases c <;> rfl

section
variable {f g : State → State} {s : State}

theorem HeldApart.of_outsideLink (hf : OutsideLink f) : HeldApart f := by
  intro q s
  have hstands : (f s).hl = s.hl := by
    have h : f s = linked s.hl (f s) := hf s.hl s
    rw [h]
    rfl
  have h := hf { s.hl with requests := q } s
  unfold held
  rw [hstands]
  exact h

theorem HeldApart.requests (hf : HeldApart f) (s : State) : (f s).hl.requests = s.hl.requests :=
  congrArg (fun t => t.hl.requests) (hf s.hl.requests s)

theorem markedCharacter_apart (a : Byte) : HeldApart (markedCharacter a) := by
  intro q s
  unfold markedCharacter
  rw [show lineRead (held q s) = lineRead s from rfl, show (held q s).hl.rx = s.hl.rx from rfl]
  cases lineRead s with
  | false => rfl
  | true => cases isReceiving s.hl.rx <;> by_cases hst : addressStation a = s.hl.station <;> simp [held, hst] <;> rfl

theorem breakArrives_apart : HeldApart breakArrives := by
  intro q s
  unfold breakArrives
  rw [show lineRead (held q s) = lineRead s from rfl]
  cases lineRead s <;> rfl

theorem framingArrives_apart (c : FramingCause) : HeldApart (framingArrives c) := by
  intro q s
  unfold framingArrives
  rw [show lineRead (held q s) = lineRead s from rfl, show (held q s).hl.rx = s.hl.rx from rfl]
  cases lineRead s with
  | false => rfl
  | true =>
    cases c with
    | lowStopBit => rfl
    | lengthAbove240 => cases isReceiving s.hl.rx <;> rfl

theorem gapArrives_apart : HeldApart gapArrives := by
  intro q s
  unfold gapArrives
  rw [show lineRead (held q s) = lineRead s from rfl, show (held q s).hl.rx = s.hl.rx from rfl]
  cases lineRead s with
  | false => rfl
  | true => cases s.hl.rx <;> rfl

theorem sendStarts_apart : HeldApart sendStarts := by
  intro q s
  unfold sendStarts
  rw [show lineRead (held q s) = lineRead s from rfl, show (held q s).hl.rx = s.hl.rx from rfl,
    show (held q s).hl.replies = s.hl.replies from rfl, apply_ite (held q)]
  rfl

theorem loopbackBegins_apart (good : Bool) : HeldApart (loopbackBegins good) := by
  intro q s
  unfold loopbackBegins
  rw [show (held q s).mc = s.mc from rfl, show (held q s).hl.replies = s.hl.replies from rfl, apply_ite (held q)]
  rfl

theorem resetReleases_apart : HeldApart resetReleases := by
  intro q s
  unfold resetReleases
  rw [show (held q s).mc = s.mc from rfl, apply_ite (held q)]
  rfl

theorem raiseNow_apart (b : NoticeBody) : HeldApart (raiseNow b) := .of_outsideLink (raiseNow_linked b)

theorem endSelfTest_apart : HeldApart endSelfTest := by
  intro q s
  unfold endSelfTest
  rw [show (held q s).mc = s.mc from rfl]
  cases s.mc.fatalStep with
  | some step => rfl
  | none => exact raiseNow_apart _ q (startSchedule { s with mc := { s.mc with
      mode := .hold, selfTest := .ended, outcome := some (if s.mc.hardSeen then TestOutcome.hard else .pass) } })

theorem stepEnds_apart (f : StepFindings) : HeldApart (stepEnds f) := by
  intro q s
  unfold stepEnds
  rw [show (held q s).mc = s.mc from rfl]
  by_cases hm : s.mc.mode = .start
  · rw [if_pos hm, if_pos hm]
    cases s.mc.selfTest with
    | held | awaitLoopback | ended => rfl
    | running step =>
      cases step with
      | six =>
        cases f with
        | pattern bad ibad =>
          dsimp only [endStepSix]
          rw [apply_ite (held q)]
          rfl
        | _ => rfl
      | five =>
        cases f with
        | errorCheck passed => cases passed <;> rfl
        | _ => rfl
      | four =>
        cases f with
        | loopback => cases s.mc.loopbackGood <;> rfl
        | _ => rfl
      | three => cases f <;> rfl
      | two =>
        cases f with
        | timebase passed => cases passed <;> rfl
        | _ => rfl
      | one =>
        cases f with
        | tables => exact endSelfTest_apart q (emptyTables s)
        | _ => rfl
  · rw [if_neg hm, if_neg hm]

theorem happening_apart {c : Instr} (hr : requestOf c = none) (hm : ∀ a p k, c ≠ .messageReceived a p k)
    (hh : ∀ st b, c ≠ .hardReset st b) (hs : c ≠ .replySent) (hp : ∀ k, c ≠ .passCompletion k) : HeldApart (happening c) := by
  cases c with
  | hardReset st b => exact absurd rfl (hh st b)
  | messageReceived a p k => exact absurd rfl (hm a p k)
  | replySent => exact absurd rfl hs
  | passCompletion k => exact absurd rfl (hp k)
  | selfTestStepEnd f => exact stepEnds_apart f
  | linkLoopback good => exact loopbackBegins_apart good
  | linkAborted a => exact markedCharacter_apart a
  | addressCharacter a => exact markedCharacter_apart a
  | linkBreak => exact breakArrives_apart
  | linkFraming cause => exact framingArrives_apart cause
  | gapTimeout => exact gapArrives_apart
  | replySendStart => exact sendStarts_apart
  | syncEdge time => exact .of_outsideLink fun x s => syncEdge_linked (max s.now time) x (arriveAt time s)
  | edgeHistoryTimeout => exact .of_outsideLink historyTimeout_linked
  | internalFrameStart => exact .of_outsideLink internalStart_linked
  | edgeWindowClose => exact .of_outsideLink windowClose_linked
  | passStage1 => exact .of_outsideLink (settled_linked (runStage_linked _ _ stage1_linked))
  | passStage2 => exact .of_outsideLink (settled_linked (runStage_linked _ _ stage2_linked))
  | passStage3 => exact .of_outsideLink (settled_linked (runStage_linked _ _ stage3_linked))
  | passStage4 => exact .of_outsideLink (settled_linked (runStage_linked _ _ stage4_linked))
  | deadlineExpiry n => exact .of_outsideLink (settled_linked (deadlineExpires_linked n.val))
  | confirmTimerExpiry x => exact .of_outsideLink (settled_linked (confirmExpires_linked x.val))
  | pulseTimerExpiry ch => exact .of_outsideLink (pulseExpires_linked ch)
  | inhibitInputChange a => exact .of_outsideLink (inhibitChanges_linked a)
  | resetNRelease => exact resetReleases_apart
  | _ => cases hr

end
end Sys2Proof.Machine
end

section
namespace Sys2Proof.Machine

section
variable {c : Instr} {s u : State} {ch : Fin 4}

theorem beforeTaking_of_apart (hf : HeldApart (happening c))
    (hb : beforeTaking c s = match exec c (held [] s) with
      | .next t => held s.hl.requests t
      | .fault _ => s
      | .refused _ => s) : beforeTaking c s = happening c s := by
  have hnone : (happening c (held [] s)).hl.requests = [] := hf.requests (held [] s)
  have hserved : serve (happening c (held [] s)) = happening c (held [] s) := by rw [serve, serveUpTo_none _ hnone]
  rw [hb, exec_happening, hserved]
  exact (hf s.hl.requests (held [] s)).symm

theorem beforeTaking_eq (c : Instr) (s : State) : beforeTaking c s = happening c s := by
  cases c with
  | hardReset | messageReceived | replySent | passCompletion => rfl
  | selfTestStepEnd | linkLoopback | linkAborted | addressCharacter | linkBreak | linkFraming | gapTimeout | replySendStart
  | syncEdge | edgeHistoryTimeout | internalFrameStart | edgeWindowClose | passStage1 | passStage2 | passStage3 | passStage4
  | deadlineExpiry | confirmTimerExpiry | pulseTimerExpiry | inhibitInputChange | resetNRelease =>
    exact beforeTaking_of_apart (happening_apart rfl (by simp) (by simp) (by simp) (by simp)) rfl
  | _ => rfl

/-! ### Pulses at an event (R142, R161) -/

/-- What may end the pulse of a channel: the expiry of its timer, a hard reset, START, and the reset behind a SELF_TEST reply. -/
def mayEnd (c : Instr) (s : State) (ch : Fin 4) : Prop :=
  c = .pulseTimerExpiry ch ∨ (∃ st b, c = .hardReset st b) ∨ s.mc.mode = .start ∨ noResetPending s = false

/-- At an event a pulse begins only where it may, and ends only where it may; the interrupter records stay sound, unless no request is
held after it. -/
structure Happens (c : Instr) (s u : State) : Prop where
  pulses : ∀ ch, (u.channels.get ch).pulse = (s.channels.get ch).pulse ∨ ((u.channels.get ch).pulse ≠ none ∧ pulseAllowed s ch) ∨
    ((u.channels.get ch).pulse = none ∧ mayEnd c s ch)
  sound : soundInterrupters s → soundInterrupters u ∨ u.hl.requests = []

theorem Happens.of_guards (h : guards u = guards s) : Happens c s u where
  pulses ch := by
    have hc : u.channels = s.channels := congrArg Prod.fst h
    exact .inl (by rw [hc])
  sound hs := .inl (sound_of_armings (congrArg Prod.snd h) hs)

theorem Follows.settled_happens {f : State → State} (h : Follows s (f s)) : Happens c s (settled f s) where
  pulses ch := by
    have hc : (settled f s).channels = (f s).channels := congrArg Prod.fst (guards_settleUrgency (f s) _)
    rw [hc]
    exact (h.pulses ch).imp_right .inl
  sound hs := .inl (sound_of_armings (congrArg Prod.snd (guards_settleUrgency (f s) _)) (h.sound hs))

/-- Every pulse and every interrupter record stands, or all of them are gone. -/
def keptOrCleared (s u : State) : Prop :=
  (∀ ch, (u.channels.get ch).pulse = (s.channels.get ch).pulse) ∧ u.interrupters = s.interrupters ∨
    (∀ ch, (u.channels.get ch).pulse = none) ∧ u.interrupters = []

theorem keptOrCleared_of_eq (hc : u.channels = s.channels) (hi : u.interrupters = s.interrupters) : keptOrCleared s u :=
  .inl ⟨fun _ => by rw [hc], hi⟩

theorem endSelfTest_channels (s : State) : (endSelfTest s).channels = s.channels := by
  unfold endSelfTest
  cases s.mc.fatalStep with
  | some step => rfl
  | none => exact raiseNow_channels _ _

theorem endSelfTest_interrupters (s : State) : (endSelfTest s).interrupters = s.interrupters := by
  unfold endSelfTest
  cases s.mc.fatalStep with
  | some step => rfl
  | none => exact raiseNow_interrupters _ _

/-- Step 1 empties the tables and the channels; every other step keeps the pulses and the records (R161). -/
theorem stepEnds_kept (f : StepFindings) (s : State) : keptOrCleared s (stepEnds f s) := by
  have hsame : keptOrCleared s s := keptOrCleared_of_eq rfl rfl
  unfold stepEnds
  by_cases hm : s.mc.mode = .start
  · rw [if_pos hm]
    cases s.mc.selfTest with
    | held | awaitLoopback | ended => exact hsame
    | running step =>
      cases step with
      | six =>
        cases f with
        | pattern bad ibad =>
          dsimp only [endStepSix]
          split <;> exact keptOrCleared_of_eq rfl rfl
        | _ => exact hsame
      | five =>
        cases f with
        | errorCheck passed => cases passed <;> exact keptOrCleared_of_eq rfl rfl
        | _ => exact hsame
      | four =>
        cases f with
        | loopback => cases s.mc.loopbackGood <;> exact keptOrCleared_of_eq rfl rfl
        | _ => exact hsame
      | three =>
        cases f with
        | channels bad => exact .inl ⟨fun ch => by simp [endStepThree, passOn], rfl⟩
        | _ => exact hsame
      | two =>
        cases f with
        | timebase passed => cases passed <;> exact keptOrCleared_of_eq rfl rfl
        | _ => exact hsame
      | one =>
        cases f with
        | tables =>
          refine .inr ⟨fun ch => ?_, endSelfTest_interrupters _⟩
          rw [endSelfTest_channels]
          simp [emptyTables, Channel.default]
        | _ => exact hsame
  · rw [if_neg hm]
    exact hsame

theorem Happens.stepEnds (f : StepFindings) (s : State) : Happens (.selfTestStepEnd f) s (stepEnds f s) := by
  by_cases hm : s.mc.mode = .start
  · rcases stepEnds_kept f s with ⟨hp, hi⟩ | ⟨hp, hi⟩
    · refine ⟨fun ch => .inl (hp ch), fun hs => .inl fun x r hr => ?_⟩
      rw [interrupterAt_row, hi, ← interrupterAt_row] at hr
      exact hs x r hr
    · refine ⟨fun ch => .inr (.inr ⟨hp ch, .inr (.inr (.inl hm))⟩), fun _ => .inl fun x r hr => ?_⟩
      rw [interrupterAt_row, hi] at hr
      cases hr
  · have hsame : Machine.stepEnds f s = s := if_neg hm
    rw [hsame]
    exact .of_guards rfl

theorem Happens.hardReset (st b : BitVec 2) (s : State) (hc : ∀ ch, mayEnd c s ch) : Happens c s (hardReset st b s) where
  pulses ch := .inr (.inr ⟨by fin_cases ch <;> rfl, hc ch⟩)
  sound _ := .inr rfl

theorem Happens.replyEnds (s : State) : Happens .replySent s (replyEnds s) := by
  unfold Machine.replyEnds
  split
  · cases hr : s.hl.replies with
    | nil => exact .of_guards (guards_sendEnds s)
    | cons r rest =>
      dsimp only
      split
      · rename_i hreset
        have hpending : noResetPending s = false := by simp [noResetPending, hr, hreset]
        have h := Happens.hardReset (c := .replySent) (Config.strapsAt s.strapReads).1 (Config.strapsAt s.strapReads).2 s
          fun _ => .inr (.inr (.inr hpending))
        exact ⟨h.pulses, h.sound⟩
      · exact .of_guards (guards_sendEnds s)
  · exact .of_guards rfl

theorem Happens.pulseExpires (k : Fin 4) (s : State) : Happens (.pulseTimerExpiry k) s (pulseExpires k s) := by
  unfold Machine.pulseExpires
  cases (s.channels.get k).pulse with
  | none => exact .of_guards rfl
  | some due =>
    refine ⟨fun ch => ?_, fun hs => .inl hs⟩
    dsimp only
    rw [modifyChannel_get]
    split
    · rename_i hk
      subst hk
      exact .inr (.inr ⟨rfl, .inl rfl⟩)
    · exact .inl rfl

theorem Happens.happening (hp : ∀ k, c ≠ .passCompletion k) (s : State) : Happens c s (happening c s) := by
  cases c with
  | passCompletion k => exact absurd rfl (hp k)
  | hardReset st b => exact .hardReset st b s fun _ => .inr (.inl ⟨st, b, rfl⟩)
  | selfTestStepEnd f => exact .stepEnds f s
  | replySent => exact .replyEnds s
  | pulseTimerExpiry ch => exact .pulseExpires ch s
  | messageReceived a p k => exact .of_guards (guards_messageArrives s a p k)
  | linkLoopback good => exact .of_guards (guards_loopbackBegins s good)
  | linkAborted a => exact .of_guards (guards_markedCharacter s a)
  | addressCharacter a => exact .of_guards (guards_markedCharacter s a)
  | linkBreak => exact .of_guards (guards_breakArrives s)
  | linkFraming cause => exact .of_guards (guards_framingArrives s cause)
  | gapTimeout => exact .of_guards (guards_gapArrives s)
  | replySendStart => exact .of_guards (guards_sendStarts s)
  | syncEdge time => exact .of_guards (guards_syncEdge (arriveAt time s) _)
  | edgeHistoryTimeout => exact .of_guards (guards_historyTimeout s)
  | internalFrameStart => exact .of_guards (guards_internalStart s)
  | edgeWindowClose => exact .of_guards (guards_windowClose s)
  | passStage1 => exact .of_guards ((guards_settleUrgency _ _).trans (guards_runStage s _ _ (guards_stage1 s)))
  | passStage2 => exact .of_guards ((guards_settleUrgency _ _).trans (guards_runStage s _ _ (guards_stage2 s)))
  | passStage3 => exact .of_guards ((guards_settleUrgency _ _).trans (guards_runStage s _ _ (guards_stage3 s)))
  | passStage4 => exact .of_guards ((guards_settleUrgency _ _).trans (guards_runStage s _ _ (guards_stage4 s)))
  | deadlineExpiry n => exact (Follows.deadlineExpires n.val s).settled_happens
  | confirmTimerExpiry x => exact (Follows.confirmExpires x.val s).settled_happens
  | inhibitInputChange a => exact .of_guards rfl
  | resetNRelease => exact .of_guards (guards_resetReleases s)
  | _ => exact .of_guards (guards_requestArrives s _)

end
end Sys2Proof.Machine
end

section
namespace Sys2Proof.Machine

section
variable {c : Instr} {s t u : State} {ch : Fin 4}

theorem Orderly.congr (h : Orderly s) (hg : guards t = guards s) (hst : standing t = standing s) : Orderly t := by
  have hhl : t.hl = s.hl := congrArg Standing.hl hst
  rw [Orderly, hhl, mc_of_standing hst]
  exact ⟨h.1, h.2.imp_left (sound_of_armings (congrArg Prod.snd hg))⟩

/-! #### Requests arrive -/

/-- A request may have been buffered; records, channels, mode and inhibit stand. -/
structure Arrives (s u : State) : Prop where
  guards : guards u = guards s
  mc : u.mc = s.mc
  pin : u.inhibitPin = s.inhibitPin
  one : u.hl.requests.length ≤ s.hl.requests.length + 1
  two : s.hl.requests.length ≤ 2 → u.hl.requests.length ≤ 2

theorem Arrives.buffer (r : Request) (hl : HostLink) (cb : CountBank) (h : hl.requests = s.hl.requests) :
    Arrives s (buffer r { s with hl, cb }) := by
  unfold Machine.buffer
  split
  · rename_i hfree
    dsimp only at hfree
    rw [h] at hfree
    exact ⟨rfl, rfl, rfl, by simp [h], fun _ => by simp [h]; omega⟩
  · exact ⟨rfl, rfl, rfl, by simp [h, latch, bump], fun h2 => by simpa [h, latch, bump] using h2⟩

/-- Host Link and the Count Bank alone change, the held requests not. -/
theorem Arrives.linked (hl : HostLink) (cb : CountBank) (h : hl.requests = s.hl.requests) : Arrives s { s with hl, cb } :=
  ⟨rfl, rfl, rfl, by simp [h], fun h2 => by simpa [h] using h2⟩

theorem dropOther_counts (a : Byte) (s : State) : ∃ cb, dropOther a s = { s with cb } := by
  unfold dropOther
  split
  · split
    · exact ⟨s.cb, rfl⟩
    · exact ⟨_, rfl⟩
  · exact ⟨s.cb, rfl⟩
  · exact ⟨s.cb, rfl⟩

theorem Arrives.requestArrives (r : Request) (s : State) : Arrives s (requestArrives r s) := by
  obtain ⟨cb, hdropped⟩ := dropOther_counts (addressOf s.hl.station (requestKind r)) s
  unfold Machine.requestArrives
  rw [hdropped]
  split
  · exact .buffer r _ cb rfl
  · exact .linked s.hl s.cb rfl

theorem Arrives.markedCharacter (a : Byte) (s : State) : Arrives s (markedCharacter a s) := by
  unfold Machine.markedCharacter
  split
  · dsimp only
    split <;> split <;> exact .linked _ _ rfl
  · exact .linked s.hl s.cb rfl

theorem Arrives.messageArrives (a : Byte) (p : List Byte) (k : Half) (s : State) : Arrives s (messageArrives a p k s) := by
  obtain ⟨cb, hdropped⟩ := dropOther_counts a s
  unfold Machine.messageArrives
  rw [hdropped]
  split
  · exact .linked s.hl s.cb rfl
  · split
    · exact .markedCharacter a s
    · dsimp only
      split
      · exact .linked _ _ rfl
      · split
        · exact .linked _ _ rfl
        · cases decodeRequest (addressKind a) p with
          | none => exact .linked _ cb rfl
          | some r => exact .buffer r _ cb rfl

theorem replyEnds_requests (s : State) : (replyEnds s).hl.requests = s.hl.requests ∨ (replyEnds s).hl.requests = [] := by
  unfold replyEnds
  split
  · cases s.hl.replies with
    | nil => exact .inl rfl
    | cons r rest =>
      dsimp only
      split
      · exact .inr rfl
      · exact .inl rfl
  · exact .inl rfl

/-- The held requests after an event: those before it, none, or one more. -/
theorem happening_requests (hp : ∀ k, c ≠ .passCompletion k) (s : State) : (happening c s).hl.requests = s.hl.requests ∨
    (happening c s).hl.requests = [] ∨ Arrives s (happening c s) := by
  cases c with
  | passCompletion k => exact absurd rfl (hp k)
  | hardReset => exact .inr (.inl rfl)
  | messageReceived a p k => exact .inr (.inr (.messageArrives a p k s))
  | replySent => exact (replyEnds_requests s).imp_right .inl
  | selfTestStepEnd | linkLoopback | linkAborted | addressCharacter | linkBreak | linkFraming | gapTimeout | replySendStart
  | syncEdge | edgeHistoryTimeout | internalFrameStart | edgeWindowClose | passStage1 | passStage2 | passStage3 | passStage4
  | deadlineExpiry | confirmTimerExpiry | pulseTimerExpiry | inhibitInputChange | resetNRelease =>
    exact .inl ((happening_apart rfl (by simp) (by simp) (by simp) (by simp)).requests s)
  | _ => exact .inr (.inr (.requestArrives _ s))

/-! #### The step (R142) -/

theorem Orderly.of_sound (hs : soundInterrupters s) (hlen : s.hl.requests.length ≤ 2) : Orderly s := ⟨hlen, .inl hs⟩

/-- After an event the held requests stand in order. -/
theorem Happens.orderly (h : Happens c s u) (hs : soundInterrupters s) (hlen : s.hl.requests.length ≤ 2)
    (hheld : u.hl.requests = s.hl.requests ∨ u.hl.requests = [] ∨ Arrives s u) : Orderly u := by
  have hle : u.hl.requests.length ≤ 2 := by
    rcases hheld with hsame | hnone | harrives
    · rwa [hsame]
    · simp [hnone]
    · exact harrives.two hlen
  exact ⟨hle, (h.sound hs).imp_right .inr⟩

/-- A pulse that runs after an event ran before it, or began where it might. -/
theorem Happens.begun (h : Happens c s u) (hs : soundInterrupters s) (hruns : (u.channels.get ch).pulse ≠ none) :
    (u.channels.get ch).pulse = (s.channels.get ch).pulse ∨ mayPulse s ch := by
  rcases h.pulses ch with hsame | ⟨-, hallowed⟩ | ⟨hnone, -⟩
  · exact .inl hsame
  · exact .inr (hallowed.mayPulse hs)
  · exact absurd hnone hruns

/-- A pulse that runs after the requests served ran before them, or began as one of them was taken. -/
theorem Orderly.begun (h : Orderly u) (ch : Fin 4) : ((serve u).channels.get ch).pulse = (u.channels.get ch).pulse ∨
    ∃ i, i < u.hl.requests.length ∧ mayPulse (Machine.serveUpTo i u) ch :=
  ((h.serveUpTo _).2 ch).imp_right fun ⟨i, _, hi, hmay⟩ => ⟨i, hi, hmay⟩

theorem mayPulse_congr (hg : guards u = guards s) (hmc : u.mc = s.mc) (hpin : u.inhibitPin = s.inhibitPin) (h : mayPulse u ch) :
    mayPulse s ch := by
  obtain ⟨hrun, hinhibit, hgood, x, r, hx, hr, hk, ha⟩ := h
  have hc : u.channels = s.channels := congrArg Prod.fst hg
  obtain ⟨q, hq, hqa, hqk⟩ := armsNone_of_armings (congrArg Prod.snd hg) x r hr ha
  refine ⟨by rwa [hmc] at hrun, ?_, by rwa [hc] at hgood, x, q, hx, hq, hqk.trans hk, hqa⟩
  rwa [effectiveInhibit, hpin, hmc] at hinhibit

end
end Sys2Proof.Machine
end

section
namespace Sys2Proof.Machine

section
variable {c : Instr} {s t u : State} {ch : Fin 4} {k : Nat}

/-- The completion up to ring step 1 is a part of a step like the events. -/
theorem completed_happens (c : Instr) (s : State) : Happens c s (settled completePass s) := (Follows.completePass s).settled_happens

theorem completed_requests (s : State) : (settled completePass s).hl.requests = s.hl.requests := by
  have hhl : (completePass s).hl = s.hl := congrArg Standing.hl (standing_completePass s)
  rw [settled, settleUrgency_hl, hhl]

theorem closeOldest_pulse (s : State) (ch : Fin 4) : ((closeOldest s).channels.get ch).pulse = (s.channels.get ch).pulse := by
  have hc : (closeOldest s).channels = s.channels := congrArg Prod.fst (guards_closeOldest s)
  rw [hc]

/-- With no request held the completion is an event like the others. -/
theorem passCompletes_happens (c : Instr) (hnone : s.hl.requests = []) : Happens c s (passCompletes k s) ∧
    (passCompletes k s).hl.requests = [] := by
  unfold passCompletes
  split
  · have hheld := (completed_requests s).trans hnone
    have h := completed_happens c s
    have hhl : (closeOldest (settled completePass s)).hl = (settled completePass s).hl := congrArg Standing.hl (standing_closeOldest _)
    rw [serveUpTo_none k hheld, hhl]
    exact ⟨⟨fun ch => by rw [closeOldest_pulse]; exact h.pulses ch, fun _ => .inr (by rw [hhl, hheld])⟩, hheld⟩
  · exact ⟨.of_guards rfl, hnone⟩

/-- With no request held, a pulse begins where it may begin before the step. -/
theorem pulse_begun_noneHeld (hs : soundInterrupters s) (hnone : s.hl.requests = [])
    (hruns : ((serve (happening c s)).channels.get ch).pulse ≠ none) :
    ((serve (happening c s)).channels.get ch).pulse = (s.channels.get ch).pulse ∨ mayPulse s ch := by
  have hevent : Happens c s (happening c s) ∧ ((happening c s).hl.requests = [] ∨ Arrives s (happening c s)) := by
    by_cases hp : ∃ k, c = .passCompletion k
    · obtain ⟨k, rfl⟩ := hp
      exact (passCompletes_happens _ hnone).imp_right .inl
    · refine ⟨.happening (fun k hk => hp ⟨k, hk⟩) s, ?_⟩
      rcases happening_requests (fun k hk => hp ⟨k, hk⟩) s with hsame | hheld
      · exact .inl (hsame.trans hnone)
      · exact hheld
  obtain ⟨h, hheld⟩ := hevent
  have horderly := h.orderly hs (by simp [hnone]) (.inr hheld)
  generalize happening c s = u at h hheld horderly hruns ⊢
  rcases horderly.begun ch with hsame | ⟨i, hi, hmay⟩
  · rw [hsame] at hruns ⊢
    exact h.begun hs hruns
  · rcases hheld with hempty | harrives
    · rw [hempty] at hi
      cases hi
    · have hone := harrives.one
      rw [hnone, List.length_nil] at hone
      obtain rfl : i = 0 := by omega
      exact .inr (mayPulse_congr harrives.guards harrives.mc harrives.pin hmay)

/-- The moments of a step: the command, the requests named by the completion, the held requests (R50, R168). -/
theorem mem_moments_first : s ∈ moments c s := by simp [moments]

theorem mem_moments_held {i : Nat} (hi : i < 2) : serveUpTo i (happening c s) ∈ moments c s := by
  rw [← beforeTaking_eq]
  exact List.mem_append_right _ (List.mem_map.mpr ⟨i, List.mem_range.mpr hi, rfl⟩)

theorem mem_moments_ring {k : Fin 3} {i : Nat} (hstage : atStage .completion s = true) (hi : i < k.val) :
    serveUpTo i (settled completePass s) ∈ moments (.passCompletion k) s := by
  refine List.mem_append_left _ (List.mem_cons_of_mem _ ?_)
  dsimp only
  rw [if_pos hstage]
  exact List.mem_map.mpr ⟨i, List.mem_range.mpr hi, rfl⟩

/-- The completion keeps the held requests in order, and begins a pulse only at one of its moments. -/
theorem passCompletes_begun (k : Fin 3) (hs : soundInterrupters s) (hlen : s.hl.requests.length ≤ 2) :
    Orderly (passCompletes k.val s) ∧ ∀ ch, ((passCompletes k.val s).channels.get ch).pulse ≠ none →
      ((passCompletes k.val s).channels.get ch).pulse = (s.channels.get ch).pulse ∨
        ∃ u ∈ moments (.passCompletion k) s, mayPulse u ch := by
  unfold passCompletes
  by_cases hstage : atStage .completion s = true
  · rw [if_pos hstage]
    have h := completed_happens (.passCompletion k) s
    have hfirst := h.orderly hs hlen (.inl (completed_requests s))
    obtain ⟨horderly, hserved⟩ := hfirst.serveUpTo k.val
    refine ⟨horderly.congr (guards_closeOldest _) (standing_closeOldest _), fun ch => ?_⟩
    rw [closeOldest_pulse]
    intro hruns
    rcases hserved ch with hsame | ⟨i, hi, -, hmay⟩
    · rw [hsame] at hruns ⊢
      exact (h.begun hs hruns).imp_right fun hmay => ⟨s, mem_moments_first, hmay⟩
    · exact .inr ⟨_, mem_moments_ring hstage hi, hmay⟩
  · rw [if_neg hstage]
    exact ⟨.of_sound hs hlen, fun ch _ => .inl rfl⟩

/-- A pulse begins only at one of the moments of the step. -/
theorem pulse_begun (hs : soundInterrupters s) (hlen : s.hl.requests.length ≤ 2)
    (hruns : ((serve (happening c s)).channels.get ch).pulse ≠ none) :
    ((serve (happening c s)).channels.get ch).pulse = (s.channels.get ch).pulse ∨ ∃ u ∈ moments c s, mayPulse u ch := by
  have hevent : Orderly (happening c s) ∧ (((happening c s).channels.get ch).pulse ≠ none →
      ((happening c s).channels.get ch).pulse = (s.channels.get ch).pulse ∨ ∃ u ∈ moments c s, mayPulse u ch) := by
    by_cases hp : ∃ k, c = .passCompletion k
    · obtain ⟨k, rfl⟩ := hp
      obtain ⟨horderly, hbegun⟩ := passCompletes_begun k hs hlen
      exact ⟨horderly, hbegun ch⟩
    · have h : Happens c s (happening c s) := .happening (fun k hk => hp ⟨k, hk⟩) s
      exact ⟨h.orderly hs hlen (happening_requests (fun k hk => hp ⟨k, hk⟩) s),
        fun hruns => (h.begun hs hruns).imp_right fun hmay => ⟨s, mem_moments_first, hmay⟩⟩
  obtain ⟨horderly, hbegun⟩ := hevent
  rcases horderly.begun ch with hsame | ⟨i, hi, hmay⟩
  · rw [hsame] at hruns ⊢
    exact hbegun hruns
  · exact .inr ⟨_, mem_moments_held (Nat.lt_of_lt_of_le hi horderly.1), hmay⟩

/-- Outside START no command but the expiry of its own timer or a hard reset ends a pulse. -/
theorem pulse_kept (hmode : s.mc.mode ≠ .start) (hreset : noResetPending s = true) (hruns : (s.channels.get ch).pulse ≠ none)
    (hexpiry : c ≠ .pulseTimerExpiry ch) (hhard : ∀ st b, c ≠ .hardReset st b) :
    ((serve (happening c s)).channels.get ch).pulse ≠ none := by
  refine serveUpTo_keeps_pulse _ ?_
  have hend : ¬ mayEnd c s ch := by
    rintro (h | ⟨st, b, h⟩ | h | h)
    · exact hexpiry h
    · exact hhard st b h
    · exact hmode h
    · rw [hreset] at h
      cases h
  have hkept {u : State} (h : Happens c s u) : (u.channels.get ch).pulse ≠ none := by
    rcases h.pulses ch with hsame | ⟨hne, -⟩ | ⟨-, hends⟩
    · rwa [hsame]
    · exact hne
    · exact absurd hends hend
  by_cases hp : ∃ k, c = .passCompletion k
  · obtain ⟨k, rfl⟩ := hp
    show ((passCompletes k.val s).channels.get ch).pulse ≠ none
    unfold passCompletes
    split
    · rw [closeOldest_pulse]
      exact serveUpTo_keeps_pulse k.val (hkept (completed_happens _ s))
    · exact hruns
  · exact hkept (.happening (fun k hk => hp ⟨k, hk⟩) s)

end

/-- Settles O57: the operations on records begin a pulse only by a trip, which needs an armed interrupter on the channel in RUN with
the inhibit clear; each request is followed to the moment at which it is taken. -/
theorem pulsesBeginOnlyWhenAllowed : Obligations.PulsesBeginOnlyWhenAllowed := by
  refine ⟨fun c s t ch hclean hnone hex hruns => ?_, fun c s => ?_, fun c s t ch hclean hbuf hex hruns => ?_,
    fun c s t ch hmode hreset hex hruns hexpiry hhard => ?_⟩
  · rw [exec_happening] at hex
    cases hex
    exact pulse_begun_noneHeld (sound_of_clean hclean) (noneHeld_iff.mp hnone) hruns
  · rw [beforeTaking_eq, exec_happening]
  · rw [exec_happening] at hex
    cases hex
    exact pulse_begun (sound_of_clean hclean) (buffersBounded_iff.mp hbuf).requests hruns
  · rw [exec_happening] at hex
    cases hex
    exact pulse_kept hmode hreset hruns hexpiry hhard

end Sys2Proof.Machine
end

section
namespace Sys2Proof.Machine

/-! ### CONFIG_TRIP_OUTPUTS (R143) -/

section
variable {entries : List ChannelEntry} {s : State}

/-- The codes and the width of an entry are good. -/
def entryGood (e : ChannelEntry) : Prop :=
  e.channel.toNat ≤ 3 ∧ 1 ≤ e.width.toNat ∧ e.width.toNat ≤ 500 ∧ e.polarity.toNat ≤ 1 ∧ e.drive.toNat ≤ 1

theorem channelChecks_iff {offset : Nat} {seen : List Byte} : (∀ c ∈ channelChecks offset seen entries, c.2 = true) ↔
    (entries.map (·.channel)).Nodup ∧ (∀ e ∈ entries, e.channel ∉ seen) ∧ ∀ e ∈ entries, entryGood e := by
  induction entries generalizing offset seen with
  | nil => simp [channelChecks]
  | cons e rest ih =>
    have hnew (u : ChannelEntry) : u.channel ∉ e.channel :: seen ↔ ¬ u.channel = e.channel ∧ u.channel ∉ seen := by simp
    simp only [channelChecks, List.forall_mem_cons, Bool.and_eq_true, within_iff, Bool.not_eq_true', List.contains_eq_mem,
      decide_eq_false_iff_not, ih, hnew, List.map_cons, List.nodup_cons, List.mem_map, not_exists, not_and, entryGood]
    constructor
    · rintro ⟨⟨⟨-, hch⟩, hseen⟩, hw, ⟨-, hp⟩, ⟨-, hd⟩, hnd, hothers, hgood⟩
      exact ⟨⟨fun u hu => (hothers u hu).1, hnd⟩, ⟨hseen, fun u hu => (hothers u hu).2⟩, ⟨hch, hw.1, hw.2, hp, hd⟩, hgood⟩
    · rintro ⟨⟨hne, hnd⟩, ⟨hseen, hold⟩, ⟨hch, hw1, hw2, hp, hd⟩, hgood⟩
      exact ⟨⟨⟨Nat.zero_le _, hch⟩, hseen⟩, ⟨hw1, hw2⟩, ⟨Nat.zero_le _, hp⟩, ⟨Nat.zero_le _, hd⟩, hnd,
        fun u hu => ⟨hne u hu, hold u hu⟩, hgood⟩

theorem fieldFault_configTripOutputs : fieldFault (.configTripOutputs entries) = none ↔
    1 ≤ entries.length ∧ entries.length ≤ 4 ∧ (entries.map (·.channel)).Nodup ∧ ∀ e ∈ entries, entryGood e := by
  have hchecks : fieldFault (.configTripOutputs entries) = firstBad ((0, within 1 4 entries.length) :: channelChecks 1 [] entries) := rfl
  rw [hchecks, firstBad_none, List.forall_mem_cons, within_iff, channelChecks_iff, and_assoc]
  simp

/-- The channel of a good entry. -/
theorem settingOf_channel {e : ChannelEntry} (h : e.channel.toNat ≤ 3) {k : Fin 4} :
    (settingOf e).channel = k ↔ e.channel.toNat = k.val := by
  rw [settingOf, Fin.ext_iff, Fin.val_ofNat, Nat.mod_eq_of_lt (by omega)]

theorem settingOf_nodup (hnd : (entries.map (·.channel)).Nodup) (h : ∀ e ∈ entries, e.channel.toNat ≤ 3) :
    ((entries.map settingOf).map (·.channel)).Nodup := by
  rw [List.map_map]
  refine List.pairwise_map.mpr ((List.pairwise_map.mp hnd).imp_of_mem fun {a b} ha hb hne hsame => hne (BitVec.eq_of_toNat_eq ?_))
  rw [(settingOf_channel (h a ha)).mp rfl, (settingOf_channel (h b hb)).mp hsame.symm]
  rfl

/-- The channel as an entry sets it. -/
def setTo (e : ChannelSetting) (c : Channel) : Channel := { c with width := e.width, polarity := e.polarity, drive := e.drive }

/-- The four channels after the entries are written. -/
def configured (es : List ChannelSetting) (c : Channels) : Channels :=
  es.foldl (fun c e => channelsOf fun k => if k = e.channel then setTo e (c.get k) else c.get k) c

theorem configures_eq (es : List ChannelSetting) (s : State) :
    es.foldl (fun t e => configure e t) s = { s with channels := configured es s.channels } := by
  induction es generalizing s with
  | nil => rfl
  | cons e es ih => exact ih (configure e s)

theorem configured_other {es : List ChannelSetting} {k : Fin 4} (h : ∀ e ∈ es, e.channel ≠ k) (c : Channels) :
    (configured es c).get k = c.get k := by
  induction es generalizing c with
  | nil => rfl
  | cons e es ih =>
    obtain ⟨hne, hrest⟩ := List.forall_mem_cons.mp h
    rw [configured, List.foldl_cons, ← configured, ih hrest, get_channelsOf, if_neg hne.symm]

theorem configured_named {es : List ChannelSetting} {e : ChannelSetting} (hnd : (es.map (·.channel)).Nodup) (he : e ∈ es) (c : Channels) :
    (configured es c).get e.channel = setTo e (c.get e.channel) := by
  induction es generalizing c with
  | nil => cases he
  | cons d es ih =>
    rw [List.map_cons, List.nodup_cons] at hnd
    obtain ⟨hnew, hnd⟩ := hnd
    rw [configured, List.foldl_cons, ← configured]
    rcases List.mem_cons.mp he with rfl | he
    · rw [configured_other fun u hu hc => hnew (List.mem_map.mpr ⟨u, hu, hc⟩), get_channelsOf, if_pos rfl]
    · have hne : e.channel ≠ d.channel := fun hc => hnew (List.mem_map.mpr ⟨e, he, hc⟩)
      rw [ih hnd he, get_channelsOf, if_neg hne]

/-! #### The refusals -/

/-- An entry names a failed channel. -/
def namesFailed (s : State) (e : ChannelEntry) : Prop := ∃ k : Fin 4, e.channel.toNat = k.val ∧ (s.channels.get k).failed = true

theorem namesFailed_iff {e : ChannelEntry} (h : e.channel.toNat ≤ 3) :
    namesFailed s e ↔ (s.channels.get (settingOf e).channel).failed = true := by
  constructor
  · rintro ⟨k, hk, hf⟩
    rwa [(settingOf_channel h).mpr hk]
  · exact fun hf => ⟨_, (settingOf_channel h).mp rfl, hf⟩

theorem isArmedLocal_iff {x : Nat} : isArmedLocal s x = true ↔ ∃ r, interrupterAt s x = some r ∧ r.armed = true ∧ r.kind ≠ .remote := by
  unfold isArmedLocal
  cases interrupterAt s x with
  | none => simp
  | some r => simp

section
variable {es : List ChannelSetting} (hclean : clean s = true) (hgood : es.find? (fun e => (s.channels.get e.channel).failed) = none)
include hclean hgood

theorem takeConfigTripOutputs_armed {x : Nat} (hx : allInterrupters.find? (isArmedLocal s) = some x) :
    takeConfigTripOutputs es s = (s, refuseNaming .armedLock .interrupter x) := by
  simp only [takeConfigTripOutputs, hgood, readInterrupters_clean hclean, hx]

theorem takeConfigTripOutputs_pulsing {ch : Fin 4} (hx : allInterrupters.find? (isArmedLocal s) = none)
    (hch : (allChannels.find? fun ch => (s.channels.get ch).pulse.isSome) = some ch) :
    takeConfigTripOutputs es s = (s, refuseNaming .armedLock .channel ch.val) := by
  simp only [takeConfigTripOutputs, hgood, readInterrupters_clean hclean, hx, hch]

theorem takeConfigTripOutputs_written (hx : allInterrupters.find? (isArmedLocal s) = none)
    (hch : (allChannels.find? fun ch => (s.channels.get ch).pulse.isSome) = none) :
    takeConfigTripOutputs es s = ({ s with channels := configured es s.channels }, okWith []) := by
  simp only [takeConfigTripOutputs, hgood, readInterrupters_clean hclean, hx, hch, configures_eq]

end

theorem isArmedLocal_false {x : Nat} (h : ∀ r, interrupterAt s x = some r → r.armed = false ∨ r.kind = .remote) :
    ¬ ∃ r, interrupterAt s x = some r ∧ r.armed = true ∧ r.kind ≠ .remote := by
  rintro ⟨r, hr, ha, hk⟩
  rcases h r hr with h | h
  · rw [ha] at h
    cases h
  · exact hk h

/-- The lowest channel with a running pulse. -/
theorem find_channel_some {k : Fin 4} (hk : (s.channels.get k).pulse.isSome = true)
    (hlow : ∀ j < k, (s.channels.get j).pulse = none) : (allChannels.find? fun ch => (s.channels.get ch).pulse.isSome) = some k := by
  have hnone (j : Fin 4) (hj : j < k) : (s.channels.get j).pulse.isSome = false := by rw [hlow j hj]; rfl
  unfold allChannels
  fin_cases k <;> simp_all [List.find?]

end

/-- Settles O12: the fields are checked entry by entry; the refusals look for a failed channel, an armed LOCAL interrupter and a
running pulse in that order, and the entries are written one by one on channels named once. -/
theorem configTripOutputsLocksAndWrites : Obligations.ConfigTripOutputsLocksAndWrites := by
  refine ⟨fun entries => fieldFault_configTripOutputs, fun entries s hready hservice hclean hfault => ?_⟩
  obtain ⟨-, -, hnd, hlegal⟩ := fieldFault_configTripOutputs.mp hfault
  have hacting : clean (acting (.configTripOutputs entries) s) = true := clean_acting hclean _
  have hrefused {a : Answer} (hfollow : a.follow ≠ .restart)
      (hact : takeConfigTripOutputs (entries.map settingOf) (acting (.configTripOutputs entries) s) =
        (acting (.configTripOutputs entries) s, a)) :
      exec (.configTripOutputs entries) s = .next (answered 24 a s) :=
    exec_unchanged (i := .configTripOutputs entries) rfl hready rfl hservice rfl hfault hact hfollow
  have hnofault (hgood : ∀ e ∈ entries, ¬ namesFailed s e) :
      (entries.map settingOf).find? (fun e => (s.channels.get e.channel).failed) = none := by
    rw [List.find?_map, List.find?_eq_none.mpr]
    · rfl
    · exact fun e he hf => hgood e he ((namesFailed_iff (hlegal e he).1).mpr hf)
  refine ⟨fun before e after hentries hbefore hfailed => ?_, fun x r hgood hx hr harmed hkind hlow => ?_, fun hgood hunarmed => ?_⟩
  · have he : e ∈ entries := by simp [hentries]
    have hchannel := (hlegal e he).1
    have hfind : (entries.map settingOf).find? (fun e => (s.channels.get e.channel).failed) = some (settingOf e) := by
      have hnone : before.find? ((fun e => (s.channels.get e.channel).failed) ∘ settingOf) = none :=
        List.find?_eq_none.mpr fun u hu hf => hbefore u hu ((namesFailed_iff (hlegal u (by simp [hentries, hu])).1).mpr hf)
      have hhit : ((fun e => (s.channels.get e.channel).failed) ∘ settingOf) e = true := (namesFailed_iff hchannel).mp hfailed
      rw [List.find?_map, hentries, List.find?_append, hnone, Option.none_or, List.find?_cons_of_pos hhit]
      rfl
    rw [(settingOf_channel hchannel).mp rfl]
    refine hrefused (follow_refuseNaming _ _ _) ?_
    rw [takeConfigTripOutputs, show (acting (.configTripOutputs entries) s).channels = s.channels from rfl, hfind]
  · have hfind : allInterrupters.find? (isArmedLocal s) = some x :=
      find_range_some (fun _ => isArmedLocal_iff) hx ⟨r, hr, harmed, hkind⟩ fun y hy => isArmedLocal_false (hlow y hy)
    exact hrefused (follow_refuseNaming _ _ _) (takeConfigTripOutputs_armed hacting (hnofault hgood) hfind)
  · have hfind : allInterrupters.find? (isArmedLocal s) = none :=
      (find_range_none fun _ => isArmedLocal_iff).mpr fun y hy => isArmedLocal_false fun r hr => hunarmed y r hy hr
    refine ⟨fun k hk hlow => ?_, fun hidle => ?_⟩
    · have hpulse := find_channel_some hk hlow
      exact hrefused (follow_refuseNaming _ _ _) (takeConfigTripOutputs_pulsing hacting (hnofault hgood) hfind hpulse)
    · have hquiet : (allChannels.find? fun ch => (s.channels.get ch).pulse.isSome) = none :=
        List.find?_eq_none.mpr fun k _ => by simp [hidle k]
      have hwritten := takeConfigTripOutputs_written hacting (hnofault hgood) hfind hquiet
      refine ⟨configured (entries.map settingOf) s.channels, ?_, fun e he k hk => ?_, fun k hother => ?_⟩
      · exact exec_taken (i := .configTripOutputs entries) (r := .configTripOutputs entries)
          (t := { s with channels := configured (entries.map settingOf) s.channels }) rfl hready rfl hservice rfl hfault
          hwritten (follow_okWith _) rfl (urgencySource_congr rfl rfl rfl)
      · rw [← (settingOf_channel (hlegal e he).1).mpr hk]
        exact configured_named (settingOf_nodup hnd fun e he => (hlegal e he).1) (List.mem_map.mpr ⟨e, he, rfl⟩) s.channels
      · refine configured_other (fun d hd => ?_) s.channels
        obtain ⟨e, he, rfl⟩ := List.mem_map.mp hd
        exact fun hk => hother e he ((settingOf_channel (hlegal e he).1).mp hk)

end Sys2Proof.Machine
end

section
namespace Sys2Proof.Machine

/-! ### Requests on an interrupter record (R130, R138, R139) -/

section
variable {s : State} {x : Nat} {r q : IntRec} {f : IntRec → State → State × Answer}

theorem onInterrupter_free (h : rowAt s.interrupters x = none) : onInterrupter x f s = (s, refuse .notFound) := by
  simp [onInterrupter, h]

theorem onInterrupter_lost (hc : clean s = true) (h : rowAt s.interrupters x = some .tableError) :
    onInterrupter x f s = (s, refuse .stateConflict) := by
  simp [onInterrupter, h, readInterrupter_clean hc, interrupterAt_tableError h]

theorem onInterrupter_live (hc : clean s = true) (h : interrupterAt s x = some r) : onInterrupter x f s = f r s := by
  simp [onInterrupter, interrupterAt_row.mp h, readInterrupter_clean hc, h]

/-- The table in which interrupter x has the record q and every other place is that of s. -/
def replacesInterrupter (s : State) (tab : Table IntPlace) (x : Nat) (q : IntRec) : Prop :=
  ∀ k, rowAt tab k = if k = x then some (.live q) else rowAt s.interrupters k

theorem writeInterrupter_replaces (herr : q.err = 0) : replacesInterrupter s (writeInterrupter x q s).interrupters x q := by
  intro k
  simp only [writeInterrupter, rowAt_setRow, ← herr]

theorem interrupterAt_replaced {t : State} (h : replacesInterrupter s t.interrupters x q) (y : Nat) :
    interrupterAt t y = if y = x then some q else interrupterAt s y := by
  unfold interrupterAt
  rw [h y]
  by_cases hy : y = x
  · rw [if_pos hy, if_pos hy]
  · rw [if_neg hy, if_neg hy]

/-- A record rewritten in TRIPPING or out of it leaves the urgency source. -/
theorem urgencySource_rearmed {tab : Table IntPlace} (hr : interrupterAt s x = some r) (h : replacesInterrupter s tab x q)
    (hst : q.state = .tripping ↔ r.state = .tripping) : urgencySource { s with interrupters := tab } = urgencySource s := by
  refine urgencySource_same rfl (fun _ _ => rfl) fun y _ => ?_
  have hy : interrupterAt { s with interrupters := tab } y = if y = x then some q else interrupterAt s y := interrupterAt_replaced h y
  by_cases hyx : y = x
  · subst hyx
    rw [if_pos rfl] at hy
    rw [isTripping_of_state hy, isTripping_of_state hr, Bool.eq_iff_iff, beq_iff_eq, beq_iff_eq, hst]
  · rw [if_neg hyx] at hy
    rw [isTripping, isTripping, hy]

/-- A request that rewrites a record, its notices queued, and leaves the urgency source. -/
theorem exec_replaced_noted {i : Instr} {req : Request} {a : Answer} {nq : NoticeQueue} (hi : requestOf i = some req)
    (hready : ready s = true) (hd : isDelayed req = false) (hs : inService s = true)
    (hk : [0, 1, 2, 5, 6, 25, 29, 30, 31].contains (requestKind req).toNat = false) (hf : fieldFault req = none)
    (hact : act req (acting req s) = ({ writeInterrupter x q (acting req s) with nq }, a)) (hfollow : a.follow ≠ .restart)
    (hr : interrupterAt s x = some r) (hst : q.state = .tripping ↔ r.state = .tripping) (herr : q.err = 0) :
    ∃ g, exec i s = .next (answered (requestKind req) a { s with nq, interrupters := g }) ∧
      ∀ k, rowAt g k = if k = x then some (.live q) else rowAt s.interrupters k := by
  have hreplaces : replacesInterrupter s (writeInterrupter x q s).interrupters x q := writeInterrupter_replaces herr
  have hsource : urgencySource { s with nq, interrupters := (writeInterrupter x q s).interrupters } = urgencySource s :=
    (urgencySource_congr rfl rfl rfl).trans (urgencySource_rearmed hr hreplaces hst)
  refine ⟨(writeInterrupter x q s).interrupters, ?_, hreplaces⟩
  exact exec_taken (t := { s with nq, interrupters := (writeInterrupter x q s).interrupters }) hi hready (by simp [hd]) hs hk hf hact
    hfollow rfl hsource

/-- A request that rewrites a record and leaves the urgency source. -/
theorem exec_replaced {i : Instr} {req : Request} {a : Answer} (hi : requestOf i = some req) (hready : ready s = true)
    (hd : isDelayed req = false) (hs : inService s = true)
    (hk : [0, 1, 2, 5, 6, 25, 29, 30, 31].contains (requestKind req).toNat = false) (hf : fieldFault req = none)
    (hact : act req (acting req s) = (writeInterrupter x q (acting req s), a)) (hfollow : a.follow ≠ .restart)
    (hr : interrupterAt s x = some r) (hst : q.state = .tripping ↔ r.state = .tripping) (herr : q.err = 0) :
    ∃ g, exec i s = .next (answered (requestKind req) a { s with interrupters := g }) ∧
      ∀ k, rowAt g k = if k = x then some (.live q) else rowAt s.interrupters k :=
  exec_replaced_noted (nq := s.nq) hi hready hd hs hk hf hact hfollow hr hst herr

end

/-! ### SET_ARM and ACK_TRIP (R138, R139) -/

theorem armValue_eq (on : Bool) : ((if on then 1 else 0 : Byte) == 1) = on := by cases on <;> rfl

theorem fieldFault_setArm {b : Byte} (hb : b.toNat < 16) (on : Bool) : fieldFault (.setArm b (if on then 1 else 0)) = none :=
  (firstBad_within (by omega) _).trans (by cases on <;> rfl)

theorem fieldFault_ackTrip {b : Byte} (hb : b.toNat < 16) : fieldFault (.ackTrip b) = none := firstBad_within (by omega) []

section
variable {s : State} {b : Byte} {r : IntRec} (hready : ready s = true) (hservice : inService s = true) (hclean : clean s = true)
  (hb : b.toNat < 16)
include hready hservice hclean hb

/-- SET_ARM writes the record that its arming value makes. -/
theorem exec_setArm (on : Bool) (hr : interrupterAt s b.toNat = some r) :
    ∃ g, exec (.setArm b (if on then 1 else 0)) s = .next (answered 21 (okWith (armingBytes (setArm on r))) { s with interrupters := g }) ∧
      ∀ k, rowAt g k = if k = b.toNat then some (.live (setArm on r)) else rowAt s.interrupters k := by
  have hacting := clean_acting hclean (.setArm b (if on then 1 else 0))
  have hkept : (setArm on r).state = r.state ∧ (setArm on r).err = r.err := by
    unfold setArm
    split <;> exact ⟨rfl, rfl⟩
  refine exec_replaced (req := .setArm b (if on then 1 else 0)) rfl hready rfl hservice rfl (fieldFault_setArm hb on) ?_ (follow_okWith _)
    hr (by rw [hkept.1]) (hkept.2.trans (clean_interrupter hclean hr))
  unfold act
  dsimp only
  rw [armValue_eq, takeSetArm, onInterrupter_live hacting hr]

/-- ACK_TRIP of a trip that is over writes the arming saved. -/
theorem exec_ackTrip (hr : interrupterAt s b.toNat = some r) (hout : r.outstanding = true) (hst : r.state ≠ .tripping) :
    ∃ g, exec (.ackTrip b) s = .next (answered 23 (okWith (armingBytes (ackTrip r))) { s with interrupters := g }) ∧
      ∀ k, rowAt g k = if k = b.toNat then some (.live (ackTrip r)) else rowAt s.interrupters k := by
  have hacting := clean_acting hclean (.ackTrip b)
  have herr : r.err = 0 := clean_interrupter hclean hr
  refine exec_replaced (req := .ackTrip b) rfl hready rfl hservice rfl (fieldFault_ackTrip hb) ?_ (follow_okWith _)
    hr Iff.rfl herr
  unfold act
  dsimp only
  rw [takeAckTrip, onInterrupter_live hacting hr, if_neg (by simp [hout, hst])]

omit hclean in
/-- SET_ARM and ACK_TRIP refused leave the state. -/
theorem exec_setArm_refused (on : Bool) {a : Answer} (ha : a.follow ≠ .restart)
    (h : takeSetArm b.toNat on (acting (.setArm b (if on then 1 else 0)) s) = (acting (.setArm b (if on then 1 else 0)) s, a)) :
    exec (.setArm b (if on then 1 else 0)) s = .next (answered 21 a s) := by
  refine exec_unchanged (r := .setArm b (if on then 1 else 0)) rfl hready rfl hservice rfl (fieldFault_setArm hb on) ?_ ha
  unfold act
  dsimp only
  rw [armValue_eq, h]

omit hclean in
theorem exec_ackTrip_refused {a : Answer} (ha : a.follow ≠ .restart)
    (h : takeAckTrip b.toNat (acting (.ackTrip b) s) = (acting (.ackTrip b) s, a)) : exec (.ackTrip b) s = .next (answered 23 a s) :=
  exec_unchanged (r := .ackTrip b) rfl hready rfl hservice rfl (fieldFault_ackTrip hb) h ha

end

/-- Settles O37: the record read is clean, so the place and the record's marks alone decide. -/
theorem armingAndAcknowledgement : Obligations.ArmingAndAcknowledgement := by
  intro b s hready hservice hclean hb
  have hset := clean_acting hclean
  refine ⟨fun on hfree => ⟨?_, ?_⟩, fun on hlost => ⟨?_, ?_⟩, fun r hrow => ?_⟩
  · exact exec_setArm_refused hready hservice hb on (follow_refuse _) (onInterrupter_free hfree)
  · exact exec_ackTrip_refused hready hservice hb (follow_refuse _) (onInterrupter_free hfree)
  · exact exec_setArm_refused hready hservice hb on (follow_refuse _) (onInterrupter_lost (hset _) hlost)
  · exact exec_ackTrip_refused hready hservice hb (follow_refuse _) (onInterrupter_lost (hset _) hlost)
  · have hr := interrupterAt_row.mpr hrow
    refine ⟨fun on hout => ?_, fun on hout => ?_, fun hrefused => ?_, fun hout hst => ?_⟩
    · have hq : setArm on r = { r with saved := on } := if_pos hout
      have h := exec_setArm hready hservice hclean hb on hr
      rwa [hq] at h
    · have hq : setArm on r = { r with armed := on } := if_neg (by simp [hout])
      have h := exec_setArm hready hservice hclean hb on hr
      rwa [hq] at h
    · refine exec_ackTrip_refused hready hservice hb (follow_refuse _) ?_
      rw [takeAckTrip, onInterrupter_live (hset _) hr, if_pos (by rcases hrefused with h | h <;> simp [h])]
    · exact exec_ackTrip hready hservice hclean hb hr hout hst

end Sys2Proof.Machine
end

section
namespace Sys2Proof.Machine

/-! ### INTERRUPTER_STATE (R130 to R133, R148) -/

section
variable {s t : State} {b position : Byte} {x : Nat} {r q : IntRec}

/-- The tail begins where the urgency source, which held before, no longer holds (R148). -/
def withTail (t : State) : State :=
  { t with nq := { t.nq with tail := if urgencySource t then t.nq.tail else t.params.maintTail } }

theorem settleUrgency_true (t : State) : settleUrgency true t = withTail t := by
  rw [settleUrgency_eq, settledTail, withTail]
  cases urgencySource t <;> rfl

theorem urgencySource_withTail (t : State) : urgencySource (withTail t) = urgencySource t := urgencySource_congr rfl rfl rfl

/-- A TRIPPING interrupter is an urgency source (R148). -/
theorem urgencySource_of_tripping (hs : inService s = true) (hx : x < 16) (hr : interrupterAt s x = some r) (hst : r.state = .tripping) :
    urgencySource s = true := by
  have htripping : isTripping s x = true := by rw [isTripping_of_state hr, hst]; rfl
  have hany : allInterrupters.any (isTripping s) = true := List.any_eq_true.mpr ⟨x, mem_allInterrupters.mpr hx, htripping⟩
  rcases inService_iff.mp hs with hm | hm <;> simp [urgencySource, hm, hany]

theorem fieldFault_interrupterState (hb : b.toNat < 16) (hp : position.toNat ≤ 2) : fieldFault (.interrupterState b position) = none :=
  (firstBad_within (by omega) _).trans (firstBad_within ⟨Nat.zero_le _, hp⟩ [])

theorem okWith_stateAfter (hr : interrupterAt t x = some q) : okWith (stateAfter t x) = okWith (int1 (intStateByte q.state)) := by
  rw [stateAfter, hr]

/-- A waiter's record moved on, the outcome of its newest chain entry changed (R128, R135). -/
def movedTo (st : SegState) (o : ChainOutcome) (g : SegRec) : SegRec :=
  { g with state := st, verdict := g.verdict.map fun v => { v with chain := setNewest o v.chain } }

theorem movedTo_row {st : SegState} {o : ChainOutcome} {tab : Table SegPlace} {n : Nat} {g : SegRec} (hg : segmentAt s n = some g)
    (herr : g.err = 0) (hrow : rowAt tab n = (rowAt s.segments n).map (rewrittenSegment (movedTo st o))) :
    ∃ v, rowAt tab n = some (.live { g with state := st, verdict := v }) ∧ (g.verdict = none → v = none) ∧
      ∀ w init e, g.verdict = some w → w.chain = init ++ [e] → v = some { w with chain := init ++ [{ e with outcome := o }] } := by
  refine ⟨(movedTo st o g).verdict, ?_, fun hnone => by simp [movedTo, hnone], fun w init e hw hchain => ?_⟩
  · rw [hrow, segmentAt_row.mp hg, Option.map_some, rewrittenSegment, ← herr]
    rfl
  · simp [movedTo, hw, hchain, setNewest_append]

/-- A place without a record is left. -/
theorem rewrittenSegment_free {f : SegRec → SegRec} {n : Nat} (hg : segmentAt s n = none) :
    (rowAt s.segments n).map (rewrittenSegment f) = rowAt s.segments n := by
  unfold segmentAt at hg
  rcases hrow : rowAt s.segments n with _ | _ | _
  · rfl
  · rw [hrow] at hg
    cases hg
  · rfl

/-- INTERRUPTER_STATE taken on a TRIPPING interrupter, the tail following the urgency source (R148). -/
theorem exec_reported_tripping (hready : ready s = true) (hs : inService s = true) (hb : b.toNat < 16)
    (hp : position.toNat ≤ 2) (hr : interrupterAt s b.toNat = some r) (hst : r.state = .tripping) {u : State} {a : Answer}
    (hact : takeInterrupterState b.toNat position.toNat (acting (.interrupterState b position) s) =
      ({ u with hl := (acting (.interrupterState b position) s).hl }, a)) (hfollow : a.follow ≠ .restart) (hh : u.hl = s.hl) :
    exec (.interrupterState b position) s = .next (answered 22 a (withTail u)) := by
  rw [exec_of_request (i := .interrupterState b position) rfl, event_settled hready rfl (takenIn_service hs rfl)
    (fieldFault_interrupterState hb hp) hact hfollow hh, urgencySource_of_tripping hs hb hr hst, settleUrgency_true]
  rfl

/-- The state once a position report has opened interrupter x and its waiters, the tail apart (R128, R131). -/
def openReported (s : State) (x waiters : Nat) (tab : Table SegPlace) (itab : Table IntPlace) : State :=
  { s with segments := tab, interrupters := itab, nq := queued s.ft.frame [.interrupterOpened x .report waiters false] s.nq }

end

/-- Settles O39: the record is opened, its waiters moved on one by one, and the tail begins where no other urgency source is left. -/
theorem openReportIsolatesWaiters : Obligations.OpenReportIsolatesWaiters := by
  intro b s r hready hs hclean hb hrow hst hnd hwaiters hroom
  have hr := interrupterAt_row.mpr hrow
  have herr := clean_interrupter hclean hr
  obtain ⟨tab, itab, hopened, hints, hrows⟩ := openInterrupter_rows (source := .report) (frame := s.ft.frame) (x := b.toNat)
    (s := acting (.interrupterState b 0) s) hr herr hnd hroom
  have hafter : interrupterAt (openInterrupter b.toNat .report s.ft.frame (acting (.interrupterState b 0) s)) b.toNat =
      some (openedInterrupter r) := by
    rw [hopened, interrupterAt_row]
    exact (hints b.toNat).trans (if_pos rfl)
  have hact : takeInterrupterState b.toNat (0 : Byte).toNat (acting (.interrupterState b 0) s) =
      ({ openReported s b.toNat r.waiters.length tab itab with hl := (acting (.interrupterState b 0) s).hl }, okWith [0]) := by
    rw [takeInterrupterState, onInterrupter_live (clean_acting hclean _) hr]
    dsimp only
    rw [if_pos (by decide), reportOpen, hst]
    dsimp only
    rw [show (acting (.interrupterState b 0) s).ft = s.ft from rfl, okWith_stateAfter hafter, hopened]
    rfl
  refine ⟨_, exec_reported_tripping hready hs hb (by decide) hr hst hact (follow_okWith _) rfl, ?_, hints, fun n g hn hg => ?_,
    fun n hn => ?_⟩
  · rw [urgencySource_withTail]
    simp [withTail, openReported, queued, numberedFrom]
  · exact movedTo_row hg (clean_segment hclean hg) ((hrows n).trans (if_pos hn))
  · rcases hn with hn | hfree
    · exact (hrows n).trans (if_neg hn)
    · refine (hrows n).trans ?_
      split
      · exact rewrittenSegment_free hfree
      · rfl

end Sys2Proof.Machine
end

section
namespace Sys2Proof.Machine

/-! ### A walk's treatment of each candidate (R122 to R126, R137) -/

section
variable {s : State} {n x b : Nat} {q : IntRec} {cause : TripCause} {rest : List Nat} {escalates : Escalation}

theorem walk_end (n : Nat) (cause : TripCause) (s : State) : walkWith escalates n cause [] s = setSegState n .isolationFailed s := rfl

theorem walk_free (hon : interrupterOn s b = none) : walkWith escalates n cause (b :: rest) s = walkWith escalates n cause rest s := by
  simp only [walkWith, hon]

section
variable (hs : errorFree s) (hon : interrupterOn s b = some x) (hq : interrupterAt s x = some q)
include hs hon hq

theorem walk_tripping (hst : q.state = .tripping) : walkWith escalates n cause (b :: rest) s =
    recordVisit n x .joined (setSegState n .isolating (writeInterrupter x { q with waiters := q.waiters ++ [n] } s)) := by
  simp only [walkWith, hon, readInterrupterWith_noError _ (hs.2 x), hq, hst]

theorem walk_failed (hst : q.state = .failed) :
    walkWith escalates n cause (b :: rest) s = walkWith escalates n cause rest (recordVisit n x .skippedFailed s) := by
  simp only [walkWith, hon, readInterrupterWith_noError _ (hs.2 x), hq, hst]

theorem walk_open (hst : q.state = .opened) :
    walkWith escalates n cause (b :: rest) s = walkWith escalates n cause rest (recordVisit n x .skippedOpen s) := by
  simp only [walkWith, hon, readInterrupterWith_noError _ (hs.2 x), hq, hst]

theorem walk_disarmed (hst : q.state = .unknown ∨ q.state = .closed) (ha : q.armed = false) :
    walkWith escalates n cause (b :: rest) s = walkWith escalates n cause rest (recordVisit n x .skippedDisarmed s) := by
  rcases hst with hst | hst <;>
    simp only [walkWith, hon, readInterrupterWith_noError _ (hs.2 x), hq, hst, ha, Bool.false_eq_true, if_false]

theorem walk_armed (hst : q.state = .unknown ∨ q.state = .closed) (ha : q.armed = true) :
    walkWith escalates n cause (b :: rest) s = startTrip x q n cause s := by
  rcases hst with hst | hst <;>
    simp only [walkWith, hon, readInterrupterWith_noError _ (hs.2 x), hq, hst, ha, if_true]

end

/-- A chain keeps its 16 newest entries (R122). -/
theorem appendEntry_newest (e : ChainEntry) {c : List ChainEntry} (hc : c.length ≤ 16) :
    appendEntry e c = (c ++ [e]).drop (c.length + 1 - 16) := by
  unfold appendEntry
  split
  · rw [show c.length + 1 - 16 = 0 by omega, List.drop_zero]
  · rw [List.drop_append_of_le_length (by omega), show c.length + 1 - 16 = c.length - 15 by omega]

end

/-- Settles O56: the walk's branches on a state whose records hold no inverted bit, and the length of a chain after a visit. -/
theorem walkTreatsCandidates : Obligations.WalkTreatsCandidates := by
  refine ⟨fun n cause b rest s hclean => ?_, fun e c hc => ?_⟩
  · have hs := errorFree_of_clean hclean
    refine ⟨walk_end n cause s, walk_free, fun x r hon hr => ?_⟩
    exact ⟨walk_tripping hs hon hr, walk_failed hs hon hr, walk_open hs hon hr, walk_disarmed hs hon hr, walk_armed hs hon hr⟩
  · refine ⟨appendEntry_newest e hc, ?_, getLast?_appendEntry e c⟩
    rw [appendEntry_newest e hc, List.length_drop, List.length_append, List.length_singleton]
    omega

end Sys2Proof.Machine
end

section
namespace Sys2Proof.Machine

/-! ### Waiters escalate one by one (R135, R136) -/

section
variable {s u : State} {n x b : Nat} {g : SegRec} {q : IntRec} {c : FailReason} {w : Nat → TripCause → List Nat → State → State}

/-- The ESCALATED notice of a segment with that record (R135 step 3). -/
def escalatedBody (x : Nat) (c : FailReason) (n : Nat) (g : SegRec) : NoticeBody :=
  .escalated x c (some n) (some g.state)
    (if g.state = .isolating then (g.verdict.bind fun v => v.chain.getLast?).map (·.id) else none)

theorem noteEscalated_eq (hu : segmentAt u n = some g) (hroom : u.nq.queue.length < 32) :
    noteEscalated x c n u = { u with nq := queued u.ft.frame [escalatedBody x c n g] u.nq } := by
  have hnewest : newestEntry u n = g.verdict.bind fun v => v.chain.getLast? := by
    rw [newestEntry, hu]
    cases hv : g.verdict <;> simp [hv]
  rw [noteEscalated, stateOfSegment, hu, hnewest, ← raiseAt_queued _ _ hroom]
  simp only [escalatedBody, Option.map_some, Option.some.injEq]
  rfl

/-- The segment's newest chain entry marked, before its walk (R135 step 1). -/
def escalationMarked (n : Nat) (s : State) : State := modifyChain n (setNewest .escalatedFrom) s

theorem escalationMarked_replaces (hg : segmentAt s n = some g) (herr : g.err = 0) :
    replacesSegment s (escalationMarked n s).segments n (movedTo g.state .escalatedFrom g) := modifySegment_replaces hg herr

theorem escalationMarked_eq : escalationMarked n s = { s with segments := (escalationMarked n s).segments } := modifySegment_eq n _ _

theorem candidateBoundaries_replaced {g' : SegRec} (hg : segmentAt s n = some g) (h : replacesSegment s u.segments n g') (hup : g'.up = g.up)
    (hdown : g'.down = g.down) (m : Nat) : candidateBoundaries u m = candidateBoundaries s m := by
  refine candidateBoundaries_congr (fun j => ?_) m
  by_cases hj : j = n
  · subst hj
    rw [segmentAt_replaced h, hg, Option.map_some, Option.map_some, hup, hdown]
  · rw [segmentAt, segmentAt, h j, if_neg hj]

/-- One waiter escalates: marked, walked or WITHHELD, noted (R135). -/
theorem escalateOne_eq (hs : errorFree s) (hg : segmentAt s n = some g) : escalateOne w x c b n s =
    noteIsolationFailed n (noteEscalated x c n (if tripsAllowed s then
      w n .escalation (boundariesAfter b (candidateBoundaries s n)) (escalationMarked n s)
      else setSegState n .withheld (escalationMarked n s))) := by
  have hallowed : tripsAllowed (escalationMarked n s) = tripsAllowed s := by rw [escalationMarked_eq]; rfl
  have hpath : candidateBoundaries (escalationMarked n s) n = candidateBoundaries s n :=
    candidateBoundaries_replaced hg (escalationMarked_replaces hg (hs.1.2 n g hg)) rfl rfl n
  unfold escalateOne
  rw [readSegments_readsClean hs.1]
  dsimp only
  rw [hg]
  dsimp only
  rw [← escalationMarked, hallowed, hpath]

/-- The notice of a segment whose walk did not fail. -/
theorem noted_escalated (hu : segmentAt u n = some g) (hst : g.state ≠ .isolationFailed) (hroom : u.nq.queue.length < 32) :
    noteIsolationFailed n (noteEscalated x c n u) = { u with nq := queued u.ft.frame [escalatedBody x c n g] u.nq } := by
  rw [noteEscalated_eq hu hroom]
  exact noteIsolationFailed_other (s := { u with nq := queued u.ft.frame [escalatedBody x c n g] u.nq }) hu hst

/-- With no trip allowed the waiter is WITHHELD (R123, R135). -/
theorem escalateOne_withheld (hs : errorFree s) (hg : segmentAt s n = some g) (hallowed : tripsAllowed s = false)
    (hroom : s.nq.queue.length < 32) : ∃ tab, replacesSegment s tab n (movedTo .withheld .escalatedFrom g) ∧
      escalateOne w x c b n s = { s with
        segments := tab, nq := queued s.ft.frame [.escalated x c (some n) (some .withheld) none] s.nq } := by
  have herr := hs.1.2 n g hg
  have hmarked := escalationMarked_replaces hg herr
  have hset : replacesSegment (escalationMarked n s) (setSegState n .withheld (escalationMarked n s)).segments n
      (movedTo .withheld .escalatedFrom g) := modifySegment_replaces (segmentAt_replaced hmarked) herr
  have hrest : setSegState n .withheld (escalationMarked n s) =
      { s with segments := (setSegState n .withheld (escalationMarked n s)).segments } := by
    have h : setSegState n .withheld (escalationMarked n s) =
        { escalationMarked n s with segments := (setSegState n .withheld (escalationMarked n s)).segments } := modifySegment_eq n _ _
    rw [h, escalationMarked_eq]
  refine ⟨_, replacesSegment_trans hmarked hset, ?_⟩
  rw [escalateOne_eq hs hg, hallowed, if_neg Bool.false_ne_true, noted_escalated (segmentAt_replaced hset) (by simp [movedTo])]
  · rw [hrest]
    rfl
  · rw [hrest]
    exact hroom

/-- The waiters' segments moved on, every other place left. -/
def rowsMoved (s : State) (tab : Table SegPlace) (st : SegState) (ws : List Nat) : Prop :=
  ∀ m, rowAt tab m = if m ∈ ws then (rowAt s.segments m).map (rewrittenSegment (movedTo st .escalatedFrom)) else rowAt s.segments m

/-- With no trip allowed each waiter is WITHHELD, one ESCALATED notice each (R135). -/
theorem escalates_withheld {ws : List Nat} (hs : errorFree s) (hallowed : tripsAllowed s = false) (hnd : ws.Nodup)
    (hws : ∀ n ∈ ws, (segmentAt s n).isSome = true) (hroom : s.nq.queue.length + ws.length ≤ 32) :
    ∃ tab, rowsMoved s tab .withheld ws ∧ forEach ws (escalateOne w x c b) s = { s with
      segments := tab, nq := queued s.ft.frame (ws.map fun n => .escalated x c (some n) (some .withheld) none) s.nq } := by
  induction ws generalizing s with
  | nil => exact ⟨s.segments, fun m => by simp, by rw [List.map_nil, queued_nil]; rfl⟩
  | cons n ws ih =>
    obtain ⟨hn, hnd⟩ := List.nodup_cons.mp hnd
    obtain ⟨g, hg⟩ := Option.isSome_iff_exists.mp (hws n (by simp))
    rw [List.length_cons] at hroom
    obtain ⟨tab, hrows, hone⟩ := escalateOne_withheld (w := w) (x := x) (c := c) (b := b) hs hg hallowed (by omega)
    obtain ⟨tab', hrows', hothers⟩ := ih (s := { s with
      segments := tab, nq := queued s.ft.frame [.escalated x c (some n) (some .withheld) none] s.nq })
      (errorFree_replaced hs hrows (hs.1.2 n g hg)) hallowed hnd
      (fun m hm => by
        have hmn : m ≠ n := fun h => hn (h ▸ hm)
        have hsame : segmentAt { s with segments := tab } m = segmentAt s m := by rw [segmentAt, segmentAt, hrows m, if_neg hmn]
        exact (congrArg Option.isSome hsame).trans (hws m (by simp [hm])))
      (by rw [queued_length, List.length_singleton]; omega)
    refine ⟨tab', fun m => ?_, ?_⟩
    · rw [hrows' m, hrows m]
      by_cases hm : m = n
      · subst hm
        have hmoved : (rowAt s.segments m).map (rewrittenSegment (movedTo .withheld .escalatedFrom)) =
            some (.live (movedTo .withheld .escalatedFrom g)) := by
          rw [segmentAt_row.mp hg, Option.map_some, rewrittenSegment, ← hs.1.2 m g hg]
          rfl
        simp [hn, hmoved]
      · simp [hm]
    · rw [forEach_cons, hone, hothers]
      dsimp only
      rw [queued_append]
      rfl

/-! #### A TRIPPING interrupter fails (R135) -/

/-- Its record (R135). -/
def failedRecord (c : FailReason) (q : IntRec) : IntRec := { q with state := .failed, reason := some c, confirm := none, waiters := [] }

theorem failTripping_eq (hq : interrupterAt s x = some q) : failTripping x c s =
    escalate x c q.boundary q.waiters (writeInterrupter x (failedRecord c q) s) := by
  rw [failTripping, hq]
  rfl

theorem escalate_none (x : Nat) (c : FailReason) (b : Nat) (s : State) : escalate x c b [] s = raiseNow (.escalated x c none none none) s := rfl

theorem escalate_waiters {ws : List Nat} (h : ws ≠ []) (x : Nat) (c : FailReason) (b : Nat) (s : State) :
    escalate x c b ws s = forEach ws (escalateOne (walkWith (escalateWith 16)) x c b) s := by
  rw [escalate, escalateWith]
  exact if_neg (by simpa using h)

/-- With no waiter one ESCALATED notice is raised (R135). -/
theorem failTripping_alone (hq : interrupterAt s x = some q) (hw : q.waiters = []) (hroom : s.nq.queue.length < 32) :
    failTripping x c s = { s with
      interrupters := (writeInterrupter x (failedRecord c q) s).interrupters
      nq := queued s.ft.frame [.escalated x c none none none] s.nq } := by
  rw [failTripping_eq hq, hw, escalate_none]
  exact raiseAt_queued _ _ hroom

theorem errorFree_failed (hs : errorFree s) : errorFree (writeInterrupter x (failedRecord c q) s) :=
  errorFree_of hs rfl (fun _ _ h => .inl h) fun y p hp => by
    rw [interrupterAt_writeInterrupter] at hp
    split at hp
    · cases hp
      exact .inr rfl
    · exact .inl hp

/-- With no trip allowed its waiters are WITHHELD (R135). -/
theorem failTripping_withheld (hs : errorFree s) (hq : interrupterAt s x = some q) (hallowed : tripsAllowed s = false)
    (hw : q.waiters ≠ []) (hnd : q.waiters.Nodup) (hws : ∀ n ∈ q.waiters, (segmentAt s n).isSome = true)
    (hroom : s.nq.queue.length + q.waiters.length ≤ 32) : ∃ tab, rowsMoved s tab .withheld q.waiters ∧ failTripping x c s = { s with
      segments := tab, interrupters := (writeInterrupter x (failedRecord c q) s).interrupters
      nq := queued s.ft.frame (q.waiters.map fun n => .escalated x c (some n) (some .withheld) none) s.nq } := by
  obtain ⟨tab, hrows, hescalated⟩ := escalates_withheld (w := walkWith (escalateWith 16)) (x := x) (c := c) (b := q.boundary)
    (errorFree_failed (x := x) (c := c) (q := q) hs) hallowed hnd hws hroom
  exact ⟨tab, hrows, by rw [failTripping_eq hq, escalate_waiters hw, hescalated]; rfl⟩

end
end Sys2Proof.Machine
end

section
namespace Sys2Proof.Machine

/-! ### INTERRUPTER_STATE in each state (R130 to R133) -/

section
variable {s : State} {b position : Byte} {x p : Nat} {r q : IntRec} (hc : clean s = true) (hr : interrupterAt s x = some r)
include hc hr

theorem takeInterrupterState_open :
    takeInterrupterState x 0 s = (reportOpen x r s, okWith (stateAfter (reportOpen x r s) x)) := by
  rw [takeInterrupterState, onInterrupter_live hc hr]
  rfl

theorem takeInterrupterState_closed (hst : r.state ≠ .tripping) :
    takeInterrupterState x 1 s = (reportClosed x r s, okWith (stateAfter (reportClosed x r s) x)) := by
  rw [takeInterrupterState, onInterrupter_live hc hr]
  simp [hst]

theorem takeInterrupterState_misplaced (hst : r.state = .tripping) :
    takeInterrupterState x 1 s = (s, answer .okWarning [2, 4]) := by
  have hafter : stateAfter s x = [4] := by
    rw [stateAfter, hr]
    dsimp only
    rw [hst]
    rfl
  rw [takeInterrupterState, onInterrupter_live hc hr]
  simp [hst, hafter, int1]

theorem takeInterrupterState_failed :
    takeInterrupterState x 2 s = (reportFailed x r s, okWith (stateAfter (reportFailed x r s) x)) := by
  rw [takeInterrupterState, onInterrupter_live hc hr]
  simp

end

/-- The state byte answered once interrupter x has the record q. -/
theorem stateAfter_written {t : State} {x : Nat} {q : IntRec} (ht : interrupterAt t x = some { q with err := 0 }) :
    okWith (stateAfter t x) = okWith (int1 (intStateByte q.state)) :=
  okWith_stateAfter (q := { q with err := 0 }) ht

theorem interrupterAt_written {s : State} {x : Nat} {q : IntRec} :
    interrupterAt (writeInterrupter x q s) x = some { q with err := 0 } := by
  rw [interrupterAt_writeInterrupter, if_pos rfl]

/-- A position report that leaves the state. -/
theorem exec_position_unchanged {s : State} {b position : Byte} {a : Answer} (hready : ready s = true) (hs : inService s = true)
    (hb : b.toNat < 16) (hp : position.toNat ≤ 2) (ha : a.follow ≠ .restart)
    (hact : takeInterrupterState b.toNat position.toNat (acting (.interrupterState b position) s) =
      (acting (.interrupterState b position) s, a)) : exec (.interrupterState b position) s = .next (answered 22 a s) :=
  exec_unchanged (r := .interrupterState b position) rfl hready rfl hs rfl (fieldFault_interrupterState hb hp) hact ha

section
variable {s : State} {b : Byte} {r : IntRec} (hready : ready s = true) (hs : inService s = true) (hclean : clean s = true)
  (hb : b.toNat < 16)
include hready hs hclean hb

/-- A position report that writes the record alone. -/
theorem exec_positioned {position : Byte} {q : IntRec} (hp : position.toNat ≤ 2) (hr : interrupterAt s b.toNat = some r)
    (hact : ∀ v, clean v = true → interrupterAt v b.toNat = some r → takeInterrupterState b.toNat position.toNat v =
      (writeInterrupter b.toNat q v, okWith (stateAfter (writeInterrupter b.toNat q v) b.toNat)))
    (hst : q.state ≠ .tripping) (hold : r.state ≠ .tripping) (herr : q.err = r.err) :
    ∃ g, exec (.interrupterState b position) s = .next (answered 22 (okWith (int1 (intStateByte q.state))) { s with interrupters := g }) ∧
      ∀ k, rowAt g k = if k = b.toNat then some (.live q) else rowAt s.interrupters k := by
  refine exec_replaced (req := .interrupterState b position) rfl hready rfl hs rfl (fieldFault_interrupterState hb hp) ?_ (follow_okWith _)
    hr (iff_of_false hst hold) (herr.trans (clean_interrupter hclean hr))
  exact (hact _ (clean_acting hclean _) hr).trans (by rw [stateAfter_written interrupterAt_written])

/-- A position report OPEN on an interrupter that is not TRIPPING, with its notice. -/
theorem exec_opened {late : Bool} (hr : interrupterAt s b.toNat = some r) (hroom : s.nq.queue.length < 32)
    (hold : r.state ≠ .tripping)
    (hact : ∀ v, reportOpen b.toNat r v = raiseNow (.interrupterOpened b.toNat .report 0 late) (writeInterrupter b.toNat (atPosition .opened r) v)) :
    ∃ g, exec (.interrupterState b 0) s = .next (answered 22 (okWith (int1 (intStateByte (atPosition .opened r).state))) { s with
        nq := { s.nq with
          queue := s.nq.queue ++ [⟨s.nq.seq, s.ft.frame, .interrupterOpened b.toNat .report 0 late⟩], seq := s.nq.seq + 1 }
        interrupters := g }) ∧
      ∀ k, rowAt g k = if k = b.toNat then some (.live (atPosition .opened r)) else rowAt s.interrupters k := by
  have herr : (atPosition .opened r).err = 0 := clean_interrupter (r := r) hclean hr
  refine exec_replaced_noted (req := .interrupterState b 0) rfl hready rfl hs rfl (fieldFault_interrupterState hb (by decide)) ?_
    (follow_okWith _) hr (iff_of_false (by simp [atPosition]) hold) herr
  refine (takeInterrupterState_open (clean_acting hclean _) hr).trans ?_
  have hraised : reportOpen b.toNat r (acting (.interrupterState b 0) s) =
      { writeInterrupter b.toNat (atPosition .opened r) (acting (.interrupterState b 0) s) with nq := { s.nq with
        queue := s.nq.queue ++ [⟨s.nq.seq, s.ft.frame, .interrupterOpened b.toNat .report 0 late⟩], seq := s.nq.seq + 1 } } := by
    rw [hact]
    exact raiseAt_free _ _ _ hroom
  rw [hraised, stateAfter_written (q := atPosition .opened r)]
  exact interrupterAt_written

/-- FAILED on a TRIPPING interrupter: the notices of its escalation, the tail where no urgency source is left (R133, R135, R148). -/
theorem exec_failed_tripping {bodies : List NoticeBody} {tab : Table SegPlace} (hr : interrupterAt s b.toNat = some r)
    (hst : r.state = .tripping)
    (hfails : failTripping b.toNat .reported (acting (.interrupterState b 2) s) = { acting (.interrupterState b 2) s with
      segments := tab, interrupters := (writeInterrupter b.toNat (failedRecord .reported r) s).interrupters
      nq := queued s.ft.frame bodies s.nq }) :
    ∃ t, (exec (.interrupterState b 2) s = .next (answered 22 (okWith (int1 (intStateByte .failed))) t) ∧
      t = { s with
        interrupters := t.interrupters, segments := t.segments
        nq := { s.nq with
          queue := s.nq.queue ++ bodies.mapIdx fun i x => ⟨s.nq.seq + BitVec.ofNat 16 i, s.ft.frame, x⟩
          seq := s.nq.seq + BitVec.ofNat 16 bodies.length
          tail := if urgencySource t then s.nq.tail else s.params.maintTail } } ∧
      ∀ k, rowAt t.interrupters k = if k = b.toNat then some (.live (failedRecord .reported r)) else rowAt s.interrupters k) ∧
      t.segments = tab := by
  have hact : takeInterrupterState b.toNat (2 : Byte).toNat (acting (.interrupterState b 2) s) = ({ ({ s with
      segments := tab, interrupters := (writeInterrupter b.toNat (failedRecord .reported r) s).interrupters
      nq := queued s.ft.frame bodies s.nq } : State) with hl := (acting (.interrupterState b 2) s).hl },
      okWith (int1 (intStateByte .failed))) := by
    refine (takeInterrupterState_failed (clean_acting hclean _) hr).trans ?_
    have hreported : reportFailed b.toNat r (acting (.interrupterState b 2) s) = failTripping b.toNat .reported (acting (.interrupterState b 2) s) := by
      rw [reportFailed, hst]
    rw [hreported, hfails, stateAfter_written (q := failedRecord .reported r)]
    · rfl
    · exact interrupterAt_written
  refine ⟨_, ⟨exec_reported_tripping hready hs hb (by decide) hr hst hact (follow_okWith _) rfl, ?_, ?_⟩, rfl⟩
  · rw [urgencySource_withTail]
    rfl
  · exact writeInterrupter_replaces (q := failedRecord .reported r) (clean_interrupter (r := r) hclean hr)

end

/-- Settles O38: the table of positions, one case of the record's state after the other; the escalation is that of R135 with no trip
allowed. -/
theorem positionReportsAreApplied : Obligations.PositionReportsAreApplied := by
  refine ⟨fun b position s hready hs hclean hb hp => ⟨fun hfree => ?_, fun hlost => ?_⟩, fun b s r hready hs hclean hb hrow => ?_⟩
  · exact exec_position_unchanged hready hs hb hp (follow_refuse _) (onInterrupter_free (s := acting _ s) hfree)
  · exact exec_position_unchanged hready hs hb hp (follow_refuse _) (onInterrupter_lost (s := acting _ s) (clean_acting hclean _) hlost)
  have hr := interrupterAt_row.mpr hrow
  refine ⟨fun hst hroom => ?_, fun hst hroom => ?_, fun hst => ?_, fun hst => ?_, fun hst => ?_, fun hst => ?_, fun hst => ?_, fun hst => ?_⟩
  · refine exec_opened hready hs hclean hb hr hroom (by simp [hst]) fun v => ?_
    rw [reportOpen, hst]
  · rcases hst with hst | hst <;> refine exec_opened hready hs hclean hb hr hroom (by simp [hst]) fun v => ?_ <;> rw [reportOpen, hst]
  · have hsame : reportOpen b.toNat r (acting (.interrupterState b 0) s) = acting (.interrupterState b 0) s := by rw [reportOpen, hst]
    refine exec_position_unchanged hready hs hb (by decide) (follow_okWith _)
      ((takeInterrupterState_open (clean_acting hclean _) hr).trans ?_)
    rw [hsame, okWith_stateAfter (t := acting _ s) (q := r) hr, hst]
    rfl
  · have hst' : r.state ≠ .tripping := by rcases hst with h | h | h <;> simp [h]
    refine exec_positioned (q := atPosition .closed r) hready hs hclean hb (by decide) hr (fun v hv hvr => ?_) (by simp [atPosition]) hst' rfl
    have hwritten : reportClosed b.toNat r v = writeInterrupter b.toNat (atPosition .closed r) v := by
      rcases hst with h | h | h <;> rw [reportClosed, h]
    rw [← hwritten]
    exact takeInterrupterState_closed hv hvr hst'
  · have hsame : reportClosed b.toNat r (acting (.interrupterState b 1) s) = acting (.interrupterState b 1) s := by rw [reportClosed, hst]
    refine exec_position_unchanged hready hs hb (by decide) (follow_okWith _)
      ((takeInterrupterState_closed (clean_acting hclean _) hr (by simp [hst])).trans ?_)
    rw [hsame, okWith_stateAfter (t := acting _ s) (q := r) hr, hst]
    rfl
  · exact exec_position_unchanged hready hs hb (by decide) (by simp [answer]) (takeInterrupterState_misplaced (clean_acting hclean _) hr hst)
  · refine exec_positioned (q := { r with state := .failed, reason := some .reported }) hready hs hclean hb (by decide) hr
      (fun v hv hvr => ?_) (by simp) hst rfl
    have hwritten : reportFailed b.toNat r v = writeInterrupter b.toNat { r with state := .failed, reason := some .reported } v := by
      unfold reportFailed
      split
      · exact absurd ‹_› hst
      all_goals rfl
    rw [← hwritten]
    exact takeInterrupterState_failed hv hvr
  · have hfree := errorFree_of_clean (clean_acting hclean (.interrupterState b 2))
    refine ⟨fun hnone hroom => ?_, fun hne hdisallowed hnd hroom hwaiters => ?_⟩
    · obtain ⟨t, hescalated, hseg⟩ := exec_failed_tripping hready hs hclean hb hr hst
        (failTripping_alone (s := acting (.interrupterState b 2) s) hr hnone hroom)
      exact ⟨t, hescalated, fun k => by rw [hseg]; rfl⟩
    · have hallowed : tripsAllowed (acting (.interrupterState b 2) s) = false := by
        rw [← Bool.not_eq_true, tripsAllowed_iff]
        rintro ⟨hrun, hclear⟩
        rcases hdisallowed with hmode | hinhibited
        · exact hmode hrun
        · exact absurd (hinhibited.symm.trans hclear) (by decide)
      obtain ⟨tab, hrows, hfails⟩ := failTripping_withheld (c := .reported) hfree hr hallowed hne hnd
        (fun n hn => (hwaiters n hn).2) hroom
      obtain ⟨t, hescalated, hseg⟩ := exec_failed_tripping hready hs hclean hb hr hst hfails
      subst hseg
      exact ⟨t, hescalated, fun n q hn hq => movedTo_row hq (clean_segment hclean hq) ((hrows n).trans (if_pos hn)),
        fun n hn => (hrows n).trans (if_neg hn)⟩

end Sys2Proof.Machine
end

section
namespace Sys2Proof.Machine

/-! ### A waiter's walk to the parent's boundary (R124, R126, R136, R137) -/

section
variable {s u : State} {n x y b pb : Nat} {g : SegRec} {v : Verdict} {p : IntRec} {c : FailReason} {w : Escalation}
  {init : List ChainEntry} {e : ChainEntry}

/-- A waiter's record and its newest chain entry. -/
structure Waiter (s : State) (n : Nat) (g : SegRec) (v : Verdict) (init : List ChainEntry) (e : ChainEntry) : Prop where
  record : segmentAt s n = some g
  verdict : g.verdict = some v
  chain : v.chain = init ++ [e]

/-- The chain with its newest entry ESCALATED_FROM (R135). -/
def markedChain (init : List ChainEntry) (e : ChainEntry) : List ChainEntry := init ++ [{ e with outcome := .escalatedFrom }]

/-- The record in that state with that chain. -/
def chainedRecord (g : SegRec) (v : Verdict) (st : SegState) (chain : List ChainEntry) : SegRec :=
  { g with state := st, verdict := some { v with chain } }

theorem movedTo_escalated (h : Waiter s n g v init e) (st : SegState) :
    movedTo st .escalatedFrom g = chainedRecord g v st (markedChain init e) := by
  simp [movedTo, chainedRecord, h.verdict, h.chain, setNewest_append, markedChain]

/-- The state with the waiter's newest chain entry marked. -/
theorem Waiter.marked (h : Waiter s n g v init e) (hs : errorFree s) : ∃ tab,
    replacesSegment s tab n (chainedRecord g v g.state (markedChain init e)) ∧ escalationMarked n s = { s with segments := tab } ∧
      errorFree { s with segments := tab } := by
  have hrows := escalationMarked_replaces h.record (hs.1.2 n g h.record)
  exact ⟨_, by rw [← movedTo_escalated h]; exact hrows, escalationMarked_eq, errorFree_replaced hs hrows (hs.1.2 n g h.record)⟩

theorem markedChain_length (init : List ChainEntry) (e : ChainEntry) : (markedChain init e).length = init.length + 1 := by
  simp [markedChain]

theorem setSegState_chained {st : SegState} {chain : List ChainEntry} (hu : segmentAt u n = some (chainedRecord g v st chain))
    (herr : g.err = 0) (st' : SegState) : replacesSegment u (setSegState n st' u).segments n (chainedRecord g v st' chain) :=
  modifySegment_replaces hu herr

/-- The notice of a segment that ended in ISOLATION_FAILED (R137). -/
theorem noteIsolationFailed_chained {chain : List ChainEntry} (hu : segmentAt u n = some (chainedRecord g v .isolationFailed chain))
    (hroom : u.nq.queue.length < 32) : noteIsolationFailed n u =
      { u with nq := queued u.ft.frame [.isolationFailed n v.verdictClass chain.length] u.nq } := by
  rw [noteIsolationFailed, hu, ← raiseAt_queued _ _ hroom]
  rfl

/-- A visit that leaves the segment ISOLATING, a free place in its chain (R122). -/
theorem recordVisit_chained {st : SegState} {chain : List ChainEntry} {o : ChainOutcome}
    (hu : segmentAt u n = some (chainedRecord g v st chain)) (herr : g.err = 0) (hlen : chain.length < 16) :
    ∃ tab, replacesSegment u tab n (chainedRecord g v .isolating (chain ++ [⟨y, o⟩])) ∧
      recordVisit n y o (setSegState n .isolating u) = { u with segments := tab } := by
  have hset : replacesSegment u (setSegState n .isolating u).segments n (chainedRecord g v .isolating chain) :=
    setSegState_chained hu herr .isolating
  have happend : appendEntry ⟨y, o⟩ chain = chain ++ [⟨y, o⟩] := by rw [appendEntry, if_pos hlen]
  have hvisit : replacesSegment (setSegState n .isolating u) (recordVisit n y o (setSegState n .isolating u)).segments n
      (chainedRecord g v .isolating (chain ++ [⟨y, o⟩])) := by
    rw [← happend]
    exact modifySegment_replaces (segmentAt_replaced hset) herr
  have hrest : setSegState n .isolating u = { u with segments := (setSegState n .isolating u).segments } := modifySegment_eq n _ _
  have hrest' : recordVisit n y o (setSegState n .isolating u) =
      { setSegState n .isolating u with segments := (recordVisit n y o (setSegState n .isolating u)).segments } := modifySegment_eq n _ _
  exact ⟨_, replacesSegment_trans hset hvisit, by rw [hrest', hrest]⟩

/-- The ESCALATED notice of a waiter that its walk left ISOLATING on interrupter y. -/
theorem escalatedBody_isolating (chain : List ChainEntry) (o : ChainOutcome) :
    escalatedBody x c n (chainedRecord g v .isolating (chain ++ [⟨y, o⟩])) = .escalated x c (some n) (some .isolating) (some y) := by
  simp [escalatedBody, chainedRecord]

/-- The walk of one waiter from the failed boundary on, trips being allowed. -/
theorem escalateOne_walked {path : List Nat} (h : Waiter s n g v init e) (hs : errorFree s) (hallowed : tripsAllowed s = true)
    (hpath : boundariesAfter b (candidateBoundaries s n) = path) : escalateOne (walkWith w) x c b n s =
      noteIsolationFailed n (noteEscalated x c n (walkWith w n .escalation path (escalationMarked n s))) := by
  rw [escalateOne_eq hs h.record, hallowed, hpath]
  rfl

section
variable {above : List Nat} (h : Waiter s n g v init e) (hs : errorFree s) (hallowed : tripsAllowed s = true)
include h hs hallowed

/-- Past the last boundary the waiter goes ISOLATION_FAILED (R136, R137). -/
theorem escalateOne_fails (hpath : boundariesAfter b (candidateBoundaries s n) = []) (hroom : s.nq.queue.length + 2 ≤ 32) : ∃ tab,
    replacesSegment s tab n (chainedRecord g v .isolationFailed (markedChain init e)) ∧
      escalateOne (walkWith w) x c b n s = { s with
        segments := tab
        nq := queued s.ft.frame [.escalated x c (some n) (some .isolationFailed) none,
          .isolationFailed n v.verdictClass (markedChain init e).length] s.nq } := by
  obtain ⟨mtab, hmarked, heq, -⟩ := h.marked hs
  have hset := setSegState_chained (u := { s with segments := mtab }) (segmentAt_replaced (t := { s with segments := mtab }) hmarked)
    (hs.1.2 n g h.record) .isolationFailed
  have hrest : setSegState n .isolationFailed { s with segments := mtab } =
      { s with segments := (setSegState n .isolationFailed { s with segments := mtab }).segments } := modifySegment_eq n _ _
  refine ⟨_, replacesSegment_trans (t := { s with segments := mtab }) hmarked hset, ?_⟩
  have hat := segmentAt_replaced hset
  rw [escalateOne_walked h hs hallowed hpath, heq, walk_end]
  generalize setSegState n .isolationFailed { s with segments := mtab } = u at hrest hat ⊢
  have hqueue : u.nq.queue.length = s.nq.queue.length := by rw [hrest]
  rw [noteEscalated_eq hat (by omega), noteIsolationFailed_chained (g := g) (v := v) (chain := markedChain init e)]
  · rw [hrest]
    dsimp only
    rw [queued_append]
    rfl
  · exact hat
  · rw [queued_length, List.length_singleton]
    omega

section
variable {p : IntRec} (hpath : boundariesAfter b (candidateBoundaries s n) = pb :: above) (hon : interrupterOn s pb = some y)
  (hp : interrupterAt s y = some p) (hlen : init.length < 15)
include hpath hon hp hlen

/-- The first waiter trips the armed REMOTE interrupter above (R126, R136). -/
theorem escalateOne_trips (hkind : p.kind = .remote) (harmed : p.armed = true) (hstate : p.state = .unknown ∨ p.state = .closed)
    (hroom : s.nq.queue.length + 2 ≤ 32) : ∃ tab,
      replacesSegment s tab n (chainedRecord g v .isolating (markedChain init e ++ [⟨y, .tripped⟩])) ∧
      escalateOne (walkWith w) x c b n s = { s with
        segments := tab, interrupters := (writeInterrupter y (tripped n s p) s).interrupters
        nq := queued s.ft.frame [.tripStarted y .remote p.boundary p.confirmTime n .escalation,
          .escalated x c (some n) (some .isolating) (some y)] s.nq } := by
  obtain ⟨mtab, hmarked, heq, hfree⟩ := h.marked hs
  have hwalk := walk_armed (s := { s with segments := mtab }) (n := n) (cause := .escalation) (rest := above) (escalates := w) hfree hon hp
    hstate harmed
  obtain ⟨tab, hvisit, hvisited⟩ := recordVisit_chained (u := writeInterrupter y (tripped n s p) { s with segments := mtab }) (y := y)
    (o := .tripped) (segmentAt_replaced (t := { s with segments := mtab }) hmarked) (hs.1.2 n g h.record)
    (by rw [markedChain_length]; omega)
  have hrows : replacesSegment s tab n (chainedRecord g v .isolating (markedChain init e ++ [⟨y, .tripped⟩])) :=
    replacesSegment_trans (t := { s with segments := mtab }) hmarked hvisit
  have hstarted : startTrip y p n .escalation { s with segments := mtab } = { s with
      segments := tab, interrupters := (writeInterrupter y (tripped n s p) s).interrupters
      nq := queued s.ft.frame [.tripStarted y .remote p.boundary p.confirmTime n .escalation] s.nq } := by
    unfold startTrip
    rw [show tripped n { s with segments := mtab } p = tripped n s p from rfl, hvisited, hkind]
    exact raiseAt_queued _ _ (show s.nq.queue.length < 32 by omega)
  refine ⟨tab, hrows, ?_⟩
  rw [escalateOne_walked h hs hallowed hpath, heq, hwalk, hstarted,
    noted_escalated (g := chainedRecord g v .isolating (markedChain init e ++ [⟨y, .tripped⟩]))
      (segmentAt_replaced hrows) (by simp [chainedRecord]),
    escalatedBody_isolating]
  · dsimp only
    rw [queued_append]
    rfl
  · rw [queued_length, List.length_singleton]
    omega

/-- A later waiter joins it (R124, R136). -/
theorem escalateOne_joins (hstate : p.state = .tripping) (hroom : s.nq.queue.length < 32) : ∃ tab,
      replacesSegment s tab n (chainedRecord g v .isolating (markedChain init e ++ [⟨y, .joined⟩])) ∧
      escalateOne (walkWith w) x c b n s = { s with
        segments := tab, interrupters := (writeInterrupter y { p with waiters := p.waiters ++ [n] } s).interrupters
        nq := queued s.ft.frame [.escalated x c (some n) (some .isolating) (some y)] s.nq } := by
  obtain ⟨mtab, hmarked, heq, hfree⟩ := h.marked hs
  have hwalk := walk_tripping (s := { s with segments := mtab }) (n := n) (cause := .escalation) (rest := above) (escalates := w) hfree hon hp
    hstate
  obtain ⟨tab, hvisit, hvisited⟩ := recordVisit_chained
    (u := writeInterrupter y { p with waiters := p.waiters ++ [n] } { s with segments := mtab }) (y := y) (o := .joined)
    (segmentAt_replaced (t := { s with segments := mtab }) hmarked) (hs.1.2 n g h.record)
    (by rw [markedChain_length]; omega)
  have hrows : replacesSegment s tab n (chainedRecord g v .isolating (markedChain init e ++ [⟨y, .joined⟩])) :=
    replacesSegment_trans (t := { s with segments := mtab }) hmarked hvisit
  refine ⟨tab, hrows, ?_⟩
  rw [escalateOne_walked h hs hallowed hpath, heq, hwalk, hvisited,
    noted_escalated (g := chainedRecord g v .isolating (markedChain init e ++ [⟨y, .joined⟩]))
      (segmentAt_replaced hrows) (by simp [chainedRecord]),
    escalatedBody_isolating]
  · rfl
  · exact hroom

end
end
end
end Sys2Proof.Machine
end

section
namespace Sys2Proof.Machine

/-! ### Several waiters escalate in the order they joined (R135, R136) -/

/-- The waiters that are to escalate from boundary b to the interrupter y at boundary pb, with their records; trips are allowed. -/
structure Escalating (s : State) (b pb y : Nat) (ws : List Nat) (rec : Nat → SegRec) (v : Nat → Verdict)
    (init : Nat → List ChainEntry) (e : Nat → ChainEntry) (p : IntRec) : Prop where
  clean : errorFree s
  allowed : tripsAllowed s = true
  found : interrupterOn s pb = some y
  above : interrupterAt s y = some p
  waiter : ∀ n ∈ ws, Waiter s n (rec n) (v n) (init n) (e n)
  short : ∀ n ∈ ws, (init n).length < 15
  path : ∀ n ∈ ws, ∃ rest, boundariesAfter b (candidateBoundaries s n) = pb :: rest

section
variable {s : State} {n x y b pb : Nat} {c : FailReason} {w : Escalation} {ws : List Nat} {rec : Nat → SegRec} {v : Nat → Verdict}
  {init : Nat → List ChainEntry} {e : Nat → ChainEntry} {p p' : IntRec}

/-- The record of waiter n once its walk has ended on interrupter y. -/
def isolatedOn (y : Nat) (o : ChainOutcome) (rec : Nat → SegRec) (v : Nat → Verdict) (init : Nat → List ChainEntry)
    (e : Nat → ChainEntry) (n : Nat) : SegRec :=
  chainedRecord (rec n) (v n) .isolating (markedChain (init n) (e n) ++ [⟨y, o⟩])

theorem errorFree_rewritten {t : State} {g : SegRec} (hs : errorFree s) (hsensors : t.sensors = s.sensors)
    (hrows : replacesSegment s t.segments n g) (hg : g.err = 0) (hints : replacesInterrupter s t.interrupters y p') (hp : p'.err = 0) :
    errorFree t := by
  refine errorFree_of hs hsensors (fun m h hm => ?_) fun z q hz => ?_
  · rw [segmentAt_row, hrows m] at hm
    split at hm
    · cases hm
      exact .inr hg
    · exact .inl (segmentAt_row.mpr hm)
  · rw [interrupterAt_replaced hints] at hz
    split at hz
    · cases hz
      exact .inr hp
    · exact .inl hz

/-- What the first waiter leaves for the others. -/
theorem Escalating.after {o : ChainOutcome} {tab : Table SegPlace} {itab : Table IntPlace} {nq : NoticeQueue}
    (h : Escalating s b pb y (n :: ws) rec v init e p) (hn : n ∉ ws) (hrows : replacesSegment s tab n (isolatedOn y o rec v init e n))
    (hints : replacesInterrupter s itab y p') (hb : p'.boundary = p.boundary) (hp : p'.err = 0) :
    Escalating { s with segments := tab, interrupters := itab, nq } b pb y ws rec v init e p' := by
  have hrec := (h.waiter n (by simp)).record
  have hg : (rec n).err = 0 := h.clean.1.2 n _ hrec
  have hfirst (z : Nat) : interrupterAt { s with segments := tab, interrupters := itab, nq } z = if z = y then some p' else interrupterAt s z :=
    interrupterAt_replaced hints z
  refine ⟨errorFree_rewritten h.clean rfl hrows hg hints hp, h.allowed, ?_, (hfirst y).trans (if_pos rfl),
    fun m hm => ?_, fun m hm => h.short m (by simp [hm]), fun m hm => ?_⟩
  · rw [interrupterOn_congr (s := s) (fun z => ?_) pb]
    · exact h.found
    · rw [hfirst z]
      split
      · rename_i hz
        rw [hz, h.above, Option.map_some, Option.map_some, hb]
      · rfl
  · have hm' := h.waiter m (by simp [hm])
    have hmn : m ≠ n := fun hmn => hn (hmn ▸ hm)
    exact ⟨(segmentAt_of_row ((hrows m).trans (if_neg hmn))).trans hm'.record, hm'.verdict, hm'.chain⟩
  · obtain ⟨rest, hrest⟩ := h.path m (by simp [hm])
    refine ⟨rest, ?_⟩
    rw [candidateBoundaries_replaced (u := { s with segments := tab, interrupters := itab, nq }) hrec hrows rfl rfl, hrest]

theorem replacesInterrupter_self (h : interrupterAt s y = some p) : replacesInterrupter s s.interrupters y p := by
  intro k
  split
  · rename_i hk
    rw [hk]
    exact interrupterAt_row.mp h
  · rfl

theorem replacesInterrupter_trans {t : State} {tab : Table IntPlace} (h : replacesInterrupter s t.interrupters y p)
    (h' : replacesInterrupter t tab y p') : replacesInterrupter s tab y p' := by
  intro k
  rw [h' k, h k]
  split <;> rfl

/-- The waiters after the first join the interrupter that it tripped (R136). -/
theorem Escalating.joins (h : Escalating s b pb y ws rec v init e p) (hstate : p.state = .tripping) (hnd : ws.Nodup)
    (hroom : s.nq.queue.length + ws.length ≤ 32) : ∃ tab itab,
      (∀ k, rowAt tab k = if k ∈ ws then some (.live (isolatedOn y .joined rec v init e k)) else rowAt s.segments k) ∧
      replacesInterrupter s itab y { p with waiters := p.waiters ++ ws } ∧
      forEach ws (escalateOne (walkWith w) x c b) s = { s with
        segments := tab, interrupters := itab
        nq := queued s.ft.frame (ws.map fun n => .escalated x c (some n) (some .isolating) (some y)) s.nq } := by
  induction ws generalizing s p with
  | nil =>
    refine ⟨s.segments, s.interrupters, fun k => by simp, ?_, by rw [List.map_nil, queued_nil]; rfl⟩
    rw [List.append_nil]
    exact replacesInterrupter_self h.above
  | cons n ws ih =>
    obtain ⟨hn, hnd⟩ := List.nodup_cons.mp hnd
    rw [List.length_cons] at hroom
    have herr : p.err = 0 := h.clean.2 y p h.above
    obtain ⟨rest, hpath⟩ := h.path n (by simp)
    obtain ⟨tab, hrows, hone⟩ := escalateOne_joins (w := w) (x := x) (c := c) (h.waiter n (by simp)) h.clean h.allowed hpath h.found
      h.above (h.short n (by simp)) hstate (by omega)
    have hints : replacesInterrupter s (writeInterrupter y { p with waiters := p.waiters ++ [n] } s).interrupters y
      { p with waiters := p.waiters ++ [n] } := writeInterrupter_replaces herr
    obtain ⟨tab', itab', hrows', hints', hothers⟩ := ih
      (h.after (nq := queued s.ft.frame [.escalated x c (some n) (some .isolating) (some y)] s.nq) hn hrows hints rfl herr) hstate hnd
      (by rw [queued_length, List.length_singleton]; omega)
    refine ⟨tab', itab', fun k => ?_, ?_, ?_⟩
    · rw [hrows' k, hrows k]
      by_cases hk : k = n
      · subst hk
        simp [hn, isolatedOn]
      · simp [hk]
    · have htrans := replacesInterrupter_trans hints hints'
      simpa using htrans
    · rw [forEach_cons, hone, hothers]
      dsimp only
      rw [queued_append]
      rfl

/-- The first waiter trips the armed REMOTE interrupter above, the others join it (R126, R136). -/
theorem Escalating.trips (h : Escalating s b pb y (n :: ws) rec v init e p) (hkind : p.kind = .remote) (harmed : p.armed = true)
    (hstate : p.state = .unknown ∨ p.state = .closed) (hnd : (n :: ws).Nodup) (hroom : s.nq.queue.length + 2 + ws.length ≤ 32) :
    ∃ tab itab,
      (∀ k, rowAt tab k = if k = n then some (.live (isolatedOn y .tripped rec v init e k))
        else if k ∈ ws then some (.live (isolatedOn y .joined rec v init e k)) else rowAt s.segments k) ∧
      replacesInterrupter s itab y { tripped n s p with waiters := n :: ws } ∧
      forEach (n :: ws) (escalateOne (walkWith w) x c b) s = { s with
        segments := tab, interrupters := itab
        nq := queued s.ft.frame (.tripStarted y .remote p.boundary p.confirmTime n .escalation ::
          (n :: ws).map fun m => .escalated x c (some m) (some .isolating) (some y)) s.nq } := by
  obtain ⟨hn, hnd⟩ := List.nodup_cons.mp hnd
  have herr : p.err = 0 := h.clean.2 y p h.above
  obtain ⟨rest, hpath⟩ := h.path n (by simp)
  obtain ⟨tab, hrows, hone⟩ := escalateOne_trips (w := w) (x := x) (c := c) (h.waiter n (by simp)) h.clean h.allowed hpath h.found
    h.above (h.short n (by simp)) hkind harmed hstate (by omega)
  have hints : replacesInterrupter s (writeInterrupter y (tripped n s p) s).interrupters y (tripped n s p) := writeInterrupter_replaces herr
  obtain ⟨tab', itab', hrows', hints', hothers⟩ := (h.after
    (nq := queued s.ft.frame [.tripStarted y .remote p.boundary p.confirmTime n .escalation,
      .escalated x c (some n) (some .isolating) (some y)] s.nq) hn hrows hints rfl herr).joins (w := w) (x := x) (c := c) rfl hnd
    (by simp only [queued_length, List.length_cons, List.length_nil]; omega)
  refine ⟨tab', itab', fun k => ?_, replacesInterrupter_trans hints hints', ?_⟩
  · rw [hrows' k, hrows k]
    by_cases hk : k = n
    · subst hk
      simp [hn, isolatedOn]
    · simp [hk]
  · rw [forEach_cons, hone, hothers]
    dsimp only
    rw [queued_append]
    rfl

end
end Sys2Proof.Machine
end

section
namespace Sys2Proof.Machine

/-! ### CONFIRM_TIMER_EXPIRY (R134 to R137; log 4) -/

/-- A TRIPPING interrupter whose confirm timer runs, in a clean state with no request held and room for two notices. -/
structure Failing (x : Fin 16) (r : IntRec) (due : Nat) (s : State) : Prop where
  held : noneHeld s = true
  clean : errorFree s
  record : interrupterAt s x = some r
  state : r.state = .tripping
  confirm : r.confirm = some due
  room : s.nq.queue.length ≤ 30

section
variable {x : Fin 16} {r p : IntRec} {due n y b : Nat} {s t : State} {g : SegRec} {w : Verdict} {ce : ChainEntry} {ci : List ChainEntry}

/-- The state in which the interrupter has FAILED and its waiters are still to escalate. -/
def failedAt (x : Fin 16) (r : IntRec) (due : Nat) (s : State) : State :=
  writeInterrupter x (failedRecord .noOpen r) (arriveAt due s)

theorem Failing.rows (h : Failing x r due s) : replacesInterrupter s (failedAt x r due s).interrupters x (failedRecord .noOpen r) :=
  writeInterrupter_replaces (s := arriveAt due s) (q := failedRecord .noOpen r) (h.clean.2 x r h.record)

theorem Failing.cleanFailed (h : Failing x r due s) : errorFree (failedAt x r due s) := errorFree_failed (s := arriveAt due s) h.clean

theorem Failing.recordArrived (h : Failing x r due s) : interrupterAt (arriveAt due s) x = some r := h.record

theorem candidateBoundaries_failedAt (m : Nat) : candidateBoundaries (failedAt x r due s) m = candidateBoundaries s m :=
  candidateBoundaries_congr (fun _ => rfl) m

theorem Failing.expires (h : Failing x r due s) : confirmExpires x s = failTripping x .noOpen (arriveAt due s) := by
  have hread : readInterrupter x (arriveAt due s) = arriveAt due s := readInterrupterWith_noError _ fun q hq => h.clean.2 x q hq
  unfold confirmExpires
  rw [h.record]
  dsimp only
  rw [h.confirm]
  dsimp only
  rw [hread, h.recordArrived]
  exact if_pos h.state

theorem Failing.urgent (h : Failing x r due s) (hmode : s.mc.mode ≠ .start) : urgencySource s = true := by
  have htripping : isTripping s x = true := by rw [isTripping_of_state h.record, h.state]; rfl
  have hany : allInterrupters.any (isTripping s) = true := List.any_eq_true.mpr ⟨x, mem_allInterrupters.mpr x.isLt, htripping⟩
  simp [urgencySource, hmode, hany]

/-- The state after the expiry, before its tail count is settled. -/
def expiredInto (s : State) (due : Nat) (tab : Table SegPlace) (itab : Table IntPlace) (bodies : List NoticeBody) : State :=
  { s with now := max s.now due, segments := tab, interrupters := itab, nq := queued s.ft.frame bodies s.nq }

/-- The interrupter was TRIPPING, so the expiry begins no urgency (R148). -/
theorem Failing.runs {tab : Table SegPlace} {itab : Table IntPlace} {bodies : List NoticeBody} (h : Failing x r due s)
    (hfails : failTripping x .noOpen (arriveAt due s) = expiredInto s due tab itab bodies) :
    ∃ t, exec (.confirmTimerExpiry x) s = .next t ∧ t.segments = tab ∧ t.interrupters = itab ∧ t = { s with
      now := max s.now due, interrupters := t.interrupters, segments := t.segments
      nq := { queued s.ft.frame bodies s.nq with tail := expiryTail s t } } := by
  have hbegins : (!urgencySource s && urgencySource (expiredInto s due tab itab bodies)) = false := by
    cases hu : urgencySource (expiredInto s due tab itab bodies) with
    | false => simp
    | true => simp [urgent_before (s := s) (u := expiredInto s due tab itab bodies) rfl h.urgent hu]
  have hsettled : settledTail (urgencySource s) (expiredInto s due tab itab bodies) = expiryTail s (expiredInto s due tab itab bodies) := by
    rw [settledTail, hbegins, expiryTail]
    rfl
  refine ⟨{ expiredInto s due tab itab bodies with
    nq := { queued s.ft.frame bodies s.nq with tail := expiryTail s (expiredInto s due tab itab bodies) } }, ?_, rfl, rfl, ?_⟩
  · refine exec_event (c := .confirmTimerExpiry x) (f := settled (confirmExpires x.val)) (fun _ => rfl) ?_ (noneHeld_iff.mp h.held)
    rw [settled, h.expires, hfails, settleUrgency_eq, hsettled]
    rfl
  · rw [expiryTail, expiryTail, urgencySource_congr (s := expiredInto s due tab itab bodies) rfl rfl rfl]
    rfl

/-- With no waiter one ESCALATED notice is raised (R135). -/
theorem Failing.alone (h : Failing x r due s) (hw : r.waiters = []) : ∃ t, exec (.confirmTimerExpiry x) s = .next t ∧
    t.segments = s.segments ∧ replacesInterrupter s t.interrupters x (failedRecord .noOpen r) ∧ t = { s with
      now := max s.now due, interrupters := t.interrupters, segments := t.segments
      nq := { queued s.ft.frame [.escalated x .noOpen none none none] s.nq with tail := expiryTail s t } } := by
  obtain ⟨t, hexec, hseg, hint, ht⟩ := h.runs (tab := s.segments) (failTripping_alone h.recordArrived hw (Nat.lt_of_le_of_lt h.room (by decide)))
  exact ⟨t, hexec, hseg, hint ▸ h.rows, ht⟩

/-- With no trip allowed its waiters are WITHHELD (R123, R135). -/
theorem Failing.withholds {rec : Nat → SegRec} {v : Nat → Verdict} {init : Nat → List ChainEntry} {e : Nat → ChainEntry}
    (h : Failing x r due s) (hno : ¬ (s.mc.mode = .run ∧ effectiveInhibit s = false)) (hw : r.waiters ≠ []) (hnd : r.waiters.Nodup)
    (hwaiter : ∀ n ∈ r.waiters, Waiter s n (rec n) (v n) (init n) (e n)) (hroom : s.nq.queue.length + r.waiters.length ≤ 32) :
    ∃ t, exec (.confirmTimerExpiry x) s = .next t ∧
      (∀ k, rowAt t.segments k = if k ∈ r.waiters then some (.live (chainedRecord (rec k) (v k) .withheld (markedChain (init k) (e k))))
        else rowAt s.segments k) ∧
      replacesInterrupter s t.interrupters x (failedRecord .noOpen r) ∧ t = { s with
        now := max s.now due, interrupters := t.interrupters, segments := t.segments
        nq := { queued s.ft.frame (r.waiters.map fun n => .escalated x .noOpen (some n) (some .withheld) none) s.nq with
          tail := expiryTail s t } } := by
  have hallowed : tripsAllowed s = false := by rw [← Bool.not_eq_true, tripsAllowed_iff]; exact hno
  obtain ⟨tab, hmoved, hfails⟩ := failTripping_withheld (s := arriveAt due s) (x := x) (c := .noOpen) h.clean h.recordArrived hallowed hw hnd
    (fun n hn => by rw [show segmentAt (arriveAt due s) n = segmentAt s n from rfl, (hwaiter n hn).record]; rfl) hroom
  obtain ⟨t, hexec, hseg, hint, ht⟩ := h.runs hfails
  refine ⟨t, hexec, fun k => ?_, hint ▸ h.rows, ht⟩
  rw [hseg, hmoved k]
  by_cases hk : k ∈ r.waiters
  · have hrec := (hwaiter k hk).record
    have hrow : rowAt (arriveAt due s).segments k = some (.live (rec k)) := segmentAt_row.mp hrec
    rw [if_pos hk, if_pos hk, hrow, Option.map_some, rewrittenSegment, ← h.clean.1.2 k _ hrec, movedTo_escalated (hwaiter k hk)]
    rfl
  · rw [if_neg hk, if_neg hk]
    rfl

/-- A waiter whose path ends at the failed boundary goes ISOLATION_FAILED (R136, R137). -/
theorem Failing.fails (h : Failing x r due s) (hallowed : tripsAllowed s = true) (hw : r.waiters = [n]) (hwaiter : Waiter s n g w ci ce)
    (hpath : boundariesAfter r.boundary (candidateBoundaries s n) = []) : ∃ t, exec (.confirmTimerExpiry x) s = .next t ∧
      replacesSegment s t.segments n (chainedRecord g w .isolationFailed (markedChain ci ce)) ∧
      replacesInterrupter s t.interrupters x (failedRecord .noOpen r) ∧ t = { s with
        now := max s.now due, interrupters := t.interrupters, segments := t.segments
        nq := { queued s.ft.frame [.escalated x .noOpen (some n) (some .isolationFailed) none,
          .isolationFailed n w.verdictClass (markedChain ci ce).length] s.nq with tail := expiryTail s t } } := by
  have hpathFailed : boundariesAfter r.boundary (candidateBoundaries (failedAt x r due s) n) = [] := by
    rw [candidateBoundaries_failedAt, hpath]
  obtain ⟨tab, hrows, hone⟩ := escalateOne_fails (s := failedAt x r due s) (w := escalateWith 16) (x := x) (c := .noOpen)
    ⟨hwaiter.record, hwaiter.verdict, hwaiter.chain⟩ h.cleanFailed hallowed hpathFailed (Nat.add_le_add_right h.room 2)
  have hfails : failTripping x .noOpen (arriveAt due s) = expiredInto s due tab (failedAt x r due s).interrupters
      [.escalated x .noOpen (some n) (some .isolationFailed) none, .isolationFailed n w.verdictClass (markedChain ci ce).length] := by
    rw [failTripping_eq h.recordArrived, escalate_waiters (by simp [hw]), hw, forEach_cons, forEach_nil]
    exact hone
  obtain ⟨t, hexec, hseg, hint, ht⟩ := h.runs hfails
  exact ⟨t, hexec, hseg ▸ hrows, hint ▸ h.rows, ht⟩

/-- The armed REMOTE interrupter at boundary p.boundary, above the failed one, UNKNOWN or CLOSED, to which its waiters' paths lead. -/
structure TripsAbove (s : State) (b y : Nat) (p : IntRec) (ws : List Nat) : Prop where
  allowed : tripsAllowed s = true
  lt : y < 16
  record : interrupterAt s y = some p
  kind : p.kind = .remote
  armed : p.armed = true
  state : p.state = .unknown ∨ p.state = .closed
  found : interrupterOn s p.boundary = some y
  path : ∀ n ∈ ws, ∃ rest, boundariesAfter b (candidateBoundaries s n) = p.boundary :: rest

theorem TripsAbove.ne (ha : TripsAbove s b y p ws) (h : Failing x r due s) : y ≠ x.val := by
  rintro rfl
  have hp : p = r := Option.some.inj (ha.record.symm.trans h.record)
  rcases ha.state with hst | hst <;> simp [hp, h.state] at hst

/-- The interrupter above once it has tripped for those waiters (R126). -/
def trippedAbove (s : State) (due : Nat) (p : IntRec) (ws : List Nat) : IntRec := { p with
  state := .tripping, waiters := ws, saved := true, armed := false, outstanding := true
  confirm := some (max s.now due + p.confirmTime * 1000), pulseFrame := some s.ft.frame }

section
variable {rec : Nat → SegRec} {v : Nat → Verdict} {init : Nat → List ChainEntry} {e : Nat → ChainEntry} {ws : List Nat}

theorem TripsAbove.escalating (ha : TripsAbove s r.boundary y p ws) (h : Failing x r due s)
    (hwaiter : ∀ n ∈ ws, Waiter s n (rec n) (v n) (init n) (e n)) (hshort : ∀ n ∈ ws, (init n).length < 15) :
    Escalating (failedAt x r due s) r.boundary p.boundary y ws rec v init e p := by
  have hfailed (z : Nat) : interrupterAt (failedAt x r due s) z = if z = x then some (failedRecord .noOpen r) else interrupterAt s z :=
    interrupterAt_replaced h.rows z
  refine ⟨h.cleanFailed, ha.allowed, ?_, (hfailed y).trans ((if_neg (ha.ne h)).trans ha.record), fun n hn => ?_, hshort, fun n hn => ?_⟩
  · rw [interrupterOn_congr (s := s) (fun z => ?_), ha.found]
    rw [hfailed z]
    by_cases hz : z = x
    · rw [if_pos hz, hz, h.record]
      rfl
    · rw [if_neg hz]
  · obtain ⟨hrec, hv, hc⟩ := hwaiter n hn
    exact ⟨hrec, hv, hc⟩
  · obtain ⟨rest, hrest⟩ := ha.path n hn
    exact ⟨rest, by rw [candidateBoundaries_failedAt, hrest]⟩

/-- The interrupter above is TRIPPING, so the urgency source holds on and the tail count stays (R148). -/
theorem expiryTail_tripping {q : IntRec} (hmode : t.mc.mode = .run) (hy : y < 16) (hq : interrupterAt t y = some q) (hst : q.state = .tripping) :
    expiryTail s t = s.nq.tail := by
  have hsource : urgencySource t = true := urgencySource_of_tripping (by simp [inService, hmode]) hy hq hst
  simp [expiryTail, hsource]

/-- The first waiter trips the interrupter above, the others join it (R126, R136). -/
theorem Failing.trips (h : Failing x r due s) (hw : r.waiters = n :: ws) (hnd : (n :: ws).Nodup) (ha : TripsAbove s r.boundary y p (n :: ws))
    (hwaiter : ∀ m ∈ n :: ws, Waiter s m (rec m) (v m) (init m) (e m)) (hshort : ∀ m ∈ n :: ws, (init m).length < 15)
    (hroom : s.nq.queue.length + 2 + ws.length ≤ 32) : ∃ t, exec (.confirmTimerExpiry x) s = .next t ∧
      (∀ k, rowAt t.segments k = if k = n then some (.live (isolatedOn y .tripped rec v init e k))
        else if k ∈ ws then some (.live (isolatedOn y .joined rec v init e k)) else rowAt s.segments k) ∧
      (∀ k, rowAt t.interrupters k = if k = x.val then some (.live (failedRecord .noOpen r))
        else if k = y then some (.live (trippedAbove s due p (n :: ws))) else rowAt s.interrupters k) ∧
      t = { s with
        now := max s.now due, interrupters := t.interrupters, segments := t.segments
        nq := queued s.ft.frame (.tripStarted y .remote p.boundary p.confirmTime n .escalation ::
          (n :: ws).map fun m => .escalated x .noOpen (some m) (some .isolating) (some y)) s.nq } := by
  obtain ⟨tab, itab, hrows, hints, hall⟩ := (ha.escalating h hwaiter hshort).trips (w := escalateWith 16) (x := x) (c := .noOpen)
    ha.kind ha.armed ha.state hnd hroom
  have htripped : { tripped n (failedAt x r due s) p with waiters := n :: ws } = trippedAbove s due p (n :: ws) := by
    simp only [tripped, trippedAbove, ha.armed]
    rfl
  rw [htripped] at hints
  have hfails : failTripping x .noOpen (arriveAt due s) = expiredInto s due tab itab
      (.tripStarted y .remote p.boundary p.confirmTime n .escalation ::
        (n :: ws).map fun m => .escalated x .noOpen (some m) (some .isolating) (some y)) := by
    rw [failTripping_eq h.recordArrived, escalate_waiters (by simp [hw]), hw]
    exact hall
  obtain ⟨t, hexec, hseg, hint, ht⟩ := h.runs hfails
  rw [← hint] at hints
  have hmode : t.mc.mode = .run := by
    rw [ht]
    exact (tripsAllowed_iff.mp ha.allowed).1
  rw [expiryTail_tripping (q := trippedAbove s due p (n :: ws)) hmode ha.lt ((interrupterAt_replaced hints y).trans (if_pos rfl)) rfl] at ht
  refine ⟨t, hexec, hseg ▸ hrows, fun k => ?_, ht⟩
  rw [hints k, h.rows k]
  by_cases hk : k = x
  · rw [if_neg (fun hy => ha.ne h (hy.symm.trans hk)), if_pos hk, if_pos hk]
  · rw [if_neg hk, if_neg hk]

end
end
end Sys2Proof.Machine
end

section
namespace Sys2Proof.Machine

/-! ### The pulse timer and the TRIP pin (R141, R142) -/

/-- The expiry ends its channel's pulse (R142). -/
theorem exec_pulseTimerExpiry {ch : Fin 4} {due : Nat} {s : State} (hheld : noneHeld s = true)
    (hpulse : (s.channels.get ch).pulse = some due) : exec (.pulseTimerExpiry ch) s = .next { s with
      now := max s.now due, channels := (modifyChannel ch (fun c => { c with pulse := none }) s).channels } := by
  refine exec_event (c := .pulseTimerExpiry ch) (f := pulseExpires ch) (fun _ => rfl) ?_ (noneHeld_iff.mp hheld)
  rw [pulseExpires, hpulse]
  rfl

theorem tripPin_active {ch : Fin 4} {s : State} (h : ((s.channels.get ch).pulse.isSome && !(s.channels.get ch).failed) = true) :
    tripPin s ch = activeLevel (s.channels.get ch).polarity (s.channels.get ch).drive := if_pos h

theorem tripPin_inactive {ch : Fin 4} {s : State} (h : ((s.channels.get ch).pulse.isSome && !(s.channels.get ch).failed) = false) :
    tripPin s ch = inactiveLevel (s.channels.get ch).polarity (s.channels.get ch).drive := if_neg (Bool.eq_false_iff.mp h)

/-! ### A single waiter is a list of one -/

section
variable {x : Fin 16} {r p : IntRec} {due n y b : Nat} {s : State} {g : SegRec} {w : Verdict} {ce : ChainEntry} {ci : List ChainEntry}

theorem boundariesAfter_head {rest : List Nat} : boundariesAfter b (b :: rest) = rest := if_pos rfl

/-- A walk that goes on from boundary b leaves out b and what stands below it. -/
theorem boundariesAfter_below {below rest : List Nat} (h : b ∉ below) : boundariesAfter b (below ++ b :: rest) = rest := by
  induction below with
  | nil => exact boundariesAfter_head
  | cons c below ih =>
    have hc : c ≠ b := fun hc => h (by simp [hc])
    exact (if_neg hc).trans (ih fun hb => h (List.mem_cons_of_mem c hb))

theorem Failing.withholds_single (h : Failing x r due s) (hno : ¬ (s.mc.mode = .run ∧ effectiveInhibit s = false)) (hw : r.waiters = [n])
    (hwaiter : Waiter s n g w ci ce) : ∃ t, exec (.confirmTimerExpiry x) s = .next t ∧
      replacesSegment s t.segments n (chainedRecord g w .withheld (markedChain ci ce)) ∧
      replacesInterrupter s t.interrupters x (failedRecord .noOpen r) ∧ t = { s with
        now := max s.now due, interrupters := t.interrupters, segments := t.segments
        nq := { queued s.ft.frame [.escalated x .noOpen (some n) (some .withheld) none] s.nq with tail := expiryTail s t } } := by
  have hroom := h.room
  obtain ⟨t, hexec, hrows, hints, ht⟩ := h.withholds (rec := fun _ => g) (v := fun _ => w) (init := fun _ => ci) (e := fun _ => ce) hno
    (by simp [hw]) (by simp [hw]) (by simpa [hw] using hwaiter) (by rw [hw, List.length_singleton]; omega)
  rw [hw] at ht
  refine ⟨t, hexec, fun k => ?_, hints, ht⟩
  rw [hrows k, hw]
  simp only [List.mem_singleton]

theorem Failing.trips_single (h : Failing x r due s) (hw : r.waiters = [n]) (ha : TripsAbove s r.boundary y p [n])
    (hwaiter : Waiter s n g w ci ce) (hshort : ci.length < 15) : ∃ t, exec (.confirmTimerExpiry x) s = .next t ∧
      replacesSegment s t.segments n (chainedRecord g w .isolating (markedChain ci ce ++ [⟨y, .tripped⟩])) ∧
      (∀ k, rowAt t.interrupters k = if k = x.val then some (.live (failedRecord .noOpen r))
        else if k = y then some (.live (trippedAbove s due p [n])) else rowAt s.interrupters k) ∧
      t = { s with
        now := max s.now due, interrupters := t.interrupters, segments := t.segments
        nq := queued s.ft.frame [.tripStarted y .remote p.boundary p.confirmTime n .escalation,
          .escalated x .noOpen (some n) (some .isolating) (some y)] s.nq } := by
  have hroom := h.room
  obtain ⟨t, hexec, hrows, hints, ht⟩ := h.trips (rec := fun _ => g) (v := fun _ => w) (init := fun _ => ci) (e := fun _ => ce) hw
    (by simp) ha (by simpa using hwaiter) (by simpa using hshort) (by rw [List.length_nil]; omega)
  refine ⟨t, hexec, fun k => ?_, hints, ht⟩
  rw [hrows k]
  simp only [List.not_mem_nil, if_false]
  rfl

end

/-- Settles O55: the pulse timer, the pin's table, then what each waiter's walk leaves (`Failing.alone`, `Failing.withholds`,
`Failing.trips`, `Failing.fails`). -/
theorem timersExpire : Obligations.TimersExpire := by
  refine ⟨fun ch due s hheld hpulse => ⟨_, exec_pulseTimerExpiry hheld hpulse, fun k => ?_⟩, fun ch s => ?_,
    fun x s r due hheld hclean hr hst hdue hroom => ?_⟩
  · rw [modifyChannel_get]
    by_cases hk : k = ch
    · rw [if_pos hk, if_pos hk, hk]
    · rw [if_neg hk, if_neg hk]
  · intro c
    cases hon : c.pulse.isSome && !c.failed with
    | true =>
      rw [tripPin_active hon]
      cases c.polarity <;> cases c.drive <;> simp [activeLevel]
    | false =>
      rw [tripPin_inactive hon]
      cases c.polarity <;> cases c.drive <;> simp [inactiveLevel]
  have h : Failing x r due s := ⟨hheld, errorFree_of_clean hclean, hr, hst, hdue, hroom⟩
  intro now note failed tail allowed
  refine ⟨fun hw => ?_, fun rec v init e hne hnd hlen hwaiters => ?_, fun n q v init e hw hn hq hv hchain => ?_⟩
  · obtain ⟨t, hexec, hseg, hint, ht⟩ := h.alone hw
    rw [hseg] at ht
    exact ⟨t, hexec, hint, ht⟩
  · intro notes became
    have hwaiter (n : Nat) (hn : n ∈ r.waiters) : Waiter s n (rec n) (v n) (init n) (e n) := by
      obtain ⟨-, hrec, hv, hchain⟩ := hwaiters n hn
      exact ⟨hrec, hv, hchain⟩
    refine ⟨fun hno => ?_, fun first others y p hyes hw hy hp hkind harmed hstate honly hpath => ?_⟩
    · obtain ⟨t, hexec, hrows, hint, ht⟩ := h.withholds hno hne hnd hwaiter (by omega)
      refine ⟨t, hexec, fun k => ?_, hint, ?_⟩
      · rw [hrows k]
        simp only [became, List.append_nil]
        rfl
      · rw [queued, List.length_map] at ht
        exact ht
    · have ha : TripsAbove s r.boundary y p (first :: others) := by
        refine ⟨tripsAllowed_iff.mpr hyes, hy, hp, hkind, harmed, hstate, interrupterOn_only hy hp honly, fun n hn => ?_⟩
        obtain ⟨-, below, above, hcandidates, hbelow⟩ := hpath n (hw ▸ hn)
        exact ⟨above, by rw [hcandidates, boundariesAfter_below hbelow]⟩
      rw [hw, List.length_cons] at hlen
      obtain ⟨t, hexec, hrows, hint, ht⟩ := h.trips hw (hw ▸ hnd) ha (hw ▸ hwaiter) (fun n hn => (hpath n (hw ▸ hn)).1) (by omega)
      rw [hw]
      refine ⟨t, hexec, hrows, hint, ?_⟩
      rw [queued, List.length_cons, List.length_map, Nat.add_comm] at ht
      exact ht
  · intro chain rows
    have hwaiter : Waiter s n q v init e := ⟨hq, hv, hchain⟩
    refine ⟨fun hno => h.withholds_single hno hw hwaiter, fun hyes hup hroot => ?_,
      fun m g y p hyes hup hm hmn hg hdown honly hne hy hp hb hkind harmed hstate honlyInt hlen => ?_⟩
    · refine h.fails (tripsAllowed_iff.mpr hyes) hw hwaiter ?_
      rw [candidateBoundaries_root hq hroot, hup, boundariesAfter_head]
    · have ha : TripsAbove s r.boundary y p [n] := by
        refine ⟨tripsAllowed_iff.mpr hyes, hy, hp, hkind, harmed, .inr hstate, interrupterOn_only hy hp (hb ▸ honlyInt), fun k hk => ?_⟩
        obtain ⟨above, hcandidates⟩ := candidateBoundaries_child hq hm hg hdown honly
        exact ⟨above, by rw [List.mem_singleton.mp hk, hcandidates, hup, boundariesAfter_head, hb]⟩
      refine h.trips_single hw ha hwaiter ?_
      have hlength := markedChain_length init e
      have hshort : (markedChain init e).length < 16 := hlen
      omega

end Sys2Proof.Machine
end
